-- ==== Sys2Proof/Word.lean ====
section
/-! DEFINITION. The byte and the two hardware counters that wrap. Everything else the manual counts is a
plain number. -/

namespace Sys2Proof

/-- One byte of a message, a frame, an image or a configuration record. -/
abbrev Byte := BitVec 8

/-- An encoder count or a position on the belt: 0 to 65,535, wrapping (R160). -/
abbrev Count := BitVec 16

/-- A capture timer reading in microseconds: 0 to 4,294,967,295, wrapping (R160). -/
abbrev Micros := BitVec 32

end Sys2Proof
end

