-- ==== Sys2Proof/Machine/Bytes.lean ====
section
/-! DEFINITION. Byte order, rounding and the CRC-16: the helpers every layout and every division of the
manual uses. -/

namespace Sys2Proof.Machine

/-- The byte that holds a number below 256. -/
def byteOf (n : Nat) : Byte := BitVec.ofNat 8 n

/-- A number in two bytes, most significant first (R19, R109, R186). -/
def be16 (n : Nat) : List Byte := [byteOf (n / 256), byteOf n]

/-- A number in three bytes, most significant first (R186). -/
def be24 (n : Nat) : List Byte := [byteOf (n / 65536), byteOf (n / 256), byteOf n]

/-- A number in four bytes, most significant first (R186). -/
def be32 (n : Nat) : List Byte :=
  [byteOf (n / 16777216), byteOf (n / 65536), byteOf (n / 256), byteOf n]

/-- A signed number as a four-byte two's complement (R186). -/
def beSigned (i : Int) : List Byte := be32 (BitVec.ofInt 32 i).toNat

/-- The unsigned number that bytes spell, most significant first. -/
def ofBytes (bs : List Byte) : Nat := bs.foldl (fun acc b => acc * 256 + b.toNat) 0

/-- The byte at an offset of a block of bytes (0 past its end). -/
def byteAt (bs : List Byte) (off : Nat) : Nat := (bs.getD off 0).toNat

/-- The two-byte number at an offset. -/
def u16At (bs : List Byte) (off : Nat) : Nat := byteAt bs off * 256 + byteAt bs (off + 1)

/-- The three-byte number at an offset. -/
def u24At (bs : List Byte) (off : Nat) : Nat := u16At bs off * 256 + byteAt bs (off + 2)

/-- The four-byte number at an offset. -/
def u32At (bs : List Byte) (off : Nat) : Nat := u16At bs off * 65536 + u16At bs (off + 2)

/-- One bit of the CRC-16 with polynomial x^16+x^12+x^5+1, the register's top bit leaving first. -/
def crcBit (r : BitVec 16) (b : Bool) : BitVec 16 :=
  if (r.msb != b) then (r <<< 1) ^^^ 0x1021#16 else r <<< 1

/-- One byte into the CRC-16, most significant bit first, without reflection. -/
def crcByte (r : BitVec 16) (b : Byte) : BitVec 16 :=
  [7, 6, 5, 4, 3, 2, 1, 0].foldl (fun acc i => crcBit acc (b.getLsbD i)) r

/-- The CRC-16 over bytes in order, initial value all ones, no final XOR (introduction, Table 3; R24, R110). -/
def crc16 (bs : List Byte) : Nat := (bs.foldl crcByte 0xFFFF#16).toNat

/-- The ceiling of a / b (introduction, Table 2). -/
def ceilDiv (a b : Nat) : Nat := (a + b - 1) / b

/-- a / b rounded half up, a value exactly halfway going to the higher number (introduction, Table 2). -/
def roundDiv (a b : Nat) : Nat := (2 * a + b) / (2 * b)

/-- A signed quotient rounded half up (R5, R6): the higher whole number of a tie, for a negative one too. -/
def roundDivInt (a : Int) (b : Nat) : Int := (2 * a + b) / (2 * (b : Int))

/-- A saturating counter: it stops at its maximum (introduction, Conventions). -/
def satAdd (limit n m : Nat) : Nat := if n + m > limit then limit else n + m

end Sys2Proof.Machine
end

