-- ==== Sys2Proof/Config.lean ====
section
/-! DEFINITION. The part's fixed sizes and periods, and the free values: what the manual leaves open. -/

namespace Sys2Proof.Config

/-- FREE VALUE (log entry 2). A write to a board memory that is cut short or fails leaves an unknown mixture
of old and new bytes (R32, R178, R193): whether the byte at an offset is the new one, for the n-th such write. -/
opaque mixNew : Nat → Nat → Bool

/-- FREE VALUE (log entry 3). What a configuration field reads as where the record was not read that far
(R192, MISSING), at the n-th start. -/
opaque unreadByte : Nat → Nat → Byte

/-- Bytes of the rate and route image (R19). -/
def imageLen : Nat := 4559

/-- Bytes of the configuration record (R192). -/
def recordLen : Nat := 81

/-- Records the parcel queue holds (R60). -/
def queueLen : Nat := 6

/-- Reports the report queue holds (R188). -/
def reportLen : Nat := 16

/-- Edge records the edge queue holds beside the holding record (R161). -/
def edgeLen : Nat := 8

/-- Entries of the action table (R168). -/
def actionLen : Nat := 8

/-- GIVE frames that may be pending (R119). -/
def giveLen : Nat := 4

/-- Settled-weight history values kept (R10). -/
def historyLen : Nat := 64

/-- The money range's top (R51). -/
def moneyMax : Nat := 999999

/-- The serial's top (R177). -/
def serialMax : Nat := 999999

/-- The tare's top in sixteenths (R8). -/
def tareMax : Nat := 16000

/-- Milliseconds of a day (R87). -/
def dayMs : Nat := 86400000

/-- Days of the clock's cycle (R87). -/
def yearDays : Nat := 366

/-- Milliseconds of the clock's cycle (R88). -/
def cycleMs : Nat := 31622400000

/-- A step below this is a forward step: 183 days (R88). -/
def forwardMs : Nat := 15811200000

/-- The largest backward step taken (R88). -/
def backwardMs : Nat := 60000

/-- The plate timeout in milliseconds (R65). -/
def plateTimeoutMs : Nat := 30000

/-- The print timer in milliseconds (R181). -/
def printMs : Nat := 5000

/-- The busy limit in milliseconds (R118). -/
def busyMs : Nat := 50

/-- The QUIET period in milliseconds (R122). -/
def quietMs : Nat := 2000

/-- The ACTIVE timer in milliseconds (R124). -/
def activeMs : Nat := 60000

/-- Failed attempts at which a frame is abandoned (R117). -/
def attemptLimit : Nat := 8

/-- Frames abandoned in a row at which the QUIET trigger occurs (R122). -/
def abandonLimit : Nat := 4

/-- Offset of copy A of the reservation cell in the configuration memory (chapter 11, Table 4). -/
def cellABase : Nat := 128

/-- Offset of copy B. -/
def cellBBase : Nat := 136

end Sys2Proof.Config
end

