-- ==== Sys2Proof/Syntax.lean ====
section
/-! DEFINITION. The commands of the part: one constructor per row of spec/opcode_table.json. A row that is a
terminal command carries the payload of R186, Table 1. A row that is an event carries what the outside
world decides in it: a code of the converter, whether a memory answers, what a peer's frame says. -/

namespace Sys2Proof

/-- The two changes of the outfeed beam (R161). -/
inductive EdgeKind where
  | brk
  | make
deriving DecidableEq, Repr

/-- The state of the outfeed beam (R161). -/
inductive Beam where
  | made
  | broken
deriving DecidableEq, Repr

/-- The commands and events of the ZG418, in the order of spec/opcode_table.json. -/
inductive Instr where
  /-- POWER_ON (R194). `answered` is how many of the 81 record bytes the configuration memory answers,
  `cellA` and `cellB` whether it answers the two reservation cell copies, `imageRead` whether the image
  memory answers its read to the end. `beam` and `faultLine` are the two inputs as the part finds them. -/
  | powerOn (answered : Nat) (cellA cellB imageRead : Bool) (beam : Beam) (faultLine : Bool)
  /-- RESTART_INPUT (R195): the restart input becomes asserted. -/
  | restartInput (answered : Nat)
  /-- RESTART (R195). -/
  | restart (answered : Nat)
  /-- BAD_COMMAND (R186): a message whose kind or length no command has. -/
  | badCommand (kind : Byte) (payload : List Byte)
  | accept (postcode : List Byte) (service : Byte) (declared : BitVec 24)
  | confirm (tag quote : Byte)
  | void (tag : Byte)
  | fetch
  | queryParcel (tag : Byte)
  | queryStation
  | queryDispatch (route : Byte)
  | queryPeers
  | setClock (day : BitVec 16) (ms : BitVec 32)
  | setTare (tare : BitVec 16)
  | zero
  | clearFlags
  | setAttention (mask : BitVec 16) (edge : Byte)
  | ackAttention (payload : List Byte)
  | loadBegin
  | loadChunk (bytes : List Byte)
  | loadEnd
  /-- IMAGE_STORE_COMPLETE (R32): the write and read-back ends, matching or not. -/
  | imageStoreComplete (matched : Bool)
  | readTariff (offset : BitVec 16) (count : Byte)
  | releaseJoin
  | printerRetry
  | setNextConfig (record : List Byte)
  /-- CONFIG_WRITE_COMPLETE (R193): the write and read-back ends, matching or not. -/
  | configWriteComplete (matched : Bool)
  | readConfig (copy : Byte)
  /-- SCAN_STEP (R3): the step interval expires. `code` is the 16-bit code of the conversion that ends. -/
  | scanStep (code : BitVec 16)
  | plateTimeout
  | cutOff (route : Nat)
  | dayChange
  /-- CELL_WRITE_COMPLETE (R178): the cell write ends, its read-back matching or not. -/
  | cellWriteComplete (matched : Bool)
  | contentionPoint
  | lostArbitration
  | bitError
  /-- ACK_SLOT (R116): the sender observes its acknowledgement slot. -/
  | ackSlot (dominant : Bool)
  | busyLimit
  | quietExpiry
  | activeTimerExpiry
  | listenTimerExpiry
  | gatherTimerExpiry
  | presenceTimerExpiry
  | silenceTimerExpiry (station : Nat)
  /-- FRAME_NOT_WELL_FORMED (R112): the bytes observed of a frame that is not well-formed. -/
  | frameNotWellFormed (bytes : List Byte)
  | presenceReceived (sender edition : Nat) (join : Bool) (busCode routeCount : Nat)
  | askReceived (sender askNo route day slot units : Nat)
  | giveReceived (sender target askNo giveNo route day slot units : Nat)
  | askWindowExpiry
  | edgeCapture (kind : EdgeKind)
  | takeBreak
  | takeMake
  | encoderPulse
  | jam (tag : Nat)
  | printerDone
  /-- PRINTER_FAULT (R181): the printer fault line changes, to asserted or to clear. -/
  | printerFault (asserted : Bool)
  | printTimeout
  | powerLoss
deriving DecidableEq, Repr

end Sys2Proof
end

