-- ==== Sys2Proof/Machine/State.lean ====
section
/-! DEFINITION. The state of the part, block by block (introduction, Table 1), as plain data, and its value
at reset. Each block's structure holds the state that its chapter gives it. -/

namespace Sys2Proof.Machine

/-! ### Named values -/

/-- The eight analogue channels (R1, Table 1), in the numbering of chapter 11, Table 5. -/
inductive Channel where
  | lc0 | lc1 | lc2 | lc3 | dh | dw | dl | ref
deriving DecidableEq, Repr

/-- The two services (R21). -/
inductive Service where
  | standard
  | priority
deriving DecidableEq, Repr

/-- The states of a parcel record, in the order of chapter 4, Table 2. -/
inductive PState where
  | waitPlate | measuring | rating | seeking | quoted | labelPending | onBelt | done | void | rejected
deriving DecidableEq, Repr

/-- The outcome of a record in a final state (R81). -/
inductive EndOutcome where
  | done | void | rejected
deriving DecidableEq, Repr

/-- The reason of an outcome, in the order of R186. -/
inductive Reason where
  | command | plateTimeout | sensor | overweight | oversizeLimit | beyondTariff | labelLate | gapFault
  | lengthMismatch | jam | lengthUnknown
deriving DecidableEq, Repr

/-- The response codes (chapter 11, Table 2). -/
inductive Code where
  | ok | busy | queueFull | notReady | noClock | noTariff | loading | range | unserved | unknownTag
  | notQuoted | staleQuote | notVoidable | serialExhausted | locked | badImage | plateNotCleared | badCommand
deriving DecidableEq, Repr

/-- The bus states, in the order of their codes (R109). -/
inductive BusState where
  | off | listen | hold | announce | gather | active | quiet | failed
deriving DecidableEq, Repr

/-- The kinds of frame the transmit queue holds (R109). -/
inductive TxKind where
  | give | ask | presence
deriving DecidableEq, Repr

/-- The endings of a queued frame (R121, Table 3). -/
inductive Ending where
  | acknowledged | unheard | abandoned | dropped | withdrawn
deriving DecidableEq, Repr

/-- The status of a peer entry (R134). -/
inductive PeerStatus where
  | present | mismatch | silent
deriving DecidableEq, Repr

/-- The phases of the open ask (R143). -/
inductive AskPhase where
  | waiting | sending | window
deriving DecidableEq, Repr

/-- The attention sources 0 to 8 (R189, Table 3). -/
inductive Source where
  | reportPending | printerFault | busState | sensorFault | edgeOverrun | peerChange | jam | duplicate
  | reportLost
deriving DecidableEq, Repr

/-- The printer states (R181). -/
inductive Printer where
  | idle | printing | presented | fault
deriving DecidableEq, Repr

/-- The states of the staging area (chapter 2, section 2.6). -/
inductive Staging where
  | idle | staging | storing
deriving DecidableEq, Repr

/-- RUNNING or CONFIG-FAULT (R192). -/
inductive Station where
  | running | configFault
deriving DecidableEq, Repr

/-- The classes of a configuration fault (R192). -/
inductive CfgClass where
  | missing | check | format | range
deriving DecidableEq, Repr

/-- The classes of an image fault (R25, Table 3, and STORE), in the order of R186. -/
inductive ImgClass where
  | length | check | edition | limits | standard | priority | zoneMap | schedule | routeRef | store
deriving DecidableEq, Repr

/-- A configuration fault: its class and, for RANGE, the offset (R192). -/
structure CfgFault where
  cls : CfgClass
  offset : Option Nat
deriving DecidableEq, Repr

/-- An image fault: its class and, for the classes so marked, the offset (R25). -/
structure ImgFault where
  cls : ImgClass
  offset : Option Nat
deriving DecidableEq, Repr

/-- A reading of the station clock when set (R87). -/
structure ClockTime where
  day : Nat
  ms : Nat
deriving DecidableEq, Repr

/-- A board memory: address and byte pairs, addresses strictly rising, none equal to what an unlisted
address reads as. -/
abbrev Memory := List Host.Cell

/-! ### Plate scanner (chapter 1) -/

/-- The result of one scan table entry (R1, R3). -/
structure ScanResult where
  code : Int
  fault : Bool
deriving DecidableEq, Repr

/-- The latest round weight (R17): none, INVALID, or W16. -/
inductive Weight where
  | none
  | invalid
  | value (w : Nat)
deriving DecidableEq, Repr

/-- The dimension measurement of the record in MEASURING (R15). -/
structure Measurement where
  accH : Nat
  accW : Nat
  accL : Nat
  clampH : Bool
  clampW : Bool
  clampL : Bool
  rounds : Nat
  valid : Bool
deriving DecidableEq, Repr

/-- The plate scanner's state (R17, R18). -/
structure Plate where
  /-- the scanner runs (R3) -/
  running : Bool
  /-- the current entry k (R3) -/
  cur : Nat
  /-- a conversion of the current entry is in progress (R3) -/
  converting : Bool
  /-- when the step interval expires, in microseconds of the part's own clock (R3) -/
  stepDue : Nat
  /-- the latest result of each of the 8 entries, absent for NONE (R3) -/
  results : List (Option ScanResult)
  /-- the reference check of the latest round: passed or failed, absent for NONE (R4, R17) -/
  refPassed : Option Bool
  /-- the SENSOR-FAULT condition (R4) -/
  sensorFault : Bool
  /-- the zero Z when CAPTURED, absent for NONE (R6) -/
  zero : Option Int
  /-- zero capture: run count, first sum, running total (R6) -/
  capRun : Nat
  capFirst : Int
  capTotal : Int
  /-- the tare T16 (R8) -/
  tare : Nat
  /-- the band's lower bound Lo (R9); Hi is Lo + 2H -/
  lo : Int
  /-- the motion parity (R9) -/
  parity : Bool
  /-- the quiet count (R10) -/
  quiet : Nat
  /-- the settled-weight history, oldest first (R10) -/
  history : List Nat
  /-- the plate-clear count (R13) -/
  clear : Nat
  /-- the latest round weight (R17) -/
  latest : Weight
  /-- the measurement in progress (R15) -/
  meas : Option Measurement
deriving DecidableEq, Repr

/-! ### Rating unit (chapter 3) -/

/-- The five rating flags of a record (R56). -/
structure RatingFlags where
  clamped : Bool
  volumetric : Bool
  oversize : Bool
  saturated : Bool
  rounded : Bool
deriving DecidableEq, Repr

/-- The rating result of a record (R39, Table 2): a field is absent until its stage has run. -/
structure Rating where
  flags : RatingFlags
  vg : Option Nat
  cs : Option Nat
  band : Option Nat
  steps : Option Nat
  base : Option Nat
  remote : Option Nat
  oversizeFee : Option Nat
  insurance : Option Nat
  total : Option Nat
  price : Option Nat
  load : Option Nat
deriving DecidableEq, Repr

/-- The six station summary flags (R57). -/
structure Summary where
  clamped : Bool
  volumetric : Bool
  oversize : Bool
  saturated : Bool
  rounded : Bool
  invalid : Bool
deriving DecidableEq, Repr

/-! ### Image store (chapter 2) -/

/-- The image store's state (R36), with the image memory on the board. -/
structure ImageStore where
  /-- the active image's 4,559 bytes, or none (R19) -/
  image : Option (List Byte)
  /-- the image fault, absent for NONE (R25) -/
  fault : Option ImgFault
  staging : Staging
  /-- the staged bytes; their number is the fill count (R30) -/
  staged : List Byte
  /-- the image memory (R26, R32) -/
  mem : Memory
deriving DecidableEq, Repr

/-! ### Parcel queue (chapter 4) -/

/-- What a record is booked on: a dispatch of its route's ring, or DEFERRED (R62, R68). -/
inductive Booked where
  | entry (day slot : Nat)
  | deferred
deriving DecidableEq, Repr

/-- The dimensions handed over: INVALID, or three dimensions by channel with the CLAMPED mark (R15). -/
inductive Dims where
  | invalid
  | mm (h w l : Nat) (clamped : Bool)
deriving DecidableEq, Repr

/-- The three outfeed marks (R62). -/
structure Marks where
  labelLate : Bool
  gapFault : Bool
  lengthMismatch : Bool
deriving DecidableEq, Repr

/-- A report of the report queue (R188). -/
inductive Report where
  | quote (tag quote : Nat) (service : Service) (route : Nat) (dispatch : Booked)
      (cs load total price : Nat) (flags : RatingFlags)
  | parcelEnd (tag : Nat) (outcome : EndOutcome) (reason : Option Reason) (quote : Option Nat)
      (dispatch : Option Booked) (tracking : Option (List Nat)) (flags : RatingFlags) (marks : Marks)
  | event (source : Source) (clock : Option ClockTime) (bus : Option BusState)
deriving DecidableEq, Repr

/-- A report owed by a record, with its due order: the smaller, the older (R82, R83). -/
structure Owed where
  due : Nat
  report : Report
deriving DecidableEq, Repr

/-- A parcel record (R62, Table 1). An absent field is `none`. -/
structure Parcel where
  tag : Nat
  state : PState
  postcode : List Byte
  service : Service
  declared : Nat
  zone : Nat
  route : Nat
  remote : Bool
  /-- the plate-clear mark: true for CLEARED (R67) -/
  cleared : Option Bool
  /-- the measured weight in grams and in sixteenths (R66) -/
  weight : Option (Nat × Nat)
  dims : Option Dims
  rating : Rating
  quote : Option Nat
  /-- the quote standing: true for STANDING, false for WITHDRAWN -/
  standing : Option Bool
  dispatch : Option Booked
  /-- the record holds a booking: its load is counted on an open entry or on DEFERRED (R68) -/
  holds : Bool
  /-- the sixteen digits of the tracking number -/
  tracking : Option (List Nat)
  /-- outfeed front position and capture time -/
  front : Option (Count × Micros)
  /-- outfeed length in millimetres -/
  length : Option Nat
  /-- the outfeed marks, absent until the tracker or the action table sets one (R62, R80; log entry 31) -/
  marks : Option Marks
  outcome : Option EndOutcome
  reason : Option Reason
  owed : Option Owed
  /-- when the plate timeout expires, on the millisecond timer (R65) -/
  plateDue : Option Nat
deriving DecidableEq, Repr

/-- The parcel queue: records oldest first, the tag cursor, and the next due order. -/
structure ParcelQueue where
  parcels : List Parcel
  cursor : Nat
  nextDue : Nat
deriving DecidableEq, Repr

/-! ### Dispatch table (chapter 5) -/

/-- A dispatch entry (R90, Table 1). -/
structure Entry where
  day : Nat
  slot : Nat
  minute : Nat
  held : Nat
  booked : Nat
  reserved : Nat
deriving DecidableEq, Repr

/-- A route's ring, head first, and the deferred count of its DEFERRED pseudo-entry (R90). -/
structure Ring where
  route : Nat
  entries : List Entry
  deferred : Nat
deriving DecidableEq, Repr

/-- A booking request (R93). `rated` tells a request made at the end of a rating from a requote (R95). -/
structure Request where
  tag : Nat
  route : Nat
  load : Nat
  rated : Bool
deriving DecidableEq, Repr

/-- The current booking (R93): the entry under trial, the entries tried, whether the entry under trial has
been asked for, and the phase (true for ASKING). -/
structure Booking where
  request : Request
  trial : Option (Nat × Nat)
  tries : Nat
  asked : Bool
  asking : Bool
deriving DecidableEq, Repr

/-- The dispatch table with the station clock (R87, R93, R105). -/
structure DispatchTable where
  clock : Option ClockTime
  rings : List Ring
  line : List Request
  current : Option Booking
  expired : Nat
  stranded : Nat
deriving DecidableEq, Repr

/-! ### Share agent (chapter 8) -/

/-- The open ask (R143); `windowEnd` is a millisecond timer reading, used in WINDOW. -/
structure OpenAsk where
  askNo : Nat
  route : Nat
  day : Nat
  slot : Nat
  wanted : Nat
  received : Nat
  phase : AskPhase
  windowEnd : Nat
deriving DecidableEq, Repr

/-- The share agent's own state (R159). Its pending GIVE list is the list of GIVE frames in the transmit queue
(R148: the list is the share agent's view of those frames). -/
structure ShareAgent where
  openAsk : Option OpenAsk
  nextAsk : Nat
  nextGive : Nat
  late : Nat
deriving DecidableEq, Repr

/-! ### Hall bus controller (chapter 6) -/

/-- A GIVE frame in the transmit queue, which is also a pending GIVE (R119, R148). `live` is set while the
entry it was reserved on has not closed (R101, R149). -/
structure TxGive where
  target : Nat
  askNo : Nat
  giveNo : Nat
  route : Nat
  day : Nat
  slot : Nat
  units : Nat
  begun : Bool
  fails : Nat
  live : Bool
deriving DecidableEq, Repr

/-- The ASK frame in the transmit queue (R144). -/
structure TxAsk where
  askNo : Nat
  route : Nat
  day : Nat
  slot : Nat
  units : Nat
  begun : Bool
  fails : Nat
deriving DecidableEq, Repr

/-- What is fixed of a PRESENCE when its first attempt begins (R120). -/
structure Fixed where
  edition : Nat
  busCode : Nat
  routeCount : Nat
deriving DecidableEq, Repr

/-- The PRESENCE frame in the transmit queue; it has begun when its payload is fixed (R119, R120). -/
structure TxPresence where
  join : Bool
  fixed : Option Fixed
  fails : Nat
deriving DecidableEq, Repr

/-- The hall bus controller's state (R119, R125) and the join timers (R128, R131, R132). Each `…Due` is the
millisecond timer reading at which the timer expires, absent when it is stopped. -/
structure BusController where
  state : BusState
  gives : List TxGive
  ask : Option TxAsk
  presence : Option TxPresence
  /-- the frame whose attempt is in progress (R112 to R116) -/
  sending : Option TxKind
  /-- since when the station waits for a contention point (R118) -/
  waitFrom : Option Nat
  /-- the counters of chapter 6, Table 4 -/
  failedAttempts : Nat
  consecutive : Nat
  quietEntries : Nat
  unheardPresence : Nat
  unknownSender : Nat
  quietHistory : Nat
  /-- the BUS-STATE condition (R111) -/
  changed : Bool
  listenDue : Option Nat
  gatherDue : Option Nat
  presenceDue : Option Nat
  activeDue : Option Nat
  quietDue : Option Nat
  /-- whether this station drove the acknowledgement slot of the last frame it received (R115) -/
  slotDriven : Bool
  /-- the station has observed an idle gap to its end since it started or met a bit error: it receives frames (R108,
  R112, R126) -/
  observing : Bool
deriving DecidableEq, Repr

/-! ### Peer table (chapter 7) -/

/-- A peer entry (R134, Table 2). `heardMs` is the millisecond timer at the last frame heard; the silence timer,
while `timing`, expires 3 presence intervals later. -/
structure Peer where
  station : Nat
  edition : Nat
  status : PeerStatus
  lastHeard : Option ClockTime
  heardMs : Nat
  timing : Bool
  routeCount : Nat
  busCode : Nat
  lastGive : Option Nat
  given : Nat
  received : Nat
deriving DecidableEq, Repr

/-- The peer table, ascending by station number, with the PEER-CHANGE and DUPLICATE conditions (R139, R141). -/
structure PeerTable where
  peers : List Peer
  changed : Bool
  duplicate : Bool
deriving DecidableEq, Repr

/-! ### Outfeed (chapter 9) -/

/-- An edge record (R161). -/
structure Edge where
  kind : EdgeKind
  pos : Count
  time : Micros
deriving DecidableEq, Repr

/-- The open parcel (R163); no tag is the mark UNMATCHED. -/
structure OpenParcel where
  pos : Count
  time : Micros
  tag : Option Nat
deriving DecidableEq, Repr

/-- The gap memory (R163); no tag is the mark UNMATCHED. -/
structure Gap where
  pos : Count
  tag : Option Nat
deriving DecidableEq, Repr

/-- The kinds of action (R168). -/
inductive ActKind where
  | apply
  | setChute (chute : Nat)
  | clearChute
deriving DecidableEq, Repr

/-- An entry of the action table (R168). -/
structure Action where
  pos : Count
  kind : ActKind
  tag : Nat
deriving DecidableEq, Repr

/-- The outfeed's state (R173, Table 1), with the encoder count and the capture timer (R160). -/
structure Outfeed where
  encoder : Count
  capture : Micros
  beam : Beam
  edges : List Edge
  holding : Option Edge
  openParcel : Option OpenParcel
  gap : Option Gap
  actions : List Action
  pendingClear : List (Nat × Count)
  chute : Nat
  owner : Option Nat
  /-- how often the label-apply strobe has fired since power-on (R169) -/
  strobes : Nat
  dropped : Nat
  orphans : Nat
  unmatched : Nat
  jams : Nat
  /-- the EDGE-OVERRUN condition (R161) -/
  overrun : Bool
  /-- the JAM condition (R172) -/
  jammed : Bool
deriving DecidableEq, Repr

/-! ### Label unit (chapter 10) -/

/-- A label record with the tag it belongs to (R180, Table 4). -/
structure Label where
  tag : Nat
  tracking : List Nat
  route : Nat
  chute : Nat
  dispatch : Booked
  service : Service
  price : Nat
  cs : Nat
  postcode : List Byte
deriving DecidableEq, Repr

/-- A copy of the reservation cell as read (R178). -/
structure Cell where
  day : Nat
  blockEnd : Nat
deriving DecidableEq, Repr

/-- The two copies of the cell (R178). -/
inductive CellCopy where
  | a
  | b
deriving DecidableEq, Repr

/-- The label unit's state (R184, R185). -/
structure LabelUnit where
  /-- the serial and the issue day, absent for UNRESOLVED (R177) -/
  serial : Option (Nat × Nat)
  /-- the copies read at power-on, absent when not valid (R179) -/
  cellA : Option Cell
  cellB : Option Cell
  /-- the copy the next cell write goes to (R178, R179) -/
  nextCopy : CellCopy
  cellFault : Bool
  /-- the print order, oldest first (R180) -/
  printOrder : List Label
  printer : Printer
  atPrinter : Option Label
  /-- when the print timer expires, on the millisecond timer -/
  printDue : Option Nat
  slot : Option Label
  eject : Bool
  /-- the printer fault line -/
  faultLine : Bool
  wasted : Nat
  /-- the label last put on the send label line, with its eject request (R181) -/
  sent : Option (Label × Bool)
deriving DecidableEq, Repr

/-! ### Terminal link (chapter 11) -/

/-- A command whose response is held (R187). -/
inductive Held where
  | loadEnd
  | confirm (tag quote : Nat)
  | setNext
deriving DecidableEq, Repr

/-- A response: the command's kind byte, the code, the payload (R186). -/
structure Response where
  kind : Nat
  code : Code
  payload : List Byte
deriving DecidableEq, Repr

/-- The terminal link's state (R188, R189). Bit k of `mask` masks source k; bit k − 1 of `edge` and of `latch`
belongs to source k. -/
structure Link where
  reports : List Report
  lost : Nat
  /-- the REPORT-LOST condition (R188) -/
  reportLost : Bool
  mask : BitVec 9
  edge : BitVec 8
  latch : BitVec 8
  held : Option Held
  /-- the response last given -/
  response : Option Response
  /-- the model's own (log entry 34): the tag of a VOID, not yet taken, that arrived together with an event taken before it
  which puts its record past voiding: the round close that hands it over to RATING (R16), or the expiry of its plate timeout
  (R65) -/
  metVoid : Option Nat
deriving DecidableEq, Repr

/-! ### Start-up loader (chapter 11) -/

/-- A write to the configuration memory asked for and not ended (R178, R193). `daily` tells a cell write that a day change
begins from one of a CONFIRM, a resolution or a restart: its success clears the cell-fault mark (R178). -/
inductive MemWrite where
  | cell (day blockEnd : Nat) (daily : Bool)
  | record (bytes : List Byte)
deriving DecidableEq, Repr

/-- The start-up loader's state (R192, R193), with the configuration memory on the board. -/
structure Loader where
  station : Station
  fault : Option CfgFault
  /-- the active copy: the bytes read at the last start (R192) -/
  active : List Byte
  /-- the number of the start that read it, for the free value of unread bytes -/
  startNo : Nat
  /-- the next-start copy, absent when UNKNOWN (R193) -/
  next : Option (List Byte)
  /-- the configuration memory (chapter 11, Table 4) -/
  mem : Memory
  /-- writes asked for, in order; the first is in progress (R178, R193) -/
  writes : List MemWrite
deriving DecidableEq, Repr

/-- The part's own clock (R65, R160): its millisecond timer and the microseconds past the last millisecond. -/
structure Timer where
  ms : Nat
  us : Nat
deriving DecidableEq, Repr

/-! ### The whole part -/

/-- The state of the ZG418. `pending` is the queue of the commands that wait; `freeNo` numbers the free values used. -/
structure State where
  pending : List Instr
  powered : Bool
  freeNo : Nat
  timer : Timer
  loader : Loader
  plate : Plate
  summary : Summary
  store : ImageStore
  queue : ParcelQueue
  dispatch : DispatchTable
  share : ShareAgent
  bus : BusController
  peers : PeerTable
  outfeed : Outfeed
  label : LabelUnit
  link : Link
deriving DecidableEq, Repr

/-- The part has no fault that stops it: every command and event ends in a next state. No meaning raises one. -/
inductive Fault where
deriving DecidableEq, Repr

/-- Why a command has no next state. -/
inductive Refusal where
  /-- the model gives the command no meaning yet; raised by an arm of exec alone; safe -/
  | notModelled (mnemonic : String)
deriving DecidableEq, Repr

/-! ### Power-on values -/

/-- No flag set (R56). -/
def RatingFlags.clear : RatingFlags := ⟨false, false, false, false, false⟩

/-- A rating result with nothing formed (R39, R56). -/
def Rating.empty : Rating :=
  { flags := RatingFlags.clear, vg := none, cs := none, band := none, steps := none, base := none, remote := none,
    oversizeFee := none, insurance := none, total := none, price := none, load := none }

/-- Every summary flag clear (R59). -/
def Summary.clear : Summary := ⟨false, false, false, false, false, false⟩

/-- No mark set. -/
def Marks.clear : Marks := ⟨false, false, false⟩

/-- Plate state at power-on before the scanner starts (R18), with band half-width H still unread (log entry 14). -/
def Plate.powerOn : Plate :=
  { running := false, cur := 0, converting := false, stepDue := 0, results := List.replicate 8 none,
    refPassed := none, sensorFault := false, zero := none, capRun := 0, capFirst := 0, capTotal := 0, tare := 0,
    lo := 0, parity := false, quiet := 0, history := [], clear := 0, latest := .none, meas := none }

/-- Bus state at power-on (R126, R127, R142). -/
def BusController.powerOn : BusController :=
  { state := .off, gives := [], ask := none, presence := none, sending := none, waitFrom := none,
    failedAttempts := 0, consecutive := 0, quietEntries := 0, unheardPresence := 0, unknownSender := 0,
    quietHistory := 0, changed := false, listenDue := none, gatherDue := none, presenceDue := none,
    activeDue := none, quietDue := none, slotDriven := false, observing := false }

/-- Outfeed state at power-on (R174, Table 2). -/
def Outfeed.powerOn : Outfeed :=
  { encoder := 0, capture := 0, beam := .made, edges := [], holding := none, openParcel := none, gap := none,
    actions := [], pendingClear := [], chute := 0, owner := none, strobes := 0, dropped := 0, orphans := 0,
    unmatched := 0, jams := 0, overrun := false, jammed := false }

/-- Label unit state at power-on (R185, Table 7). Before the first POWER_ON, which takes the printer fault line as it stands
and reads the cell copies, the line is clear and no copy is held (the model's choice, log entry 14). -/
def LabelUnit.powerOn : LabelUnit :=
  { serial := none, cellA := none, cellB := none, nextCopy := .a, cellFault := false, printOrder := [],
    printer := .idle, atPrinter := none, printDue := none, slot := none, eject := true, faultLine := false,
    wasted := 0, sent := none }

/-- Terminal link state at power-on (R188, R190), the attention settings not yet taken. -/
def Link.powerOn : Link :=
  { reports := [], lost := 0, reportLost := false, mask := 0, edge := 0, latch := 0, held := none, response := none,
    metVoid := none }

/-- Reset: every block at its power-on value, the board memories with nothing listed, power not yet applied. The
start sequence of R194 is the POWER_ON command. Values that the spec does not state are the model's choice (log entries 8,
14 and 17). -/
def State.reset : State :=
  { pending := [], powered := false, freeNo := 0, timer := ⟨0, 0⟩,
    loader := { station := .configFault, fault := none, active := [], startNo := 0, next := none, mem := [], writes := [] },
    plate := Plate.powerOn, summary := Summary.clear,
    store := { image := none, fault := none, staging := .idle, staged := [], mem := [] },
    queue := { parcels := [], cursor := 1, nextDue := 0 },
    dispatch := { clock := none, rings := [], line := [], current := none, expired := 0, stranded := 0 },
    share := { openAsk := none, nextAsk := 0, nextGive := 0, late := 0 },
    bus := BusController.powerOn, peers := { peers := [], changed := false, duplicate := false },
    outfeed := Outfeed.powerOn, label := LabelUnit.powerOn, link := Link.powerOn }

end Sys2Proof.Machine
end

