-- ==== Sys2Proof/Machine/Ops.lean ====
section
/-! DEFINITION. The named operations over the state: one update per block, the board memories, the part's own
clock, and the parcel records. -/

namespace Sys2Proof.Machine

/-! ### One update per block -/

/-- The state with another `pending`. -/
def State.setPending (s : State) (x : List Instr) : State := { s with pending := x }

/-- The state with another `loader`. -/
def State.setLoader (s : State) (x : Loader) : State := { s with loader := x }

/-- The state with another `plate`. -/
def State.setPlate (s : State) (x : Plate) : State := { s with plate := x }

/-- The state with another `summary`. -/
def State.setSummary (s : State) (x : Summary) : State := { s with summary := x }

/-- The state with another `store`. -/
def State.setStore (s : State) (x : ImageStore) : State := { s with store := x }

/-- The state with another `queue`. -/
def State.setQueue (s : State) (x : ParcelQueue) : State := { s with queue := x }

/-- The state with another `dispatch`. -/
def State.setDispatch (s : State) (x : DispatchTable) : State := { s with dispatch := x }

/-- The state with another `share`. -/
def State.setShare (s : State) (x : ShareAgent) : State := { s with share := x }

/-- The state with another `bus`. -/
def State.setBus (s : State) (x : BusController) : State := { s with bus := x }

/-- The state with another `peers`. -/
def State.setPeers (s : State) (x : PeerTable) : State := { s with peers := x }

/-- The state with another `outfeed`. -/
def State.setOutfeed (s : State) (x : Outfeed) : State := { s with outfeed := x }

/-- The state with another `label`. -/
def State.setLabel (s : State) (x : LabelUnit) : State := { s with label := x }

/-- The state with another `link`. -/
def State.setLink (s : State) (x : Link) : State := { s with link := x }

/-- The state with another `timer`. -/
def State.setTimer (s : State) (x : Timer) : State := { s with timer := x }

/-- The state with another `freeNo`. -/
def State.setFreeNo (s : State) (x : Nat) : State := { s with freeNo := x }

/-- The state with another `powered`. -/
def State.setPowered (s : State) (x : Bool) : State := { s with powered := x }

/-! ### Board memories -/

/-- What an address that nothing has written reads as: an erased cell (DESIGN CHOICE, log entry 1). -/
def blankByte : Byte := 0xFF#8

/-- One byte of a board memory. -/
def Memory.read : Memory → Nat → Byte
  | [], _ => blankByte
  | (k, b) :: rest, a => if a = k then b else Memory.read rest a

/-- A board memory with one byte written, in the canonical form. -/
def Memory.write : Memory → Nat → Byte → Memory
  | [], a, b => if b = blankByte then [] else [(a, b)]
  | (k, c) :: rest, a, b =>
    if a < k then (if b = blankByte then (k, c) :: rest else (a, b) :: (k, c) :: rest)
    else if a = k then (if b = blankByte then rest else (a, b) :: rest)
    else (k, c) :: Memory.write rest a b

/-- Every listed address lies above `lo`, the addresses rise strictly, and no listed byte is the blank one. -/
def Memory.wfAbove : Nat → Memory → Bool
  | _, [] => true
  | lo, (k, b) :: rest => decide (lo < k) && decide (b ≠ blankByte) && Memory.wfAbove k rest

/-- The canonical form of a board memory. -/
def Memory.wf : Memory → Bool
  | [] => true
  | (k, b) :: rest => decide (b ≠ blankByte) && Memory.wfAbove k rest

/-- The bytes from an address on. -/
def Memory.readBytes (m : Memory) (base n : Nat) : List Byte := (List.range n).map (fun i => m.read (base + i))

/-- A board memory with bytes written from an address on. -/
def Memory.writeBytes : Memory → Nat → List Byte → Memory
  | m, _, [] => m
  | m, a, b :: bs => Memory.writeBytes (m.write a b) (a + 1) bs

/-- An unknown mixture of old and new bytes, numbered by a free value (R32, R178, R193; log entry 2). -/
def mixture (no : Nat) (old new : List Byte) : List Byte :=
  (List.range new.length).map (fun i => if Config.mixNew no i then new.getD i 0 else old.getD i 0)

/-- A board memory after a write that failed or was cut short. -/
def Memory.writeMixed (m : Memory) (no base : Nat) (bs : List Byte) : Memory :=
  m.writeBytes base (mixture no (m.readBytes base bs.length) bs)

/-! ### The part's own clock -/

/-- The part's own clock in microseconds. -/
def State.nowUs (s : State) : Nat := s.timer.ms * 1000 + s.timer.us

/-- A timer that is running and whose time has come (R65, R128, R145). -/
def expired (due : Option Nat) (now : Nat) : Bool :=
  match due with
  | some d => decide (d ≤ now)
  | none => false

/-- The day after a day: 366 is followed by 1 (R87). -/
def nextDay (d : Nat) : Nat := if d ≥ Config.yearDays then 1 else d + 1

/-- A cyclic number's next value: `top` is followed by `bottom` (introduction, Conventions). -/
def cycle (bottom top n : Nat) : Nat := if n ≥ top then bottom else n + 1

/-- A position is reached when the forward distance from it to the count is below 32,768 (R160). -/
def reached (count pos : Count) : Bool := decide ((count - pos).toNat < 32768)

/-! ### Parcel records -/

/-- The record that holds a tag (R61). -/
def ParcelQueue.find (q : ParcelQueue) (tag : Nat) : Option Parcel := q.parcels.find? (fun p => p.tag == tag)

/-- The queue with the record of a tag changed. -/
def ParcelQueue.update (q : ParcelQueue) (tag : Nat) (f : Parcel → Parcel) : ParcelQueue :=
  { q with parcels := q.parcels.map (fun p => if p.tag = tag then f p else p) }

/-- The queue without the record of a tag; the others keep their order (R60). -/
def ParcelQueue.remove (q : ParcelQueue) (tag : Nat) : ParcelQueue :=
  { q with parcels := q.parcels.filter (fun p => p.tag != tag) }

/-- The state with the record of a tag changed. -/
def State.updateParcel (s : State) (tag : Nat) (f : Parcel → Parcel) : State := s.setQueue (s.queue.update tag f)

/-- The outfeed marks as the parcel queue reads them: while the field is absent, none is set (R62, R80). -/
def Parcel.marked (p : Parcel) : Marks := p.marks.getD Marks.clear

/-- The plate states (chapter 4, section 4.3). -/
def PState.onPlate : PState → Bool
  | .waitPlate | .measuring | .rating | .seeking => true
  | _ => false

/-- The final states (R81). -/
def PState.final : PState → Bool
  | .done | .void | .rejected => true
  | _ => false

/-- Some record is in a plate state (R7, R60). -/
def ParcelQueue.plateBusy (q : ParcelQueue) : Bool := q.parcels.any (fun p => p.state.onPlate)

/-- The tag's record is in ON-BELT. -/
def ParcelQueue.onBelt (q : ParcelQueue) (tag : Nat) : Bool :=
  q.parcels.any (fun p => p.tag == tag && p.state == .onBelt)

/-- The first free tag from the cursor on, tried `n` more times (R61). -/
def freeTag (used : List Nat) : Nat → Nat → Nat
  | 0, t => t
  | n + 1, t => if used.contains t then freeTag used n (cycle 1 255 t) else t

/-- The tag a new record is given (R61). -/
def ParcelQueue.newTag (q : ParcelQueue) : Nat :=
  freeTag (q.parcels.map Parcel.tag) q.parcels.length q.cursor

end Sys2Proof.Machine
end

