-- ==== Sys2Proof/Machine/Operands.lean ====
section
/-! DEFINITION. The operands the part takes from its two stored layouts: the configuration record (chapter 11,
Table 5) and the rate and route image (chapter 2, Table 1), with the tests each must pass. -/

namespace Sys2Proof.Machine

/-! ### Configuration record -/

/-- The byte of the active copy at an offset; past the bytes read it is a free value (log entry 3). -/
def Loader.u8 (l : Loader) (off : Nat) : Nat := (l.active.getD off (Config.unreadByte l.startNo off)).toNat

/-- The two-byte field of the active copy at an offset. -/
def Loader.u16 (l : Loader) (off : Nat) : Nat := l.u8 off * 256 + l.u8 (off + 1)

def Loader.stationNo (l : Loader) : Nat := l.u8 1
def Loader.office (l : Loader) : Nat := l.u16 2
def Loader.busEnabled (l : Loader) : Bool := l.u8 4 == 1
def Loader.holdAtJoin (l : Loader) : Bool := l.u8 5 == 1
def Loader.lockLevel (l : Loader) : Nat := l.u8 6
/-- The scan step interval in microseconds (R3). -/
def Loader.scanStepUs (l : Loader) : Nat := l.u8 7 * 250
/-- The channel of a scan table entry (chapter 11, Table 5); a number above 7 names none. -/
def channelOf : Nat → Option Channel
  | 0 => some .lc0
  | 1 => some .lc1
  | 2 => some .lc2
  | 3 => some .lc3
  | 4 => some .dh
  | 5 => some .dw
  | 6 => some .dl
  | 7 => some .ref
  | _ => none
def Loader.entryChannel (l : Loader) (e : Nat) : Option Channel := channelOf (l.u8 (8 + 3 * e))
def Loader.entryEnabled (l : Loader) (e : Nat) : Bool := l.u8 (8 + 3 * e + 2) == 1
def Loader.gain (l : Loader) : Nat := l.u16 32
def Loader.zeroWindow (l : Loader) : Nat := l.u16 34
def Loader.presenceThreshold (l : Loader) : Nat := l.u16 36
def Loader.settleRounds (l : Loader) : Nat := l.u8 38
def Loader.halfWidth (l : Loader) : Nat := l.u8 39
def Loader.refLo (l : Loader) : Nat := l.u16 40
def Loader.refHi (l : Loader) : Nat := l.u16 42
/-- The mount distance of DH (0), DW (1), DL (2) in millimetres (R14). -/
def Loader.mount (l : Loader) (c : Nat) : Nat := l.u16 (44 + 2 * c)
/-- The scale of DH (0), DW (1), DL (2) in micrometres per code (R14). -/
def Loader.scale (l : Loader) (c : Nat) : Nat := l.u16 (50 + 2 * c)
def Loader.pitch (l : Loader) : Nat := l.u16 56
def Loader.applicator (l : Loader) : Nat := l.u16 58
def Loader.gate (l : Loader) : Nat := l.u16 60
def Loader.lead (l : Loader) : Nat := l.u16 62
def Loader.trail (l : Loader) : Nat := l.u16 64
def Loader.minGap (l : Loader) : Nat := l.u16 66
def Loader.lengthTolerance (l : Loader) : Nat := l.u16 68
def Loader.beltTimeout (l : Loader) : Nat := l.u8 70
def Loader.presenceInterval (l : Loader) : Nat := l.u16 71
def Loader.gatherWindow (l : Loader) : Nat := l.u16 73
def Loader.askWindow (l : Loader) : Nat := l.u8 75
/-- The default mask of the attention sources (R190). -/
def Loader.defaultMask (l : Loader) : BitVec 9 := BitVec.ofNat 9 (l.u16 76)
def Loader.defaultEdge (l : Loader) : BitVec 8 := BitVec.ofNat 8 (l.u8 78)

/-- A load-cell channel (R1, Table 1). -/
def Channel.isCell : Channel → Bool
  | .lc0 | .lc1 | .lc2 | .lc3 => true
  | _ => false

/-- The offset of the first failing check, the checks in order. -/
def firstFail (checks : List (Nat × Bool)) : Option Nat := (checks.find? (fun c => !c.2)).map Prod.fst

/-- A number lies between two bounds. -/
def within (lo hi n : Nat) : Bool := decide (lo ≤ n) && decide (n ≤ hi)

/-- How many ENABLED entries of a record's scan table name a channel number (R2). -/
def enabledCount (bs : List Byte) (c : Nat) : Nat :=
  ((List.range 8).filter (fun e => byteAt bs (8 + 3 * e + 2) == 1 && byteAt bs (8 + 3 * e) == c)).length

/-- The conditions of R2 on a record's ENABLED entries. -/
def scanTableOk (bs : List Byte) : Bool :=
  [0, 1, 2, 3, 7].all (fun c => enabledCount bs c == 1) &&
  [4, 5, 6].all (fun c => decide (enabledCount bs c ≤ 1)) &&
  (List.range 8).all (fun e =>
    byteAt bs (8 + 3 * e + 2) != 1 || (byteAt bs (8 + 3 * e + 1) == 1) == decide (byteAt bs (8 + 3 * e) ≤ 3))

/-- The range tests of R192, in ascending offset, the joint conditions where R192 places them. -/
def recordChecks (bs : List Byte) : List (Nat × Bool) :=
  [(1, within 1 32 (byteAt bs 1)), (2, within 0 9999 (u16At bs 2)), (4, within 0 1 (byteAt bs 4)),
   (5, within 0 1 (byteAt bs 5)), (6, within 0 2 (byteAt bs 6)), (7, within 1 16 (byteAt bs 7))] ++
  (List.range 8).flatMap (fun e =>
    [(8 + 3 * e, within 0 7 (byteAt bs (8 + 3 * e))), (8 + 3 * e + 1, within 0 1 (byteAt bs (8 + 3 * e + 1))),
     (8 + 3 * e + 2, within 0 1 (byteAt bs (8 + 3 * e + 2)))]) ++
  [(8, scanTableOk bs),
   (32, within 1 65535 (u16At bs 32)), (34, within 1 4095 (u16At bs 34)), (36, within 1 16000 (u16At bs 36)),
   (38, within 4 64 (byteAt bs 38)), (39, within 1 255 (byteAt bs 39)),
   (42, within (u16At bs 40) 65535 (u16At bs 42)),
   (44, within 0 2500 (u16At bs 44)), (46, within 0 2500 (u16At bs 46)), (48, within 0 2500 (u16At bs 48)),
   (50, within 1 1000 (u16At bs 50)), (52, within 1 1000 (u16At bs 52)), (54, within 1 1000 (u16At bs 54)),
   (56, within 1 10000 (u16At bs 56)), (58, within 0 15999 (u16At bs 58)), (60, within 0 15999 (u16At bs 60)),
   (62, within 0 15999 (u16At bs 62) && decide (u16At bs 62 ≤ u16At bs 60)),
   (64, within 0 15999 (u16At bs 64) && decide (u16At bs 60 + u16At bs 64 ≤ 15999)),
   (66, within 0 15999 (u16At bs 66)), (68, within 0 500 (u16At bs 68)), (70, within 1 30 (byteAt bs 70)),
   (71, within 250 5000 (u16At bs 71)), (73, within 50 1000 (u16At bs 73)), (75, within 10 250 (byteAt bs 75))]

/-- The test of a configuration record, in the order of R192; no fault is a record that passes. -/
def recordFault (bs : List Byte) : Option CfgFault :=
  if bs.length < Config.recordLen then some ⟨.missing, none⟩
  else if crc16 (bs.take 79) ≠ u16At bs 79 then some ⟨.check, none⟩
  else if byteAt bs 0 ≠ 1 then some ⟨.format, none⟩
  else match firstFail (recordChecks bs) with
    | some off => some ⟨.range, some off⟩
    | none => none

/-! ### Rate and route image -/

/-- An image's bytes. -/
abbrev Image := List Byte

def imageEdition (g : Image) : Nat := u16At g 0
def imageOversizeThreshold (g : Image) : Nat := u16At g 2
def imageMaxSide (g : Image) : Nat := u16At g 4
def imageMaxGirth (g : Image) : Nat := u16At g 6
def imageMaxWeight (g : Image) : Nat := u16At g 8
def imageRemotePct (g : Image) : Nat := byteAt g 10
def imageRoundStep (g : Image) : Nat := byteAt g 11
/-- The currency rounding mode: true for UP (R22). -/
def imageRoundUp (g : Image) : Bool := byteAt g 12 == 1
def imageAllowance (g : Image) : Nat := u24At g 13
def imageInsuranceRate (g : Image) : Nat := u16At g 16
def imageMaxInsurable (g : Image) : Nat := u24At g 18

/-- Where a service's tariff begins (chapter 2, Table 1). -/
def serviceBase : Service → Nat
  | .standard => 21
  | .priority => 629

def tariffStep (g : Image) (v : Service) : Nat := u16At g (serviceBase v)
def tariffDivisor (g : Image) (v : Service) : Nat := u16At g (serviceBase v + 2)
def tariffOversizeFee (g : Image) (v : Service) : Nat := u24At g (serviceBase v + 4)
def tariffBands (g : Image) (v : Service) : Nat := byteAt g (serviceBase v + 7)
/-- The upper bound of band record b, from 0 (R21). -/
def bandUpper (g : Image) (v : Service) (b : Nat) : Nat := u16At g (serviceBase v + 8 + 50 * b)
def bandPrice (g : Image) (v : Service) (b z : Nat) : Nat := u24At g (serviceBase v + 10 + 50 * b + 3 * z)
def bandAddOn (g : Image) (v : Service) (b z : Nat) : Nat := u24At g (serviceBase v + 34 + 50 * b + 3 * z)

def zoneByte (g : Image) (p : Nat) : Nat := byteAt g (1237 + 3 * p)
def zoneRoute (g : Image) (p : Nat) : Nat := byteAt g (1237 + 3 * p + 1)
/-- The remote flag of a zone map entry (R20). -/
def zoneRemote (g : Image) (p : Nat) : Bool := byteAt g (1237 + 3 * p + 2) == 1
/-- The zone map entry is UNSERVED (R20). -/
def unserved (g : Image) (p : Nat) : Bool := zoneByte g p == 255

def routeBase (r : Nat) : Nat := 4237 + 20 * r
def routeChute (g : Image) (r : Nat) : Nat := byteAt g (routeBase r)
def routeSlots (g : Image) (r : Nat) : Nat := byteAt g (routeBase r + 1)
def routeKeepBack (g : Image) (r : Nat) : Nat := u16At g (routeBase r + 2)
/-- The cut-off minute of slot 1 to 4 (R23). -/
def slotMinute (g : Image) (r slot : Nat) : Nat := u16At g (routeBase r + 4 + 4 * (slot - 1))
/-- The initial share of slot 1 to 4 (R23). -/
def slotShare (g : Image) (r slot : Nat) : Nat := u16At g (routeBase r + 4 + 4 * (slot - 1) + 2)
/-- A used route has 1 to 4 daily slots (R23). -/
def usedRoute (g : Image) (r : Nat) : Bool := within 1 4 (routeSlots g r)
/-- The used routes, ascending. -/
def usedRoutes (g : Image) : List Nat := (List.range 16).filter (usedRoute g)

/-- The checks of the hall-wide fields (R22, Table 2). -/
def limitChecks (g : Image) : List (Nat × Bool) :=
  [(2, within 1 3000 (imageOversizeThreshold g)), (4, within 1 1500 (imageMaxSide g)),
   (6, within 1 3000 (imageMaxGirth g)), (8, within 1 31500 (imageMaxWeight g)), (10, within 0 100 (imageRemotePct g)),
   (11, [1, 2, 5, 10, 50, 100].contains (imageRoundStep g)), (12, within 0 1 (byteAt g 12)),
   (13, within 0 999999 (imageAllowance g)), (16, within 0 1000 (imageInsuranceRate g)),
   (18, within 0 999999 (imageMaxInsurable g))]

/-- The checks of one service's tariff, in ascending offset (R21). -/
def serviceChecks (g : Image) (v : Service) : List (Nat × Bool) :=
  let o := serviceBase v
  let n := tariffBands g v
  [(o, within 10 1000 (tariffStep g v)), (o + 2, tariffDivisor g v == 0 || within 1000 10000 (tariffDivisor g v)),
   (o + 4, within 0 999999 (tariffOversizeFee g v)), (o + 7, within 1 12 n)] ++
  (List.range n).flatMap (fun b =>
    (o + 8 + 50 * b,
      decide (1 ≤ bandUpper g v b) && (b == 0 || decide (bandUpper g v (b - 1) < bandUpper g v b)) &&
        (b + 1 != n || decide (bandUpper g v b ≤ 31500))) ::
    ((List.range 8).map (fun z => (o + 10 + 50 * b + 3 * z, within 0 99999 (bandPrice g v b z))) ++
     (List.range 8).map (fun z => (o + 34 + 50 * b + 3 * z, within 0 99999 (bandAddOn g v b z)))))

/-- The checks of the zone map (R20, R25). -/
def zoneChecks (g : Image) : List (Nat × Bool) :=
  (List.range 1000).flatMap (fun p =>
    if unserved g p then []
    else [(1237 + 3 * p, within 0 7 (zoneByte g p)), (1237 + 3 * p + 1, within 0 15 (zoneRoute g p)),
      (1237 + 3 * p + 2, within 0 1 (byteAt g (1237 + 3 * p + 2)))])

/-- The checks of the route schedule: each of a used route's four slot records in its ranges, its daily slots ascending
(R23, R25). -/
def scheduleChecks (g : Image) : List (Nat × Bool) :=
  (List.range 16).flatMap (fun r =>
    let o := routeBase r
    if usedRoute g r then
      (o, within 1 15 (routeChute g r)) :: (o + 2, within 0 4095 (routeKeepBack g r)) ::
      (List.range 4).flatMap (fun i =>
        [(o + 4 + 4 * i, within 0 1439 (slotMinute g r (i + 1)) &&
            (i == 0 || decide (routeSlots g r ≤ i) || decide (slotMinute g r i < slotMinute g r (i + 1)))),
         (o + 4 + 4 * i + 2, within 0 4095 (slotShare g r (i + 1)))])
    else [(o + 1, routeSlots g r == 0)])

/-- The checks that every served entry names a used route (R23, R25). -/
def routeRefChecks (g : Image) : List (Nat × Bool) :=
  (List.range 1000).map (fun p => (1237 + 3 * p, unserved g p || usedRoute g (zoneRoute g p)))

/-- The first of several classes of checks that fails. -/
def firstClass : List (ImgClass × List (Nat × Bool)) → Option ImgFault
  | [] => none
  | (c, checks) :: rest =>
    match firstFail checks with
    | some off => some ⟨c, some off⟩
    | none => firstClass rest

/-- The validation of an image, in the order of R25, Table 3; no fault is a valid image. -/
def imageFault (g : Image) : Option ImgFault :=
  if g.length ≠ Config.imageLen then some ⟨.length, none⟩
  else if crc16 (g.take 4557) ≠ u16At g 4557 then some ⟨.check, none⟩
  else firstClass
    [(.edition, [(0, within 1 65535 (imageEdition g))]), (.limits, limitChecks g),
     (.standard, serviceChecks g .standard), (.priority, serviceChecks g .priority), (.zoneMap, zoneChecks g),
     (.schedule, scheduleChecks g), (.routeRef, routeRefChecks g)]

/-- The station's edition: 0 with no active image (R19). -/
def ImageStore.edition (t : ImageStore) : Nat := (t.image.map imageEdition).getD 0

/-- The route count: the number of used routes, 0 with no active image (R23, R27). -/
def ImageStore.routeCount (t : ImageStore) : Nat := (t.image.map (fun g => (usedRoutes g).length)).getD 0

/-- The chute of a route in the active image (R23). -/
def ImageStore.chute (t : ImageStore) (r : Nat) : Nat := (t.image.map (fun g => routeChute g r)).getD 0

/-! ### Reservation cell -/

/-- The seven bytes of a reservation cell copy (chapter 11, Table 4). -/
def cellBytes (day blockEnd : Nat) : List Byte :=
  let body := be16 day ++ be24 blockEnd
  body ++ be16 (crc16 body)

/-- The copy that seven bytes hold, when its check is correct (R178). -/
def cellOf (bs : List Byte) : Option Cell :=
  if bs.length = 7 ∧ crc16 (bs.take 5) = u16At bs 5 then some ⟨u16At bs 0, u24At bs 2⟩ else none

/-- The base address of a copy in the configuration memory. -/
def CellCopy.base : CellCopy → Nat
  | .a => Config.cellABase
  | .b => Config.cellBBase

/-- The other copy. -/
def CellCopy.other : CellCopy → CellCopy
  | .a => .b
  | .b => .a

end Sys2Proof.Machine
end

