-- ==== Sys2Proof/Machine/Flags.lean ====
section
/-! DEFINITION. The attention sources: their conditions, masks, edge choices and latches, the attention line, and the
STATION-EVENT a rise makes (R188, R189). -/

namespace Sys2Proof.Machine

/-- A source's number (R189, Table 3). -/
def Source.number : Source → Nat
  | .reportPending => 0
  | .printerFault => 1
  | .busState => 2
  | .sensorFault => 3
  | .edgeOverrun => 4
  | .peerChange => 5
  | .jam => 6
  | .duplicate => 7
  | .reportLost => 8

/-- The sources in the order of their numbers. -/
def Source.all : List Source :=
  [.reportPending, .printerFault, .busState, .sensorFault, .edgeOverrun, .peerChange, .jam, .duplicate, .reportLost]

/-- A rise of this source's condition makes a STATION-EVENT (R188). -/
def Source.makesEvent : Source → Bool
  | .reportPending | .reportLost => false
  | _ => true

/-- A source's condition (R189, Table 3). -/
def State.condition (s : State) : Source → Bool
  | .reportPending => !s.link.reports.isEmpty
  | .printerFault => s.label.printer == .fault
  | .busState => s.bus.changed
  | .sensorFault => s.plate.sensorFault
  | .edgeOverrun => s.outfeed.overrun
  | .peerChange => s.peers.changed
  | .jam => s.outfeed.jammed
  | .duplicate => s.peers.duplicate
  | .reportLost => s.link.reportLost

/-- The source is masked (R189). -/
def Link.masked (l : Link) (src : Source) : Bool := l.mask.getLsbD src.number

/-- The source's edge choice is EDGE; REPORT-PENDING is always a level source (R189). -/
def Link.isEdge (l : Link) (src : Source) : Bool := decide (1 ≤ src.number) && l.edge.getLsbD (src.number - 1)

/-- The source's latch is set (R189). -/
def Link.latched (l : Link) (src : Source) : Bool := decide (1 ≤ src.number) && l.latch.getLsbD (src.number - 1)

/-- The source is active at the line (R189). -/
def State.sourceActive (s : State) (src : Source) : Bool :=
  !s.link.masked src && (if s.link.isEdge src then s.link.latched src else s.condition src)

/-- The attention line is asserted (R189). -/
def State.attentionLine (s : State) : Bool := Source.all.any s.sourceActive

/-- The latch bit of a source. -/
def Source.latchBit (src : Source) : BitVec 8 :=
  if src.number = 0 then 0 else BitVec.ofNat 8 (2 ^ (src.number - 1))

/-- A condition's rise sets the latch of an EDGE source, masked or not (R189). -/
def Link.latchRise (l : Link) (src : Source) : Link :=
  if l.isEdge src then { l with latch := l.latch ||| src.latchBit } else l

/-- The report queue has room (R188). -/
def Link.hasRoom (l : Link) : Bool := decide (l.reports.length < Config.reportLen)

/-- A STATION-EVENT dropped: the lost-reports counter rises and REPORT-LOST becomes true (R188). -/
def Link.loseReport (l : Link) : Link :=
  let l := if l.reportLost then l else (Link.latchRise { l with reportLost := true } .reportLost)
  { l with lost := satAdd 255 l.lost 1 }

/-- A STATION-EVENT enters the report queue, or is dropped (R188). -/
def Link.putEvent (l : Link) (src : Source) (clock : Option ClockTime) (bus : BusState) : Link :=
  if l.hasRoom then
    { l with reports := l.reports ++ [.event src clock (if src = .busState then some bus else none)] }
  else l.loseReport

/-- What the link does when a source's condition becomes true after being false (R188, R189). -/
def Link.rise (l : Link) (src : Source) (clock : Option ClockTime) (bus : BusState) : Link :=
  let l := l.latchRise src
  if src.makesEvent then l.putEvent src clock bus else l

/-- The state after a rise of a source's condition, which the owning block has just made true. -/
def State.rise (s : State) (src : Source) : State :=
  s.setLink (s.link.rise src s.dispatch.clock s.bus.state)

/-- BUS-STATE becomes true (R111). -/
def State.raiseBus (s : State) : State :=
  if s.bus.changed then s else (s.setBus { s.bus with changed := true }).rise .busState

/-- PEER-CHANGE becomes true (R139). -/
def State.raisePeer (s : State) : State :=
  if s.peers.changed then s else (s.setPeers { s.peers with changed := true }).rise .peerChange

/-- DUPLICATE becomes true (R141). -/
def State.raiseDuplicate (s : State) : State :=
  if s.peers.duplicate then s else (s.setPeers { s.peers with duplicate := true }).rise .duplicate

/-- JAM becomes true (R172). -/
def State.raiseJam (s : State) : State :=
  if s.outfeed.jammed then s else (s.setOutfeed { s.outfeed with jammed := true }).rise .jam

/-- EDGE-OVERRUN becomes true (R161). -/
def State.raiseOverrun (s : State) : State :=
  if s.outfeed.overrun then s else (s.setOutfeed { s.outfeed with overrun := true }).rise .edgeOverrun

/-- SENSOR-FAULT takes the value of a round (R4); a rise is presented. -/
def State.setSensorFault (s : State) (v : Bool) : State :=
  let s' := s.setPlate { s.plate with sensorFault := v }
  if v && !s.plate.sensorFault then s'.rise .sensorFault else s'

/-- The printer state becomes FAULT, and PRINTER-FAULT with it (R182). -/
def State.printerToFault (s : State) : State :=
  let s' := s.setLabel { s.label with printer := .fault }
  if s.label.printer = .fault then s' else s'.rise .printerFault

/-- The settings of SET-ATTENTION: mask and edge choices replaced; a source whose edge choice changes either way
has its latch clear (R190). -/
def Link.setAttention (l : Link) (mask : BitVec 9) (edge : BitVec 8) : Link :=
  { l with mask := mask, edge := edge, latch := l.latch &&& l.edge &&& edge }

end Sys2Proof.Machine
end

