-- ==== Sys2Proof/Machine/Reports.lean ====
section
/-! DEFINITION. Responses, the gate of the terminal link, the commands that arrive together with an event, and the reports
that records make due (R82, R83, R186 to R188). -/

namespace Sys2Proof.Machine

/-! ### Responses -/

/-- The response of a command (R186). -/
def State.respond (s : State) (kind : Nat) (code : Code) (payload : List Byte) : State :=
  s.setLink { s.link with response := some ⟨kind, code, payload⟩ }

/-- The link receives a command: the part is powered and no command is held (R187, R194). -/
def State.receives (s : State) : Bool := s.powered && s.link.held.isNone

/-- A command that CONFIG-FAULT refuses with NOT-READY (R187). Bytes the link does not receive are discarded. -/
def State.command (s : State) (kind : Nat) (run : State → State) : State :=
  if s.receives then
    (match s.loader.station with
     | .configFault => s.respond kind .notReady []
     | .running => run s)
  else s

/-- A command that is taken in CONFIG-FAULT too (R187). -/
def State.commandAlways (s : State) (run : State → State) : State := if s.receives then run s else s

/-- An event of the field, the hall or the part's own timers: it reaches a powered part alone. -/
def State.event (s : State) (run : State → State) : State := if s.powered then run s else s

/-! ### Commands that arrive together with an event -/

/-- The terminal sends it (R186); every other row is an event of the field, the hall, the board or the part's own timers. -/
def isCommand : Instr → Bool
  | .restart _ | .badCommand .. | .accept .. | .confirm .. | .void _ | .fetch | .queryParcel _ | .queryStation
  | .queryDispatch _ | .queryPeers | .setClock .. | .setTare _ | .zero | .clearFlags | .setAttention .. | .ackAttention _
  | .loadBegin | .loadChunk _ | .loadEnd | .readTariff .. | .releaseJoin | .printerRetry | .setNextConfig _
  | .readConfig _ => true
  | .powerOn .. | .restartInput _ | .imageStoreComplete _ | .configWriteComplete _ | .scanStep _ | .plateTimeout
  | .cutOff _ | .dayChange | .cellWriteComplete _ | .contentionPoint | .lostArbitration | .bitError | .ackSlot _
  | .busyLimit | .quietExpiry | .activeTimerExpiry | .listenTimerExpiry | .gatherTimerExpiry | .presenceTimerExpiry
  | .silenceTimerExpiry _ | .frameNotWellFormed _ | .presenceReceived .. | .askReceived .. | .giveReceived ..
  | .askWindowExpiry | .edgeCapture _ | .takeBreak | .takeMake | .encoderPulse | .jam _ | .printerDone
  | .printerFault _ | .printTimeout | .powerLoss => false

/-- The command of the terminal that waits, if one does. -/
def State.nextCommand (s : State) : Option Instr := s.pending.find? isCommand

/-- An event that puts the record of a tag past voiding meets a VOID of it that has arrived together with the event: the
VOID is then refused with NOT-VOIDABLE, whatever else the event does with the record (R16, R65). A VOID has arrived together
with the event if it waits as the next command, the link free to receive it (the model's choice, log entry 34). -/
def State.meetVoid (s : State) (tag : Nat) : State :=
  if s.nextCommand = some (.void (byteOf tag)) ∧ s.link.held = none then
    s.setLink { s.link with metVoid := some tag }
  else s

/-! ### Reports -/

/-- The state of a record that has ended (R81). -/
def EndOutcome.state : EndOutcome → PState
  | .done => .done
  | .void => .void
  | .rejected => .rejected

/-- The PARCEL-END report of a record (R82). Marks still absent are sent as three clear flags (log entry 5). -/
def Parcel.endReport (p : Parcel) (o : EndOutcome) (r : Option Reason) : Report :=
  .parcelEnd p.tag o r p.quote p.dispatch p.tracking p.rating.flags p.marked

/-- The record as it stands in its final state, holding no booking, no timeout and no owed QUOTE (R81, R83). -/
def Parcel.ended (p : Parcel) (o : EndOutcome) (r : Option Reason) : Parcel :=
  { p with state := o.state, outcome := some o, reason := r, plateDue := none, owed := none, holds := false }

/-- A report enters the report queue. -/
def Link.put (l : Link) (r : Report) : Link := { l with reports := l.reports ++ [r] }

/-- A record becomes the owner of an owed report, with the next due order (R82, R83). -/
def ParcelQueue.owe (q : ParcelQueue) (tag : Nat) (r : Report) : ParcelQueue :=
  { q.update tag (fun p => { p with owed := some ⟨q.nextDue, r⟩ }) with nextDue := q.nextDue + 1 }

/-- A record enters a final state and its PARCEL-END becomes due: it is placed and the record leaves, or it is owed
(R82). -/
def State.endParcel (s : State) (p : Parcel) (o : EndOutcome) (r : Option Reason) : State :=
  if s.link.hasRoom then (s.setQueue (s.queue.remove p.tag)).setLink (s.link.put (p.endReport o r))
  else s.setQueue ((s.queue.update p.tag (fun p => p.ended o r)).owe p.tag (p.endReport o r))

/-- The QUOTE report of a record (R70). -/
def Parcel.quoteReport (p : Parcel) : Report :=
  .quote p.tag (p.quote.getD 0) p.service p.route (p.dispatch.getD .deferred) (p.rating.cs.getD 0)
    (p.rating.load.getD 0) (p.rating.total.getD 0) (p.rating.price.getD 0) p.rating.flags

/-- The record with a quote placed on a booking (R68, R70). -/
def Parcel.quoted (p : Parcel) (b : Booked) : Parcel :=
  { p with
    state := .quoted, standing := some true, dispatch := some b, holds := true, owed := none,
    quote := some (match p.quote with | none => 1 | some n => cycle 1 255 n) }

/-- A quote is placed: the record enters QUOTED (R70). Its QUOTE becomes due by `quotesDue`, when the event's bookings are
made. -/
def State.placeQuote (s : State) (tag : Nat) (b : Booked) : State := s.updateParcel tag (fun p => p.quoted b)

/-- A record's QUOTE becomes due: it is placed in the report queue, or owed (R83). -/
def State.quoteDue (s : State) (p : Parcel) : State :=
  if s.link.hasRoom then s.setLink (s.link.put p.quoteReport) else s.setQueue (s.queue.owe p.tag p.quoteReport)

/-- The records with a quote placed since the queue stood as `was`, in queue order. A quote placed has a number that
differs from the one before it (R70). -/
def ParcelQueue.newlyQuoted (q was : ParcelQueue) : List Parcel :=
  ((was.parcels.zip q.parcels).filter (fun x => x.1.quote != x.2.quote)).map Prod.snd

/-- The QUOTEs of the quotes placed in an event since the state was `was` become due, in queue order (R83). -/
def State.quotesDue (s was : State) : State := (s.queue.newlyQuoted was.queue).foldl State.quoteDue s

/-- The older of two owed records. -/
def olderOwed (a : Option (Nat × Parcel)) (p : Parcel) : Option (Nat × Parcel) :=
  match p.owed, a with
  | none, _ => a
  | some o, none => some (o.due, p)
  | some o, some (d, q) => if o.due < d then some (o.due, p) else some (d, q)

/-- The record whose report became due first of those owed (R82). -/
def ParcelQueue.oldestOwed (q : ParcelQueue) : Option Parcel := (q.parcels.foldl olderOwed none).map Prod.snd

/-- A free place of the report queue is offered to the owed reports (R82, R188). -/
def State.placeOwed (s : State) : State :=
  if s.link.hasRoom then
    match s.queue.oldestOwed with
    | none => s
    | some p =>
      match p.owed with
      | none => s
      | some o =>
        (s.setQueue (if p.state.final then s.queue.remove p.tag
          else s.queue.update p.tag (fun p => { p with owed := none }))).setLink (s.link.put o.report)
  else s

end Sys2Proof.Machine
end

