-- ==== Sys2Proof/Machine/Transmit.lean ====
section
/-! DEFINITION. The transmit queue and the busy limit's wait (R111, R118 to R121). -/

namespace Sys2Proof.Machine

/-- The kinds of frame a bus state allows a station to send (R111, Table 2). -/
def BusState.maySend : BusState → TxKind → Bool
  | .active, _ => true
  | .announce, .presence => true
  | _, _ => false

/-- The frame to offer at a contention point: the oldest pending GIVE, otherwise the ASK, otherwise the PRESENCE, of
those the bus state allows (R119). -/
def BusController.chosen (b : BusController) : Option TxKind :=
  if b.state.maySend .give && !b.gives.isEmpty then some .give
  else if b.state.maySend .ask && b.ask.isSome then some .ask
  else if b.state.maySend .presence && b.presence.isSome then some .presence
  else none

/-- The wait of the busy limit runs from the moment the station has a frame to offer and sends none (R118). -/
def BusController.withWait (b : BusController) (now : Nat) : BusController :=
  { b with waitFrom := if b.sending.isNone && b.chosen.isSome then some (b.waitFrom.getD now) else none }

/-- The state with the transmit queue changed, the wait kept up (R118). -/
def State.putBus (s : State) (b : BusController) : State := s.setBus (b.withWait s.timer.ms)

/-- A GIVE is queued behind the pending ones; with four pending the request is refused (R119). -/
def BusController.queueGive (b : BusController) (g : TxGive) : BusController :=
  if b.gives.length < Config.giveLen then { b with gives := b.gives ++ [g] } else b

/-- An ASK is queued (R119, R144). -/
def BusController.queueAsk (b : BusController) (a : TxAsk) : BusController := { b with ask := some a }

/-- A PRESENCE is asked for: one already queued serves for both (R120). -/
def BusController.queuePresence (b : BusController) (join : Bool) : BusController :=
  match b.presence with
  | none => { b with presence := some { join := join, fixed := none, fails := 0 } }
  | some _ => b

/-- The frame offered leaves the transmit queue: the attempt and the wait for it end (R118, R121). -/
def BusController.offeredLeaves (b : BusController) (k : TxKind) : BusController :=
  { b with
    gives := if k = .give then b.gives.drop 1 else b.gives,
    ask := if k = .ask then none else b.ask,
    presence := if k = .presence then none else b.presence,
    sending := none, waitFrom := none }

/-- The ASK frame is withdrawn if it has not begun (R121, R146). If it was the frame offered, its wait ends (R118). -/
def BusController.withdrawAsk (b : BusController) : BusController :=
  match b.ask with
  | some a =>
    if a.begun then b
    else { b with ask := none, waitFrom := if b.chosen = some .ask then none else b.waitFrom }
  | none => b

/-- A GIVE in the queue is for a dispatch, reserved on its present entry. -/
def TxGive.names (g : TxGive) (route day slot : Nat) : Bool :=
  g.live && g.route == route && g.day == day && g.slot == slot

/-- Every unbegun GIVE that meets a test is withdrawn; a begun one goes on, its entry closed (R121, R150). If the frame
offered is withdrawn, its wait ends (R118). -/
def BusController.withdrawGives (b : BusController) (test : TxGive → Bool) : BusController :=
  { b with
    gives := (b.gives.filter (fun g => g.begun || !test g)).map (fun g => if test g then { g with live := false } else g),
    waitFrom :=
      match b.gives with
      | g :: _ => if b.chosen = some .give && !g.begun && test g then none else b.waitFrom
      | [] => b.waitFrom }

end Sys2Proof.Machine
end

