-- ==== Sys2Proof/Machine/Booking.lean ====
section
/-! DEFINITION. The dispatch table (chapter 5) and the asker's side of the share agent (chapter 8, section 8.1): rings,
bookings, releases, and the opening and ending of an ask. -/

namespace Sys2Proof.Machine

/-! ### Rings and entries -/

/-- The ring of a route. -/
def DispatchTable.ring (d : DispatchTable) (route : Nat) : Option Ring := d.rings.find? (fun r => r.route == route)

/-- An entry names a dispatch. -/
def Entry.names (e : Entry) (day slot : Nat) : Bool := e.day == day && e.slot == slot

/-- The open entry of a dispatch (R90). -/
def DispatchTable.entry (d : DispatchTable) (route day slot : Nat) : Option Entry :=
  match d.ring route with
  | some r => r.entries.find? (fun e => e.names day slot)
  | none => none

/-- An entry's free units (R90). -/
def Entry.free (e : Entry) : Nat := e.held - (e.booked + e.reserved)

/-- The table with the ring of a route changed. -/
def DispatchTable.updateRing (d : DispatchTable) (route : Nat) (f : Ring → Ring) : DispatchTable :=
  { d with rings := d.rings.map (fun r => if r.route = route then f r else r) }

/-- The table with the open entry of a dispatch changed. -/
def DispatchTable.updateEntry (d : DispatchTable) (route day slot : Nat) (f : Entry → Entry) : DispatchTable :=
  d.updateRing route (fun r => { r with entries := r.entries.map (fun e => if e.names day slot then f e else e) })

/-- The daily slots of a route from a day on, for `n` days. -/
def slotsOf (g : Image) (route : Nat) : Nat → Nat → List (Nat × Nat)
  | _, 0 => []
  | day, n + 1 =>
    (List.range (routeSlots g route)).map (fun i => (day, i + 1)) ++ slotsOf g route (nextDay day) n

/-- A new entry for a slot of a day: its initial share held, nothing booked or reserved (R91). -/
def newEntry (g : Image) (route day slot : Nat) : Entry :=
  { day := day, slot := slot, minute := slotMinute g route slot, held := slotShare g route slot, booked := 0, reserved := 0 }

/-- A ring filled from a time: the next three daily slots whose cut-off lies after it (R91). -/
def fillRing (g : Image) (route day ms : Nat) : Ring :=
  let today := (slotsOf g route day 1).filter (fun x => decide (ms / 60000 < slotMinute g route x.2))
  { route := route, deferred := 0,
    entries := ((today ++ slotsOf g route (nextDay day) 3).take 3).map (fun x => newEntry g route x.1 x.2) }

/-- A ring for every used route of the active image (R88, R91). -/
def fillRings (t : ImageStore) (day ms : Nat) : List Ring :=
  match t.image with
  | some g => (usedRoutes g).map (fun r => fillRing g r day ms)
  | none => []

/-- The slot that follows the tail's slot (R91). -/
def slotAfter (g : Image) (route day slot : Nat) : Nat × Nat :=
  if slot < routeSlots g route then (day, slot + 1) else (nextDay day, 1)

/-- A ring without its head, refilled at its tail (R91). -/
def Ring.refill (t : ImageStore) (r : Ring) : Ring :=
  match t.image, r.entries.getLast? with
  | some g, some e =>
    let n := slotAfter g r.route e.day e.slot
    { r with entries := r.entries.drop 1 ++ [newEntry g r.route n.1 n.2] }
  | _, _ => { r with entries := r.entries.drop 1 }

/-- The entry after a dispatch in its ring. -/
def entryAfter (es : List Entry) (day slot : Nat) : Option (Nat × Nat) :=
  match (es.dropWhile (fun e => !e.names day slot)).drop 1 with
  | e :: _ => some (e.day, e.slot)
  | [] => none

/-- The expired-units counter with units added (R105). -/
def DispatchTable.expire (d : DispatchTable) (m : Nat) : DispatchTable := { d with expired := satAdd 65535 d.expired m }

/-- The stranded-units counter with units added (R105). -/
def DispatchTable.strand (d : DispatchTable) (m : Nat) : DispatchTable := { d with stranded := satAdd 65535 d.stranded m }

/-! ### Movements of units (R99 to R102) -/

/-- A reservation of units for a GIVE (R100). -/
def DispatchTable.reserve (d : DispatchTable) (route day slot m : Nat) : DispatchTable :=
  d.updateEntry route day slot (fun e => { e with reserved := e.reserved + m })

/-- A return of reserved units (R100). -/
def DispatchTable.giveBack (d : DispatchTable) (route day slot m : Nat) : DispatchTable :=
  d.updateEntry route day slot (fun e => { e with reserved := e.reserved - m })

/-- A transfer out of reserved units (R101). -/
def DispatchTable.transferOut (d : DispatchTable) (route day slot m : Nat) : DispatchTable :=
  d.updateEntry route day slot (fun e => { e with reserved := e.reserved - m, held := e.held - m })

/-- A write-off of reserved units (R101). -/
def DispatchTable.writeOff (d : DispatchTable) (route day slot m : Nat) : DispatchTable :=
  (d.transferOut route day slot m).strand m

/-- An application of received units (R102). -/
def DispatchTable.applyUnits (d : DispatchTable) (route day slot m : Nat) : DispatchTable :=
  match d.entry route day slot with
  | some e =>
    (d.updateEntry route day slot (fun e => { e with held := satAdd 65535 e.held m })).expire (e.held + m - 65535)
  | none => d.expire m

/-- The release of a record's booking (R99). -/
def DispatchTable.release (d : DispatchTable) (p : Parcel) : DispatchTable :=
  let load := p.rating.load.getD 0
  if p.holds then
    match p.dispatch with
    | some (.entry day slot) => d.updateEntry p.route day slot (fun e => { e with booked := e.booked - load })
    | some .deferred => d.updateRing p.route (fun r => { r with deferred := r.deferred - load })
    | none => d
  else d

/-- The state after the release of a record's booking. -/
def State.release (s : State) (p : Parcel) : State := s.setDispatch (s.dispatch.release p)

/-! ### Booking (R93 to R97) -/

/-- Some entry of the peer table is PRESENT (R138). -/
def PeerTable.anyPresent (t : PeerTable) : Bool := t.peers.any (fun p => p.status == .present)

/-- Some record other than that of a tag is in a plate state (R72). -/
def ParcelQueue.otherOnPlate (q : ParcelQueue) (tag : Nat) : Bool :=
  q.parcels.any (fun p => p.tag != tag && p.state.onPlate)

/-- The current booking may ask for its entry under trial (R95). -/
def State.mayAsk (s : State) (b : Booking) : Bool :=
  !b.asked && s.bus.state == .active && s.peers.anyPresent && s.share.openAsk.isNone &&
    (b.request.rated || !s.queue.otherOnPlate b.request.tag)

/-- The open ask's frame is queued and the ask is SENDING (R144). -/
def State.sendAsk (s : State) (a : OpenAsk) : State :=
  (s.setShare { s.share with openAsk := some { a with phase := .sending } }).putBus
    (s.bus.queueAsk
      { askNo := a.askNo, route := a.route, day := a.day, slot := a.slot, units := a.wanted, begun := false, fails := 0 })

/-- An ask is opened for a shortfall (R143, R144). -/
def State.openAsk (s : State) (route day slot wanted : Nat) : State :=
  let a : OpenAsk :=
    { askNo := s.share.nextAsk, route := route, day := day, slot := slot, wanted := wanted, received := 0,
      phase := .waiting, windowEnd := 0 }
  let s' := s.setShare { s.share with openAsk := some a, nextAsk := cycle 0 255 s.share.nextAsk }
  match s.bus.ask with
  | some _ => s'
  | none => s'.sendAsk a

/-- The current booking asks: the phase becomes ASKING and the record enters SEEKING (R69, R95). -/
def State.askFor (s : State) (b : Booking) (e : Entry) : State :=
  let s1 := s.setDispatch { s.dispatch with current := some { b with asked := true, asking := true } }
  let s2 := s1.updateParcel b.request.tag (fun p => { p with state := .seeking })
  s2.openAsk b.request.route e.day e.slot (b.request.load - e.free)

/-- The current booking ends booked on a dispatch (R94). -/
def State.bookOn (s : State) (b : Booking) (day slot : Nat) : State :=
  let d := s.dispatch.updateEntry b.request.route day slot (fun e => { e with booked := e.booked + b.request.load })
  (s.setDispatch { d with current := none }).placeQuote b.request.tag (.entry day slot)

/-- The current booking ends booked DEFERRED (R97). -/
def State.bookDeferred (s : State) (b : Booking) : State :=
  let d := s.dispatch.updateRing b.request.route (fun r => { r with deferred := satAdd 65535 r.deferred b.request.load })
  (s.setDispatch { d with current := none }).placeQuote b.request.tag .deferred

/-- The booking rolls from its entry under trial to the one after it, which counts as tried (R94). -/
def DispatchTable.rolled (d : DispatchTable) (b : Booking) : Booking :=
  let es := ((d.ring b.request.route).map Ring.entries).getD []
  { b with
    trial := b.trial.bind (fun t => entryAfter es t.1 t.2), tries := b.tries + 1, asked := false, asking := false }

/-- The entry under trial of a booking, while it is open. -/
def DispatchTable.trialEntry (d : DispatchTable) (b : Booking) : Option Entry :=
  b.trial.bind (fun t => d.entry b.request.route t.1 t.2)

/-- The current booking in phase TESTING tries its entry under trial, and rolls on until it ends or asks (R94). Three
trials end it, so the first argument is 3 less the entries tried. -/
def State.tryEntries : Nat → State → Booking → State
  | 0, s, b => s.bookDeferred b
  | n + 1, s, b =>
    match s.dispatch.trialEntry b with
    | none => s.bookDeferred b
    | some e =>
      if b.request.load ≤ e.free then s.bookOn b e.day e.slot
      else if s.mayAsk b then s.askFor b e
      else
        let b' := s.dispatch.rolled b
        State.tryEntries n (s.setDispatch { s.dispatch with current := some b' }) b'

/-- The current booking, if it is in phase TESTING, is tried (R94, R96). One in phase ASKING waits for its ask's end, also
at the end of a forward step of the clock that left its entry open: R89's last sentence is taken with R96 (the model's
choice, log entry 35). -/
def State.tryCurrent (s : State) : State :=
  match s.dispatch.current with
  | some b => if b.asking then s else State.tryEntries (3 - b.tries) s b
  | none => s

/-- The booking that a request becomes: its trial at the head of its route's ring (R93). -/
def DispatchTable.start (d : DispatchTable) (r : Request) : Booking :=
  { request := r, tries := 0, asked := false, asking := false,
    trial := match d.ring r.route with
      | some ring => (ring.entries.head?).map (fun e => (e.day, e.slot))
      | none => none }

/-- The line is served while there is no current booking (R93). -/
def State.serveFor : Nat → State → State
  | 0, s => s
  | n + 1, s =>
    match s.dispatch.current, s.dispatch.line with
    | none, r :: rest =>
      State.serveFor n
        (s.setDispatch { s.dispatch with line := rest, current := some (s.dispatch.start r) }).tryCurrent
    | _, _ => s

/-- The line is served until a booking asks or it is empty (R93). -/
def State.serveLine (s : State) : State := State.serveFor s.dispatch.line.length s

/-- The current booking is tried if it is in TESTING, then the line is served. The quotes that this places become due by
`quotesDue`, which each event calls when its bookings are made (R83). -/
def State.bookings (s : State) : State := s.tryCurrent.serveLine

/-- A booking request joins the line (R93). -/
def DispatchTable.request (d : DispatchTable) (r : Request) : DispatchTable := { d with line := d.line ++ [r] }

/-! ### The end of an ask (R146) -/

/-- The open ask ceases; its ASK frame, if it is queued and unbegun, is withdrawn (R146). -/
def State.closeAsk (s : State) : State :=
  match s.share.openAsk with
  | none => s
  | some a =>
    let s' := s.setShare { s.share with openAsk := none }
    if a.phase = .sending then s'.putBus s.bus.withdrawAsk else s'

/-- The end of an ask is reported: the booking is in TESTING and tries its entry again (R96). The quotes that this places
become due by `quotesDue`, when the event has made its last booking (R83). -/
def State.reportAskEnd (s : State) : State :=
  match s.dispatch.current with
  | some b =>
    if b.asking then
      (s.setDispatch { s.dispatch with current := some { b with asking := false } }).bookings
    else s
  | none => s

/-- The open ask ends with a report to the dispatch table (R146, Table 1), as the last that the event books. The QUOTEs of
the quotes placed since the event's start, when the state was `was`, become due in queue order (R83). -/
def State.endAskSince (s was : State) : State :=
  match s.share.openAsk with
  | some _ => s.closeAsk.reportAskEnd.quotesDue was
  | none => s

/-- The open ask ends in an event that has placed no quote before (R146, Table 1). -/
def State.endAsk (s : State) : State := s.endAskSince s

/-- The ending of the ASK frame is handed to the share agent (R144). The frame has left the queue. Where it ends the ask,
the quotes that this places become due by `quotesDue`, which the event calls (R83). -/
def State.askEnding (s : State) (e : Ending) : State :=
  match s.share.openAsk with
  | none => s
  | some a =>
    match a.phase, e with
    | .waiting, _ => s.sendAsk a
    | .sending, .acknowledged =>
      s.setShare { s.share with
        openAsk := some { a with phase := .window, windowEnd := s.timer.ms + s.loader.askWindow } }
    | .sending, .unheard => s.closeAsk.reportAskEnd
    | .sending, .abandoned => s.closeAsk.reportAskEnd
    | .sending, .dropped => s
    | .sending, .withdrawn => s
    | .window, _ => s

end Sys2Proof.Machine
end

