-- ==== Sys2Proof/Machine/Label.lean ====
section
/-! DEFINITION. The label unit's operations (chapter 10): tracking numbers, the serial and its cell writes, the print
order, the printer and the presented-label slot. -/

namespace Sys2Proof.Machine

/-! ### Tracking numbers -/

/-- A number in decimal digits with leading zeros to a width (R175). -/
def digits : Nat → Nat → List Nat
  | 0, _ => []
  | w + 1, n => digits w (n / 10) ++ [n % 10]

/-- The products of digits and the weights 3, 7, 1 from the first digit on the left (R176). -/
def weighted : List Nat → Nat
  | a :: b :: c :: rest => 3 * a + 7 * b + c + weighted rest
  | [a, b] => 3 * a + 7 * b
  | [a] => 3 * a
  | [] => 0

/-- The check digit (R176). -/
def checkDigit (ds : List Nat) : Nat := (10 - weighted ds % 10) % 10

/-- The sixteen digits of a tracking number (R175, Table 1). -/
def trackingNumber (office day station serial : Nat) : List Nat :=
  let ds := digits 4 office ++ digits 3 day ++ digits 2 station ++ digits 6 serial
  ds ++ [checkDigit ds]

/-! ### The serial and the cell writes -/

/-- The write is one of the reservation cell. -/
def MemWrite.isCell : MemWrite → Bool
  | .cell .. => true
  | .record _ => false

/-- The label unit's cell state is WRITING (R178). -/
def Loader.cellWriting (l : Loader) : Bool := l.writes.any MemWrite.isCell

/-- A cell write falls due: it begins at once, or is held behind the write in progress, superseding an earlier held
one (R178). -/
def Loader.askCell (l : Loader) (day blockEnd : Nat) (daily : Bool) : Loader :=
  { l with
    writes := match l.writes with
      | [] => [.cell day blockEnd daily]
      | w :: rest => w :: (rest.filter (fun x => !x.isCell) ++ [.cell day blockEnd daily]) }

/-- The block end that a cell write records for a serial (R178). -/
def blockEndOf (serial : Nat) : Nat := min (serial + 100) Config.serialMax

/-- The serial takes a value under an issue day; at a multiple of 100 a cell write falls due (R178). `daily` says that a
day change sets it. -/
def State.setSerial (s : State) (serial day : Nat) (daily : Bool) : State :=
  let s := s.setLabel { s.label with serial := some (serial, day) }
  if serial % 100 = 0 then s.setLoader (s.loader.askCell day (blockEndOf serial) daily) else s

/-- A day change given to the label unit (R177). -/
def State.labelDay (s : State) (day : Nat) : State :=
  match s.label.serial with
  | none => s
  | some _ => s.setSerial 0 day true

/-- The block end of a held copy that names a day, within the serial's range (R179; log entry 20). -/
def cellEnd (c : Option Cell) (day : Nat) : Option Nat :=
  match c with
  | some x => if x.day = day then some (min x.blockEnd Config.serialMax) else none
  | none => none

/-- The resolution: the serial, and the copy that the first cell write goes to (R179). -/
def resolution (a b : Option Nat) : Nat × CellCopy :=
  match a, b with
  | none, none => (0, .a)
  | some x, none => (x, .b)
  | none, some y => (y, .a)
  | some x, some y => if x < y then (y, .a) else (x, .b)

/-- The serial is resolved at the first SET-CLOCK after power-on (R179). -/
def State.resolveSerial (s : State) (day : Nat) : State :=
  match s.label.serial with
  | some _ => s
  | none =>
    let r := resolution (cellEnd s.label.cellA day) (cellEnd s.label.cellB day)
    (s.setLabel { s.label with nextCopy := if r.1 = 0 then .a else r.2 }).setSerial r.1 day false

/-! ### The printer -/

/-- In IDLE: the fault line is tested, then the oldest label is sent (R181). -/
def State.printerSettle (s : State) : State :=
  if s.label.printer = .idle then
    if s.label.faultLine then s.printerToFault
    else
      match s.label.slot, s.label.printOrder with
      | none, l :: rest =>
        s.setLabel { s.label with
          printOrder := rest, printer := .printing, atPrinter := some l, printDue := some (s.timer.ms + Config.printMs),
          sent := some (l, s.label.eject), eject := false }
      | _, _ => s
  else s

/-- One more label is counted as wasted and the eject mark is set (R181, R183). -/
def LabelUnit.waste (u : LabelUnit) : LabelUnit := { u with wasted := satAdd 65535 u.wasted 1, eject := true }

/-- The slot empties: the printer is IDLE, and goes on from there (R181, R183). -/
def State.slotEmptied (s : State) : State :=
  (s.setLabel { s.label with slot := none, printer := .idle }).printerSettle

/-- A label whose record can no longer carry it is discarded wherever it stands (R183). -/
def State.discardLabel (s : State) (tag : Nat) : State :=
  let s := s.setLabel { s.label with printOrder := s.label.printOrder.filter (fun l => l.tag != tag) }
  match s.label.slot with
  | some l => if l.tag = tag then (s.setLabel s.label.waste).slotEmptied else s
  | none => s

/-- A record's label leaves the print order (R180). -/
def State.leavePrintOrder (s : State) (tag : Nat) : State :=
  s.setLabel { s.label with printOrder := s.label.printOrder.filter (fun l => l.tag != tag) }

/-- A record is the one that a label was composed for: it has the label's tag and its tracking number (R177, R180; the
model's choice, log entry 33). -/
def Parcel.bears (p : Parcel) (l : Label) : Bool := p.tag == l.tag && p.tracking == some l.tracking

/-- The record of a label is still in LABEL-PENDING or ON-BELT (R181). -/
def ParcelQueue.carries (q : ParcelQueue) (l : Label) : Bool :=
  q.parcels.any (fun p => p.bears l && (p.state == .labelPending || p.state == .onBelt))

/-- The record of a label is marked LABEL-LATE (R181). -/
def ParcelQueue.isLate (q : ParcelQueue) (l : Label) : Bool := q.parcels.any (fun p => p.bears l && p.marked.labelLate)

/-- Done in PRINTING: the label is presented, or discarded (R181). -/
def State.labelDone (s : State) : State :=
  match s.label.printer, s.label.atPrinter with
  | .printing, some l =>
    if s.queue.carries l then
      s.setLabel { s.label with printer := .presented, slot := some l, atPrinter := none, printDue := none }
    else
      (s.setLabel { s.label.waste with printer := .idle, atPrinter := none, printDue := none }).printerSettle
  | _, _ => s

/-- Fault or print timeout in PRINTING: the label returns to the head of the print order, where its tag then stands once
(R180; the model's choice, log entry 33), or is dropped (R181). -/
def State.printFailed (s : State) : State :=
  match s.label.printer, s.label.atPrinter with
  | .printing, some l =>
    (s.setLabel { s.label.waste with
      atPrinter := none, printDue := none,
      printOrder := if s.queue.carries l && !s.queue.isLate l then
          l :: s.label.printOrder.filter (fun x => x.tag != l.tag)
        else s.label.printOrder }).printerToFault
  | _, _ => s

/-! ### Confirming -/

/-- The label record composed of a record at its CONFIRM (R180). -/
def composeLabel (t : ImageStore) (p : Parcel) (tracking : List Nat) : Label :=
  { tag := p.tag, tracking := tracking, route := p.route, chute := t.chute p.route,
    dispatch := p.dispatch.getD .deferred, service := p.service, price := p.rating.price.getD 0,
    cs := p.rating.cs.getD 0, postcode := p.postcode }

/-- A CONFIRM is taken for a record: the next serial, the tracking number, the label, and LABEL-PENDING (R74, R175,
R177, R180). -/
def State.confirmTaken (s : State) (p : Parcel) (serial day : Nat) : State :=
  let tn := trackingNumber s.loader.office day s.loader.stationNo (serial + 1)
  let s1 := s.updateParcel p.tag (fun p => { p with state := .labelPending, tracking := some tn })
  let s2 := s1.setLabel { s1.label with printOrder := s1.label.printOrder ++ [composeLabel s.store p tn] }
  ((s2.setSerial (serial + 1) day false).printerSettle).respond 2 .ok (tn.map byteOf)

/-- Some record created after the one with this tag is in LABEL-PENDING or ON-BELT (R73). -/
def laterOnBelt (ps : List Parcel) (tag : Nat) : Bool :=
  ((ps.dropWhile (fun p => p.tag != tag)).drop 1).any (fun p => p.state == .labelPending || p.state == .onBelt)

/-- The refusal of a CONFIRM, in the order of chapter 4, Table 4, up to the serial (R73). -/
def confirmRefusal (ps : List Parcel) (p : Parcel) (quote : Nat) : Option Code :=
  if (p.state = .quoted ∨ p.state = .seeking) ∧ p.standing = some false then some .staleQuote
  else if p.state = .quoted ∧ p.quote ≠ some quote then some .staleQuote
  else if p.state ≠ .quoted then some .notQuoted
  else if laterOnBelt ps p.tag then some .busy
  else none

/-- A CONFIRM is tested and taken or refused (R73, R74). An UNRESOLVED serial, which a QUOTED record excludes, issues
nothing (log entry 21). -/
def State.testConfirm (s : State) (tag quote : Nat) : State :=
  match s.queue.find tag with
  | none => s.respond 2 .unknownTag []
  | some p =>
    match confirmRefusal s.queue.parcels p quote with
    | some c => s.respond 2 c []
    | none =>
      match s.label.serial with
      | some (serial, day) =>
        if serial < Config.serialMax then s.confirmTaken p serial day else s.respond 2 .serialExhausted []
      | none => s.respond 2 .serialExhausted []

end Sys2Proof.Machine
end

