-- ==== Sys2Proof/Machine/Outfeed.lean ====
section
/-! DEFINITION. The outfeed (chapter 9): the action table and the chute selector, the ends of parcels on the belt, and
the outfeed tracker. -/

namespace Sys2Proof.Machine

/-! ### Marks, divert, and the end of a record on the belt -/

/-- The record of a tag with an outfeed mark set; the first to be set makes the field present (R62, R80). -/
def State.mark (s : State) (tag : Nat) (f : Marks → Marks) : State :=
  s.updateParcel tag (fun p => { p with marks := some (f p.marked) })

/-- The entry is a SET-CHUTE of a tag. -/
def Action.setsFor (a : Action) (tag : Nat) : Bool :=
  match a.kind with
  | .setChute _ => a.tag == tag
  | .apply => false
  | .clearChute => false

/-- The outfeed after a record is diverted to chute 0 (R166). -/
def Outfeed.divert (o : Outfeed) (tag : Nat) : Outfeed :=
  if o.actions.any (fun a => a.setsFor tag) then
    { o with actions := o.actions.map (fun a => if a.setsFor tag then { a with kind := .setChute 0 } else a) }
  else if o.owner = some tag then { o with chute := 0 } else o

/-- A record is marked and diverted (R166). -/
def State.markAndDivert (s : State) (tag : Nat) (f : Marks → Marks) : State :=
  let s' := s.mark tag f
  s'.setOutfeed (s'.outfeed.divert tag)

/-- The action table without a tag's entries (R168). -/
def Outfeed.dropActions (o : Outfeed) (tag : Nat) : Outfeed :=
  { o with actions := o.actions.filter (fun a => a.tag != tag) }

/-- The pending CLEAR list without a tag. -/
def Outfeed.dropPending (o : Outfeed) (tag : Nat) : Outfeed :=
  { o with pendingClear := o.pendingClear.filter (fun x => x.1 != tag) }

/-- The reason of the first set mark (R80, R171). -/
def Marks.reason (m : Marks) : Option Reason :=
  if m.labelLate then some .labelLate
  else if m.gapFault then some .gapFault
  else if m.lengthMismatch then some .lengthMismatch
  else none

/-- The record of a tag while it is in ON-BELT. -/
def ParcelQueue.beltRecord (q : ParcelQueue) (tag : Nat) : Option Parcel :=
  q.parcels.find? (fun p => p.tag == tag && p.state == .onBelt)

/-- A record in ON-BELT ends REJECTED: its PARCEL-END becomes due, its booking is released, and its label is discarded (R80,
R183). R171 and R172 state that order for their own ends; for a record closed short (R163) no rule orders its PARCEL-END
and the PRINTER-FAULT STATION-EVENT that discarding its label from the slot can make, and the PARCEL-END comes first (the
model's choice, log entry 19). -/
def State.rejectOnBelt (s : State) (p : Parcel) (r : Reason) : State :=
  ((s.endParcel p .rejected (some r)).release p).discardLabel p.tag

/-- A record in ON-BELT ends by its CLEAR-CHUTE: DONE, or REJECTED with its first mark's reason (R80, R171). -/
def State.endOnBelt (s : State) (p : Parcel) : State :=
  match p.marked.reason with
  | some r => s.rejectOnBelt p r
  | none => (s.endParcel p .done none).discardLabel p.tag

/-! ### Carrying out actions -/

/-- An APPLY is carried out (R169). -/
def State.carryApply (s : State) (tag : Nat) : State :=
  match s.label.slot with
  | some l =>
    if l.tag = tag then
      (s.setOutfeed { s.outfeed with strobes := s.outfeed.strobes + 1 }).slotEmptied
    else (s.markAndDivert tag (fun m => { m with labelLate := true })).leavePrintOrder tag
  | none => (s.markAndDivert tag (fun m => { m with labelLate := true })).leavePrintOrder tag

/-- A SET-CHUTE is carried out (R170). -/
def Outfeed.carrySet (o : Outfeed) (tag chute : Nat) : Outfeed := { o with chute := chute, owner := some tag }

/-- The selector at a CLEAR-CHUTE (R170). -/
def Outfeed.carryClear (o : Outfeed) (tag : Nat) : Outfeed :=
  if o.owner = some tag then { o with chute := 0, owner := none } else o

/-- The table still holds an APPLY of a tag. -/
def Outfeed.hasApply (o : Outfeed) (tag : Nat) : Bool := o.actions.any (fun a => a.kind == .apply && a.tag == tag)

/-- A CLEAR-CHUTE is carried out and ends its record (R170, R171). -/
def State.carryClear (s : State) (tag : Nat) : State :=
  let s1 := s.setOutfeed (s.outfeed.carryClear tag)
  let s2 := if s1.outfeed.hasApply tag then s1.mark tag (fun m => { m with labelLate := true }) else s1
  let s3 := s2.setOutfeed (s2.outfeed.dropActions tag)
  match s3.queue.beltRecord tag with
  | some p => s3.endOnBelt p
  | none => s3

/-- An action is carried out (R168). -/
def State.carry (s : State) (a : Action) : State :=
  match a.kind with
  | .apply => s.carryApply a.tag
  | .setChute c => s.setOutfeed (s.outfeed.carrySet a.tag c)
  | .clearChute => s.carryClear a.tag

/-- An action is made: carried out at once if its position is reached, otherwise entered in the table (R165, R167). -/
def State.makeAction (s : State) (a : Action) : State :=
  if reached s.outfeed.encoder a.pos then s.carry a
  else s.setOutfeed { s.outfeed with actions := s.outfeed.actions ++ [a] }

/-- Pending CLEARs are entered while the action table has room, oldest first (R167). -/
def State.fillClears : Nat → State → State
  | 0, s => s
  | n + 1, s =>
    match s.outfeed.pendingClear with
    | (tag, pos) :: rest =>
      if s.outfeed.actions.length < Config.actionLen then
        State.fillClears n
          ((s.setOutfeed { s.outfeed with pendingClear := rest }).makeAction ⟨pos, .clearChute, tag⟩)
      else s
    | [] => s

/-- The removal of action entries lets pending CLEARs in (R167). -/
def State.freed (s : State) : State := State.fillClears s.outfeed.pendingClear.length s

/-- The first entry, in the order of making, whose position is reached. -/
def Outfeed.dueAction (o : Outfeed) : Option Action := o.actions.find? (fun a => reached o.encoder a.pos)

/-- Every entry reached is carried out and removed, in the order in which they were made (R168). A pending CLEAR that a
removal lets in is entered, and carried out if it is reached, once the entry removed has had its whole effect, for a
CLEAR-CHUTE the three steps of R171, and before entries made earlier and reached by the same advance (the model's choice,
log entry 19). -/
def State.runActions : Nat → State → State
  | 0, s => s
  | n + 1, s =>
    match s.outfeed.dueAction with
    | some a =>
      State.runActions n
        (((s.setOutfeed { s.outfeed with actions := s.outfeed.actions.erase a }).carry a).freed)
    | none => s

/-! ### The tracker -/

/-- The forward distance between two counts (R160). -/
def beltDistance (a b : Count) : Nat := (b - a).toNat

/-- A belt offset as a count. -/
def offset (n : Nat) : Count := BitVec.ofNat 16 n

/-- A BREAK is taken from the holding record when the pending CLEAR list is empty and the table has 2 free entries
(R162). -/
def Outfeed.breakTakable (o : Outfeed) : Bool := o.pendingClear.isEmpty && decide (o.actions.length + 2 ≤ Config.actionLen)

/-- The gap memory is too close before a position (R164, R165). -/
def Outfeed.gapShort (o : Outfeed) (l : Loader) (p0 : Count) : Bool :=
  match o.gap with
  | some g => decide (beltDistance g.pos p0 < l.minGap)
  | none => false

/-- The open parcel's record is closed short at a second BREAK (R163). Where its label stands in the slot with the fault
line asserted, its PARCEL-END comes before the PRINTER-FAULT STATION-EVENT of the discard (the model's choice, log entry
19). The gate it owns goes to chute 0 and stays its own (log entry 25). -/
def State.closeShort (s : State) (p : Parcel) : State :=
  let o := (s.outfeed.dropActions p.tag).dropPending p.tag
  (s.setOutfeed (if o.owner = some p.tag then { o with chute := 0 } else o)).rejectOnBelt p .lengthUnknown

/-- A BREAK taken while a parcel is open: the MAKE of that parcel is lost (R163). -/
def State.orphanBreak (s : State) : State :=
  match s.outfeed.openParcel with
  | none => s
  | some x =>
    let s1 := s.setOutfeed { s.outfeed with orphans := satAdd 255 s.outfeed.orphans 1, openParcel := none }
    match x.tag.bind s1.queue.beltRecord with
    | some p => s1.closeShort p
    | none => s1

/-- A matched record's APPLY is entered, or the record is marked LABEL-LATE (R165, step 1). -/
def State.enterApply (s : State) (tag : Nat) (p0 : Count) : State :=
  let pos := p0 + offset s.loader.applicator
  if reached s.outfeed.encoder pos then s.mark tag (fun m => { m with labelLate := true })
  else s.setOutfeed { s.outfeed with actions := s.outfeed.actions ++ [⟨pos, .apply, tag⟩] }

/-- The chute of a record's SET-CHUTE: 0 if it is marked (R165, step 2). -/
def State.chuteFor (s : State) (tag : Nat) : Nat :=
  match s.queue.find tag with
  | some p => if p.marked.labelLate || p.marked.gapFault then 0 else s.store.chute p.route
  | none => 0

/-- A BREAK is matched to a record (R79, R164, R165). -/
def State.matchBreak (s : State) (p : Parcel) (e : Edge) : State :=
  let s1 := s.updateParcel p.tag (fun p => { p with state := .onBelt, front := some (e.pos, e.time) })
  let s2 := s1.setOutfeed { s1.outfeed with openParcel := some ⟨e.pos, e.time, some p.tag⟩ }
  let s3 := if s2.outfeed.gapShort s2.loader e.pos then s2.mark p.tag (fun m => { m with gapFault := true }) else s2
  let s4 := s3.enterApply p.tag e.pos
  s4.makeAction ⟨e.pos + offset s4.loader.gate - offset s4.loader.lead, .setChute (s4.chuteFor p.tag), p.tag⟩

/-- A BREAK finds no record: the parcel is UNMATCHED (R164). -/
def State.unmatchedBreak (s : State) (e : Edge) : State :=
  let s1 := s.setOutfeed
    { s.outfeed with unmatched := satAdd 65535 s.outfeed.unmatched 1, openParcel := some ⟨e.pos, e.time, none⟩ }
  match s1.outfeed.gap with
  | some g =>
    match g.tag.bind s1.queue.beltRecord with
    | some p =>
      if s1.outfeed.gapShort s1.loader e.pos then s1.markAndDivert p.tag (fun m => { m with gapFault := true }) else s1
    | none => s1
  | none => s1

/-- The oldest record in LABEL-PENDING (R79). -/
def ParcelQueue.oldestPending (q : ParcelQueue) : Option Parcel :=
  q.parcels.find? (fun p => p.state == .labelPending)

/-- A BREAK is taken (R163 to R165). -/
def State.breakTaken (s : State) (e : Edge) : State :=
  let s1 := s.orphanBreak
  match s1.queue.oldestPending with
  | some p => s1.matchBreak p e
  | none => s1.unmatchedBreak e

/-- The outfeed length in millimetres (R167). -/
def outfeedLength (l : Loader) (p0 p1 : Count) : Nat := roundDiv (beltDistance p0 p1 * l.pitch) 1000

/-- A length differs by more than the tolerance from each of three dimensions (R167). -/
def lengthOff (tolerance len : Nat) (d : Option Dims) : Bool :=
  let off (x : Nat) : Bool := decide (x + tolerance < len) || decide (len + tolerance < x)
  match d with
  | some (.mm h w l _) => off h && off w && off l
  | some .invalid => false
  | none => false

/-- Steps 1 and 2 of a MAKE, for an open parcel whose record is still in ON-BELT (R167). -/
def State.measureBelt (s : State) (p : Parcel) (p0 p1 : Count) : State :=
  let len := outfeedLength s.loader p0 p1
  let s1 := s.updateParcel p.tag (fun p => { p with length := some len })
  let s2 := if lengthOff s.loader.lengthTolerance len p.dims then
      s1.markAndDivert p.tag (fun m => { m with lengthMismatch := true }) else s1
  let pos := p1 + offset s.loader.gate + offset s.loader.trail
  if s2.outfeed.actions.length < Config.actionLen ∧ s2.outfeed.pendingClear = [] then
    (s2.makeAction ⟨pos, .clearChute, p.tag⟩).freed
  else s2.setOutfeed { s2.outfeed with pendingClear := s2.outfeed.pendingClear ++ [(p.tag, pos)] }

/-- A MAKE is taken (R163, R167). -/
def State.makeTaken (s : State) (e : Edge) : State :=
  match s.outfeed.openParcel with
  | none => s.setOutfeed { s.outfeed with orphans := satAdd 255 s.outfeed.orphans 1 }
  | some x =>
    let s1 := match x.tag.bind s.queue.beltRecord with
      | some p => s.measureBelt p x.pos e.pos
      | none => s
    s1.setOutfeed { s1.outfeed with gap := some ⟨e.pos, x.tag⟩, openParcel := none }

/-- The holding record empties and the oldest queued edge moves into it (R161). -/
def Outfeed.nextEdge (o : Outfeed) : Outfeed := { o with holding := o.edges.head?, edges := o.edges.drop 1 }

/-- The tracker can take the edge in the holding record (R162). -/
def Outfeed.takable (o : Outfeed) : Option Edge :=
  match o.holding with
  | some e => match e.kind with
    | .make => some e
    | .brk => if o.breakTakable then some e else none
  | none => none

/-- The tracker takes an edge, and the holding record empties (R162). -/
def State.takeEdge (s : State) (e : Edge) : State :=
  let s' := s.setOutfeed s.outfeed.nextEdge
  match e.kind with
  | .brk => s'.breakTaken e
  | .make => s'.makeTaken e

/-- The tracker takes edges while it can (R162). -/
def State.trackFor : Nat → State → State
  | 0, s => s
  | n + 1, s =>
    match s.outfeed.takable with
    | some e => State.trackFor n (s.takeEdge e)
    | none => s

/-- The tracker takes every edge that it can take now (R162). -/
def State.track (s : State) : State := State.trackFor (s.outfeed.edges.length + 1) s

/-- A captured edge enters the holding record or the queue, or is dropped (R161). -/
def State.captureEdge (s : State) (e : Edge) : State :=
  match s.outfeed.holding, s.outfeed.edges with
  | none, [] => s.setOutfeed { s.outfeed with holding := some e }
  | _, _ =>
    if s.outfeed.edges.length < Config.edgeLen then
      s.setOutfeed { s.outfeed with edges := s.outfeed.edges ++ [e] }
    else (s.setOutfeed { s.outfeed with dropped := satAdd 255 s.outfeed.dropped 1 }).raiseOverrun

/-- The belt timeout of a record in ON-BELT has run out (R172). -/
def State.jamDue (s : State) (p : Parcel) : Bool :=
  p.state == .onBelt &&
    (match p.front with
     | some (_, t) => decide (s.loader.beltTimeout * 1000000 ≤ (s.outfeed.capture - t).toNat)
     | none => false)

/-- The outfeed at the jam of a tag: steps 1 to 3 and the counter (R172). -/
def Outfeed.jam (o : Outfeed) (tag : Nat) : Outfeed :=
  let o1 := (o.dropActions tag).dropPending tag
  { o1 with
    chute := if o.owner = some tag then 0 else o.chute,
    owner := if o.owner = some tag then none else o.owner,
    openParcel := o.openParcel.map (fun x => if x.tag = some tag then { x with tag := none } else x),
    jams := satAdd 255 o.jams 1 }

/-- A record jams (R172). A pending CLEAR that the removals of step 1 let in is entered after steps 2 to 5, so the jam's
reports come before those of a record that this CLEAR ends (the model's choice, log entry 19). -/
def State.jamRecord (s : State) (p : Parcel) : State :=
  ((((s.setOutfeed (s.outfeed.jam p.tag)).rejectOnBelt p .jam).raiseJam).freed).track

end Sys2Proof.Machine
end

