-- ==== Sys2Proof/Machine/Rating.lean ====
section
/-! DEFINITION. Rating arithmetic (chapter 3): the eight stages from a measurement to a price and a load, in
exact integers, each money value held to its range. -/

namespace Sys2Proof.Machine

/-- What a rating reads of its record (R38). -/
structure RatingInput where
  grams : Nat
  dims : Dims
  service : Service
  declared : Nat
  zone : Nat
  remote : Bool
deriving DecidableEq, Repr

/-- A rating's result: the fields formed, and the rejection reason if it ended in one (R37). -/
structure Rated where
  rating : Rating
  reject : Option Reason
deriving DecidableEq, Repr

/-- Three dimensions sorted by size, largest first (R38). -/
def sortDims (a b c : Nat) : Nat × Nat × Nat :=
  let l := max a (max b c)
  let h := min a (min b c)
  (l, a + b + c - l - h, h)

/-- Length plus girth (R42). -/
def lengthPlusGirth (l w h : Nat) : Nat := l + 2 * (w + h)

/-- The volumetric weight Vg (R43). -/
def volumetric (l w h divisor : Nat) : Nat := if divisor = 0 then 0 else ceilDiv (l * w * h) divisor

/-- The chargeable weight Cs: a weight rounded up to a whole multiple of the step (R44). -/
def chargeable (c step : Nat) : Nat := ceilDiv c step * step

/-- The first band, from 0, whose upper bound is at or above a weight (R46). -/
def findBand (g : Image) (v : Service) (cs : Nat) : Option Nat :=
  (List.range (tariffBands g v)).find? (fun b => decide (cs ≤ bandUpper g v b))

/-- The lower bound of a band (R46). -/
def bandLower (g : Image) (v : Service) (b : Nat) : Nat := if b = 0 then 0 else bandUpper g v (b - 1)

/-- A money value held to the money range (R51). -/
def held (m : Nat) : Nat := min m Config.moneyMax

/-- A money value that R51 holds sets SATURATED. -/
def isHeld (m : Nat) : Bool := decide (Config.moneyMax < m)

/-- The total rounded to a multiple of the rounding step, up or to the nearest (R53). -/
def roundMoney (total step : Nat) (up : Bool) : Nat :=
  if up then ceilDiv total step * step else roundDiv total step * step

/-- The price: the rounded total, or the largest multiple of the step within the money range (R53). -/
def priceOf (total step : Nat) (up : Bool) : Nat :=
  if roundMoney total step up ≤ Config.moneyMax then roundMoney total step up else Config.moneyMax / step * step

/-- The insurance fee before it is held (R50). -/
def insuranceOf (declared allowance rate : Nat) : Nat := ceilDiv ((declared - allowance) * rate) 1000

/-- Stages 4 to 8 for a chargeable weight within the tariff (R46 to R55). -/
def ratePrice (g : Image) (x : RatingInput) (girth vg cs b : Nat) (flags : RatingFlags) : Rated :=
  let step := tariffStep g x.service
  let steps := ceilDiv (cs - bandLower g x.service b) step
  let base := bandPrice g x.service b x.zone + bandAddOn g x.service b x.zone * steps
  let remote := if x.remote then roundDiv (held base * imageRemotePct g) 100 else 0
  let big := decide (imageOversizeThreshold g < girth)
  let fee := if big then tariffOversizeFee g x.service else 0
  let ins := insuranceOf x.declared (imageAllowance g) (imageInsuranceRate g)
  let total := held base + held remote + held fee + held ins
  let price := priceOf (held total) (imageRoundStep g) (imageRoundUp g)
  let sat := isHeld base || isHeld remote || isHeld fee || isHeld ins || isHeld total ||
    isHeld (roundMoney (held total) (imageRoundStep g) (imageRoundUp g))
  { rating :=
      { flags := { flags with oversize := big, saturated := sat, rounded := price != held total },
        vg := some vg, cs := some cs, band := some (b + 1), steps := some steps, base := some (held base),
        remote := some (held remote), oversizeFee := some (held fee), insurance := some (held ins),
        total := some (held total), price := some price, load := some (ceilDiv cs 100) },
    reject := none }

/-- Stages 2 and 3, and the stages after them, for a parcel within the limits (R43 to R45). -/
def rateWeight (g : Image) (x : RatingInput) (l w h : Nat) (flags : RatingFlags) : Rated :=
  let vg := volumetric l w h (tariffDivisor g x.service)
  let cs := chargeable (max x.grams vg) (tariffStep g x.service)
  let flags := { flags with volumetric := decide (x.grams < vg) }
  match findBand g x.service cs with
  | none => ⟨{ Rating.empty with flags := flags, vg := some vg, cs := some cs }, some .beyondTariff⟩
  | some b => ratePrice g x (lengthPlusGirth l w h) vg cs b flags

/-- The rating of a record: stage 1, then the stages after it (R37, R40 to R42). -/
def rate (g : Image) (x : RatingInput) : Rated :=
  match x.dims with
  | .invalid => ⟨Rating.empty, some .sensor⟩
  | .mm a b c clamped =>
    let flags := { RatingFlags.clear with clamped := clamped }
    let (l, w, h) := sortDims a b c
    if imageMaxWeight g < x.grams then ⟨{ Rating.empty with flags := flags }, some .overweight⟩
    else if imageMaxSide g < l ∨ imageMaxGirth g < lengthPlusGirth l w h then
      ⟨{ Rating.empty with flags := flags }, some .oversizeLimit⟩
    else rateWeight g x l w h flags

/-- The summary flags after a rating: it sets and clears none (R57). -/
def Summary.after (m : Summary) (r : Rated) : Summary :=
  { clamped := m.clamped || r.rating.flags.clamped, volumetric := m.volumetric || r.rating.flags.volumetric,
    oversize := m.oversize || r.rating.flags.oversize, saturated := m.saturated || r.rating.flags.saturated,
    rounded := m.rounded || r.rating.flags.rounded, invalid := m.invalid || r.reject == some .sensor }

end Sys2Proof.Machine
end

