-- ==== Sys2Proof/Machine/Plate.lean ====
section
/-! DEFINITION. The plate scanner (chapter 1): conversions, the close of a round with its stages, and the two
hand-overs with the rating and booking they start. -/

namespace Sys2Proof.Machine

/-! ### Conversions (R1, R3) -/

/-- A converted code of a channel, with its FAULT mark (R1, Table 1). -/
def convert (c : Channel) (code : BitVec 16) : ScanResult :=
  if c.isCell then ⟨code.toInt, code = 0x8000#16 || code = 0x7FFF#16⟩
  else ⟨code.toNat, code = 0x0000#16 || code = 0xFFFF#16⟩

/-- The channel that an entry's step converts, when the entry is ENABLED (R2, R3). -/
def Loader.scanned (l : Loader) (e : Nat) : Option Channel := if l.entryEnabled e then l.entryChannel e else none

/-- The ENABLED entry of a channel (R2). -/
def Loader.entryOf (l : Loader) (c : Channel) : Option Nat := (List.range 8).find? (fun e => l.scanned e == some c)

/-- A channel's latest result, when it is present in the scan table and has one. -/
def Plate.result (p : Plate) (l : Loader) (c : Channel) : Option ScanResult :=
  (l.entryOf c).bind (fun e => (p.results.getD e none))

/-! ### The round's values (R4, R5, R14) -/

/-- A round passes the reference check (R4). -/
def Plate.refPasses (p : Plate) (l : Loader) : Bool :=
  match p.result l .ref with
  | some r => !r.fault && decide ((l.refLo : Int) ≤ r.code) && decide (r.code ≤ (l.refHi : Int))
  | none => false

/-- Some ENABLED entry's result is FAULT (R4). -/
def Plate.anyFault (p : Plate) (l : Loader) : Bool :=
  (List.range 8).any (fun e =>
    (l.scanned e).isSome &&
      (match p.results.getD e none with
       | some r => r.fault
       | none => true))

/-- A channel's code for the round's values, absent when it counts as FAULT (R4). -/
def Plate.code (p : Plate) (l : Loader) (c : Channel) : Option Int :=
  if p.refPasses l then
    match p.result l c with
    | some r => if r.fault then none else some r.code
    | none => none
  else none

/-- The load-cell sum S, absent when a load cell counts as FAULT (R5). -/
def Plate.sum (p : Plate) (l : Loader) : Option Int :=
  match p.code l .lc0, p.code l .lc1, p.code l .lc2, p.code l .lc3 with
  | some a, some b, some c, some d => some (a + b + c + d)
  | _, _, _, _ => none

/-- W16 of a sum (R5). -/
def weightOf (gain tare : Nat) (zero sum : Int) : Nat :=
  (roundDivInt ((sum - zero) * gain) 4096 - tare).toNat

/-- The round's weight: none for a zeroless round (R5). -/
def Plate.roundWeight (p : Plate) (l : Loader) : Weight :=
  match p.zero with
  | none => .none
  | some z =>
    match p.sum l with
    | some s => .value (weightOf l.gain p.tare z s)
    | none => .invalid

/-- A reading in millimetres and whether it is CLAMPED (R14). -/
def readingOf (mount scale : Nat) (code : Int) : Nat × Bool :=
  let d : Int := mount - roundDivInt (code * scale) 1000
  if d < 0 then (0, true) else if 2000 < d then (2000, true) else (d.toNat, false)

/-- The reading of a distance channel, with its mount and scale by number; absent for FAULT, and 0 for an absent
channel (R14). -/
def Plate.reading (p : Plate) (l : Loader) (c : Channel) (i : Nat) : Option (Nat × Bool) :=
  match l.entryOf c with
  | none => some (0, false)
  | some _ => (p.code l c).map (readingOf (l.mount i) (l.scale i))

/-! ### Zero capture (R6) -/

/-- Zero capture with one more sum (R6). -/
def Plate.capture (p : Plate) (l : Loader) : Plate :=
  match p.zero with
  | some _ => p
  | none =>
    match p.sum l with
    | none => { p with capRun := 0 }
    | some s =>
      if p.capRun = 0 then { p with capRun := 1, capFirst := s, capTotal := s }
      else if (s - p.capFirst).natAbs ≤ l.zeroWindow then
        (if p.capRun + 1 < 8 then { p with capRun := p.capRun + 1, capTotal := p.capTotal + s }
         else { p with capRun := 0, capFirst := 0, capTotal := 0, zero := some (roundDivInt (p.capTotal + s) 8) })
      else { p with capRun := 1, capFirst := s, capTotal := s }

/-! ### Settle band, quiet count, plate-clear (R9 to R13) -/

/-- The upper bound Hi of the band (R9). -/
def Plate.hi (p : Plate) (l : Loader) : Int := p.lo + 2 * l.halfWidth

/-- A round's weight moves the band (R9). -/
def Plate.moves (p : Plate) (l : Loader) (w : Nat) : Bool := decide (p.hi l < w) || decide ((w : Int) < p.lo)

/-- The band after a round's weight: it moves by whole half-widths to hold it (R9). -/
def Plate.bandLo (p : Plate) (l : Loader) (w : Nat) : Int :=
  if p.hi l < w then p.lo + ceilDiv ((w : Int) - p.hi l).toNat l.halfWidth * l.halfWidth
  else if (w : Int) < p.lo then p.lo - ceilDiv (p.lo - (w : Int)).toNat l.halfWidth * l.halfWidth
  else p.lo

/-- The settled-weight history with a value appended, at most 64 kept (R10). -/
def pushHistory (h : List Nat) (w : Nat) : List Nat :=
  if h.length < Config.historyLen then h ++ [w] else h.drop 1 ++ [w]

/-- The stages of R9 and R10 for a round's weight. -/
def Plate.settleStage (p : Plate) (l : Loader) (w : Weight) : Plate :=
  match w with
  | .value w =>
    if p.moves l w then { p with lo := p.bandLo l w, parity := !p.parity, quiet := 0, history := [] }
    else { p with quiet := satAdd 255 p.quiet 1, history := pushHistory p.history w }
  | .invalid => { p with quiet := 0, history := [] }
  | .none => { p with quiet := 0, history := [] }

/-- The stage of R13 for a round's weight. -/
def Plate.clearStage (p : Plate) (l : Loader) (w : Weight) : Plate :=
  match w with
  | .value w => if w < l.presenceThreshold then { p with clear := satAdd 255 p.clear 1 } else { p with clear := 0 }
  | .invalid => { p with clear := 0 }
  | .none => { p with clear := 0 }

/-- The plate is settled (R10). In CONFIG-FAULT, where the test stands on the settle rounds of a record that failed, a
byte 0 there makes the answer of QUERY-STATION yes (the model's choice, log entry 24). -/
def Plate.settled (p : Plate) (l : Loader) : Bool := decide (l.settleRounds ≤ p.quiet)

/-- The settled weight in sixteenths: the rounded mean of the most recent settle-rounds values (R11). -/
def Plate.settledWeight (p : Plate) (l : Loader) : Nat :=
  roundDiv ((p.history.drop (p.history.length - l.settleRounds)).sum) l.settleRounds

/-- The settled weight in grams (R11). -/
def gramsOf (w16 : Nat) : Nat := ceilDiv w16 16

/-- A parcel is present (R12). -/
def Plate.present (p : Plate) (l : Loader) : Bool :=
  p.settled l && decide (l.presenceThreshold ≤ p.settledWeight l)

/-! ### Dimension measurement (R15) -/

/-- A measurement as the settle hand-over begins it (R15). -/
def Measurement.start : Measurement :=
  { accH := 0, accW := 0, accL := 0, clampH := false, clampW := false, clampL := false, rounds := 0, valid := true }

/-- A measurement after one more round: spoiled, or with three readings added (R15). -/
def Measurement.add (m : Measurement) (r : Option ((Nat × Bool) × (Nat × Bool) × (Nat × Bool))) : Measurement :=
  match r with
  | none => { m with valid := false, rounds := m.rounds + 1 }
  | some (h, w, l) =>
    { m with
      accH := m.accH + h.1, accW := m.accW + w.1, accL := m.accL + l.1, clampH := m.clampH || h.2,
      clampW := m.clampW || w.2, clampL := m.clampL || l.2, rounds := m.rounds + 1 }

/-- The dimensions that a finished measurement hands over (R15). -/
def Measurement.dims (m : Measurement) : Dims :=
  if m.valid then
    .mm (roundDiv m.accH 8) (roundDiv m.accW 8) (roundDiv m.accL 8) (m.clampH || m.clampW || m.clampL)
  else .invalid

/-- The three readings of a round that counts for a measurement; absent when the round spoils it (R15). -/
def Plate.roundReadings (p : Plate) (l : Loader) (moved : Bool) :
    Option ((Nat × Bool) × (Nat × Bool) × (Nat × Bool)) :=
  if p.refPasses l && p.roundWeight l != .invalid && !moved then
    match p.reading l .dh 0, p.reading l .dw 1, p.reading l .dl 2 with
    | some h, some w, some d => some (h, w, d)
    | _, _, _ => none
  else none

/-! ### The hand-overs (R12, R15, R66) -/

/-- The record in a state, of which there is at most one in WAIT-PLATE or MEASURING (R60). -/
def ParcelQueue.inState (q : ParcelQueue) (st : PState) : Option Parcel := q.parcels.find? (fun p => p.state == st)

/-- The settle hand-over (R12, R66). -/
def State.settleHandOver (s : State) (p : Parcel) : State :=
  let w := s.plate.settledWeight s.loader
  (s.updateParcel p.tag (fun p =>
    { p with state := .measuring, weight := some (gramsOf w, w), cleared := some false, plateDue := none })).setPlate
    { s.plate with meas := some .start }

/-- What a rating reads of a record (R38). -/
def Parcel.ratingInput (p : Parcel) (d : Dims) : RatingInput :=
  { grams := (p.weight.map Prod.fst).getD 0, dims := d, service := p.service, declared := p.declared, zone := p.zone,
    remote := p.remote }

/-- The measurement hand-over, the rating in the same event, and the rejection or the booking request it ends in (R15,
R37, R57, R66, R69). The record stays in RATING while another booking is current; otherwise its request is served in the
same event (R66, R93) and its QUOTE becomes due (R83). -/
def State.measurementHandOver (s : State) (p : Parcel) (d : Dims) : State :=
  let r := rate (s.store.image.getD []) (p.ratingInput d)
  let p' := { p with state := .rating, dims := some d, rating := r.rating }
  let s1 := (s.updateParcel p.tag (fun _ => p')).setSummary (s.summary.after r)
  match r.reject with
  | some reason => s1.endParcel p' .rejected (some reason)
  | none =>
    (s1.setDispatch (s1.dispatch.request
      { tag := p.tag, route := p.route, load := r.rating.load.getD 0, rated := true })).serveLine.quotesDue s1

/-- The plate-clear event: every NOT-CLEARED mark becomes CLEARED (R13, R67). -/
def ParcelQueue.plateCleared (q : ParcelQueue) : ParcelQueue :=
  { q with parcels := q.parcels.map (fun p => if p.cleared = some false then { p with cleared := some true } else p) }

/-! ### The close of a round (R4 to R15) -/

/-- Stages R5 to R13 on the plate: the weight, the zero capture, the band, the counts. -/
def Plate.closeStages (p : Plate) (l : Loader) : Plate :=
  let w := p.roundWeight l
  { ((p.capture l).settleStage l w).clearStage l w with latest := w, refPassed := some (p.refPasses l) }

/-- The stage of R13's event. -/
def State.clearEvent (s : State) (was : Plate) : State :=
  if was.clear < s.plate.clear ∧ s.plate.clear = s.loader.settleRounds then s.setQueue s.queue.plateCleared else s

/-- The stage of R12. -/
def State.settleEvent (s : State) : State :=
  match s.queue.inState .waitPlate with
  | some p => if s.plate.present s.loader then s.settleHandOver p else s
  | none => s

/-- The stage of R15, for a measurement that was in progress before the round's settle stage. A VOID that arrived together
with the close that hands the record over meets it (R16). -/
def State.measureEvent (s : State) (was : Plate) : State :=
  match was.meas, s.queue.inState .measuring with
  | some m, some p =>
    let moved := match was.roundWeight s.loader with
      | .value w => was.moves s.loader w
      | .invalid => false
      | .none => false
    let m' := m.add (was.roundReadings s.loader moved)
    if m'.rounds < 8 then s.setPlate { s.plate with meas := some m' }
    else ((s.setPlate { s.plate with meas := none }).measurementHandOver p m'.dims).meetVoid p.tag
  | _, _ => s

/-- A round is closed (R4 onwards). A STATION-EVENT of SENSOR-FAULT enters the report queue before a report that the
round's measurement hand-over makes due (the model's choice, log entry 19). -/
def State.closeRound (s : State) : State :=
  let was := s.plate
  let s1 := s.setSensorFault (!was.refPasses s.loader || was.anyFault s.loader)
  let s2 := s1.setPlate (s1.plate.closeStages s.loader)
  ((s2.clearEvent was).settleEvent).measureEvent was

/-! ### The scan step (R3) -/

/-- The conversion that ends is written as its entry's result. -/
def Plate.endConversion (p : Plate) (l : Loader) (code : BitVec 16) : Plate :=
  match p.converting, l.scanned p.cur with
  | true, some c => { p with results := p.results.set p.cur (some (convert c code)), converting := false }
  | _, _ => { p with converting := false }

/-- The conversion of an entry begins, if it is ENABLED, and the next step is due one interval later. -/
def Plate.beginEntry (p : Plate) (l : Loader) (j due : Nat) : Plate :=
  { p with cur := j, converting := (l.scanned j).isSome, stepDue := due }

/-- The step for the entry after the current one begins (R3). -/
def State.scan (s : State) (code : BitVec 16) : State :=
  let j := if s.plate.cur < 7 then s.plate.cur + 1 else 0
  let s1 := s.setPlate (s.plate.endConversion s.loader code)
  let s2 := if j = 0 then s1.closeRound else s1
  s2.setPlate (s2.plate.beginEntry s2.loader j (s2.plate.stepDue + s2.loader.scanStepUs))

/-- The scanner starts with the step for entry 0 (R3). -/
def Plate.startScan (p : Plate) (l : Loader) (nowUs : Nat) : Plate :=
  { p with running := true }.beginEntry l 0 (nowUs + l.scanStepUs)

/-- Z discarded and zero capture begun afresh, with band, counts and history in their start positions (R7). -/
def Plate.rezero (p : Plate) (l : Loader) : Plate :=
  { p with
    zero := none, capRun := 0, capFirst := 0, capTotal := 0, lo := -(l.halfWidth : Int), quiet := 0, history := [],
    clear := 0 }

end Sys2Proof.Machine
end

