-- ==== Sys2Proof/Machine/Shares.lean ====
section
/-! DEFINITION. Closings (R103, R33), the giver's side of the share agent and the GIVEs it receives (chapter 8, sections
8.2 to 8.4), and the steps of the station clock (R87 to R89). -/

namespace Sys2Proof.Machine

/-! ### Peers as the share agent sees them (R138) -/

/-- The entry of a station. -/
def PeerTable.find (t : PeerTable) (station : Nat) : Option Peer := t.peers.find? (fun p => p.station == station)

/-- The table with the entry of a station changed. -/
def PeerTable.update (t : PeerTable) (station : Nat) (f : Peer → Peer) : PeerTable :=
  { t with peers := t.peers.map (fun p => if p.station = station then f p else p) }

/-! ### A GIVE at its giver (R149) -/

/-- The dispatch table after the ending of a GIVE whose entry has not closed since its reservation (R149, Table 2). -/
def DispatchTable.giveEnds (d : DispatchTable) (g : TxGive) (e : Ending) : DispatchTable :=
  match e with
  | .acknowledged => d.transferOut g.route g.day g.slot g.units
  | .abandoned => d.writeOff g.route g.day g.slot g.units
  | .dropped => d.giveBack g.route g.day g.slot g.units
  | .unheard => d
  | .withdrawn => d

/-- The ending of a GIVE is handed to the share agent (R138, R149). -/
def State.giveEnding (s : State) (g : TxGive) (e : Ending) : State :=
  let s1 := if g.live then s.setDispatch (s.dispatch.giveEnds g e) else s
  if e = .acknowledged then
    s1.setPeers (s1.peers.update g.target (fun p => { p with given := satAdd 65535 p.given g.units }))
  else s1

/-- The endings of GIVEs removed when the queue is emptied: ABANDONED for a begun one, otherwise DROPPED (R121). -/
def State.dropGives : List TxGive → State → State
  | [], s => s
  | g :: rest, s => State.dropGives rest (s.giveEnding g (if g.begun then .abandoned else .dropped))

/-- The transmit queue is emptied and the endings of its GIVEs are handed back (R121, R122, R124, R126). -/
def State.emptyQueue (s : State) : State :=
  State.dropGives s.bus.gives
    (s.setBus { s.bus with gives := [], ask := none, presence := none, sending := none, waitFrom := none })

/-! ### Answering an ASK (R147, R148) -/

/-- The spare of an entry: its free units less the route's keep-back (R147). -/
def State.spare (s : State) (route : Nat) (e : Entry) : Nat :=
  e.free - ((s.store.image.map (fun g => routeKeepBack g route)).getD 0)

/-- The open ask is for a dispatch. -/
def ShareAgent.asksFor (a : ShareAgent) (route day slot : Nat) : Bool :=
  match a.openAsk with
  | some x => x.route == route && x.day == day && x.slot == slot
  | none => false

/-- An ASK is answered with a reservation and a queued GIVE (R148). -/
def State.answerAsk (s : State) (target askNo route day slot m : Nat) : State :=
  let s1 := s.setDispatch (s.dispatch.reserve route day slot m)
  let s2 := s1.setShare { s1.share with nextGive := cycle 0 255 s1.share.nextGive }
  s2.putBus (s2.bus.queueGive
    { target := target, askNo := askNo, giveNo := s.share.nextGive, route := route, day := day, slot := slot, units := m,
      begun := false, fails := 0, live := true })

/-- An ASK of a peer with an entry is taken: it is answered when all of R147 holds. -/
def State.takeAsk (s : State) (p : Peer) (askNo route day slot units : Nat) : State :=
  match s.dispatch.entry route day slot with
  | none => s
  | some e =>
    if p.status = .present ∧ s.share.asksFor route day slot = false ∧ s.bus.gives.length < Config.giveLen ∧
        0 < s.spare route e then
      s.answerAsk p.station askNo route day slot (min units (s.spare route e))
    else s

/-! ### A GIVE at its receiver (R151, R152) -/

/-- An accepted GIVE is matched to the open ask: it raises its units received and may end it, or it is late (R145,
R152). -/
def State.matchGive (s : State) (askNo route day slot units : Nat) : State :=
  match s.share.openAsk with
  | some a =>
    if a.askNo = askNo ∧ a.route = route ∧ a.day = day ∧ a.slot = slot then
      let received := satAdd 65535 a.received units
      let s' := s.setShare { s.share with openAsk := some { a with received := received } }
      if a.wanted ≤ received then s'.endAsk else s'
    else s.setShare { s.share with late := satAdd 255 s.share.late 1 }
  | none => s.setShare { s.share with late := satAdd 255 s.share.late 1 }

/-- A GIVE of a peer with an entry is taken: a repeat changes nothing; otherwise it is accepted, applied and matched
(R138, R151, R152). -/
def State.takeGive (s : State) (p : Peer) (askNo giveNo route day slot units : Nat) : State :=
  if p.lastGive = some giveNo then s
  else
    let s1 := s.setPeers (s.peers.update p.station
      (fun p => { p with lastGive := some giveNo, received := satAdd 65535 p.received units }))
    (s1.setDispatch (s1.dispatch.applyUnits route day slot units)).matchGive askNo route day slot units

/-! ### Closing at cut-off (R103) -/

/-- A record whose standing quote names a dispatch (R71). -/
def Parcel.quotedOn (p : Parcel) (route day slot : Nat) : Bool :=
  p.state == .quoted && p.standing == some true && p.route == route && p.dispatch == some (.entry day slot)

/-- The record with its quote withdrawn and its booking gone (R71). -/
def Parcel.withdrawn (p : Parcel) : Parcel := { p with standing := some false, dispatch := none, holds := false }

/-- A record keeps its dispatch field, but its booking leaves with the entry (R68, R103). -/
def Parcel.entryClosed (p : Parcel) (route day slot : Nat) : Parcel :=
  if p.quotedOn route day slot then p.withdrawn
  else if p.route = route ∧ p.dispatch = some (.entry day slot) then { p with holds := false } else p

/-- The requests of the requoted records, in queue order (R71). -/
def requotes (ps : List Parcel) (route day slot : Nat) : List Request :=
  (ps.filter (fun p => p.quotedOn route day slot)).map
    (fun p => { tag := p.tag, route := p.route, load := p.rating.load.getD 0, rated := false })

/-- Step 3: the booking whose trial has closed rolls without a trial; at three entries tried it ends DEFERRED (R89,
R103). -/
def State.rollClosed (s : State) (route day slot : Nat) : State :=
  match s.dispatch.current with
  | some b =>
    if b.request.route = route ∧ b.trial = some (day, slot) then
      let b' := s.dispatch.rolled b
      if b'.tries < 3 then s.setDispatch { s.dispatch with current := some b' } else s.bookDeferred b'
    else s
  | none => s

/-- Step 3 with its ask: an open ask for the dispatch ends, and the booking rolls (R103, R154). -/
def State.closeAskFor (s : State) (route day slot : Nat) : State :=
  (if s.share.asksFor route day slot then s.closeAsk else s).rollClosed route day slot

/-- The head entry of a route's ring closes at its cut-off: the five steps of R103. The bookings it leaves are tried by
the caller (R89). -/
def State.closeHead (s : State) (route : Nat) (e : Entry) : State :=
  let s1 := s.setDispatch (s.dispatch.expire e.held)
  let s2 := s1.putBus (s1.bus.withdrawGives (fun g => g.names route e.day e.slot))
  let s3 := s2.closeAskFor route e.day e.slot
  let s4 := s3.setDispatch (s3.dispatch.updateRing route (fun r => r.refill s.store))
  let s5 := s4.setDispatch
    { s4.dispatch with line := s4.dispatch.line ++ requotes s4.queue.parcels route e.day e.slot }
  s5.setQueue { s5.queue with parcels := s5.queue.parcels.map (fun p => p.entryClosed route e.day e.slot) }

/-! ### The station clock -/

/-- Milliseconds from the beginning of the 366-day cycle. -/
def ClockTime.instant (c : ClockTime) : Nat := (c.day - 1) * Config.dayMs + c.ms

/-- The cut-off instant of an entry (R90). -/
def Entry.instant (e : Entry) : Nat := (e.day - 1) * Config.dayMs + e.minute * 60000

/-- The forward distance between two instants of the 366-day cycle (R88). -/
def forwardFrom (a b : Nat) : Nat := (b + Config.cycleMs - a) % Config.cycleMs

/-- The clock has reached an entry's cut-off instant (R87). -/
def Entry.reachedAt (e : Entry) (c : ClockTime) : Bool := decide (forwardFrom e.instant c.instant < Config.forwardMs)

/-- How far ahead of the clock an entry's cut-off lies (R88). A head whose cut-off is the present instant, its closing not
yet taken, lies 0 ahead and is closed by a forward step too (log entry 12). -/
def Entry.ahead (e : Entry) (c : ClockTime) : Nat := forwardFrom c.instant e.instant

/-- The head of a ring, with its route, when its cut-off lies within a span. -/
def Ring.dueHead (c : ClockTime) (d : Nat) (r : Ring) : Option (Nat × Entry) :=
  match r.entries with
  | e :: _ => if e.ahead c ≤ d then some (r.route, e) else none
  | [] => none

/-- The earlier of two due heads; for equal instants the one of the lower route (R89). -/
def earlier (c : ClockTime) (best : Option (Nat × Entry)) (x : Nat × Entry) : Option (Nat × Entry) :=
  match best with
  | none => some x
  | some b => if x.2.ahead c < b.2.ahead c ∨ (x.2.ahead c = b.2.ahead c ∧ x.1 < b.1) then some x else some b

/-- The next closing of a forward step (R89). -/
def DispatchTable.nextClosing (t : DispatchTable) (c : ClockTime) (d : Nat) : Option (Nat × Entry) :=
  (t.rings.filterMap (Ring.dueHead c d)).foldl (earlier c) none

/-- The closings of a forward step from a time, one after another (R89). -/
def State.closeSpan : Nat → State → ClockTime → Nat → State
  | 0, s, _, _ => s
  | n + 1, s, c, d =>
    match s.dispatch.nextClosing c d with
    | some (route, e) => State.closeSpan n (s.closeHead route e) c d
    | none => s

/-- More closings than a step below 183 days can make: 16 routes of 4 daily slots (R23, R89). -/
def closingLimit : Nat := 16 * 4 * 185

/-- A forward step of the clock (R89). The QUOTEs of all its bookings become due in queue order (R83). A booking whose ask's
entry stays open through the step is still ASKING after it and waits for the ask's end (the model's choice, log entry
35). -/
def State.stepForward (s : State) (c new : ClockTime) (d : Nat) : State :=
  let s1 := State.closeSpan closingLimit s c d
  let s2 := if new.day = c.day then s1 else s1.labelDay new.day
  (s2.setDispatch { s2.dispatch with clock := some new }).bookings.quotesDue s

/-- The clock is set for the first time: rings are filled and the serial is resolved (R88, R91, R179). -/
def State.firstClock (s : State) (new : ClockTime) : State :=
  (s.setDispatch { s.dispatch with clock := some new, rings := fillRings s.store new.day new.ms }).resolveSerial new.day

/-- A SET-CLOCK with its fields in range: its effect and whether it is taken (R88). -/
def State.setClockTo (s : State) (new : ClockTime) : State × Bool :=
  match s.dispatch.clock with
  | none => (s.firstClock new, true)
  | some c =>
    let d := forwardFrom c.instant new.instant
    if d = 0 then (s, true)
    else if d < Config.forwardMs then (s.stepForward c new d, true)
    else if Config.cycleMs - d ≤ Config.backwardMs ∧ new.day = c.day then
      (s.setDispatch { s.dispatch with clock := some new }, true)
    else (s, false)

/-! ### The edition change (R33, R34) -/

/-- Every entry closes and the rings are rebuilt from a new image, the clock being set (R33). -/
def DispatchTable.rebuild (t : DispatchTable) (store : ImageStore) : DispatchTable :=
  match t.clock with
  | none => t
  | some c =>
    { t with
      expired := satAdd 65535 t.expired ((t.rings.flatMap Ring.entries).map Entry.held).sum
      rings := fillRings store c.day c.ms }

/-- The status a PRESENCE or an edition change gives (R34, R135). -/
def statusFor (own edition : Nat) : PeerStatus := if edition = own ∧ own ≠ 0 then .present else .mismatch

/-- An entry with its status recomputed for a new edition; a SILENT one stays so (R34). -/
def Peer.recompute (own : Nat) (p : Peer) : Peer :=
  if p.status = .silent then p else { p with status := statusFor own p.edition }

/-- The peer table recomputes its statuses (R34). -/
def State.recomputePeers (s : State) : State :=
  let ps := s.peers.peers.map (Peer.recompute s.store.edition)
  let s' := s.setPeers { s.peers with peers := ps }
  if ps = s.peers.peers then s' else s'.raisePeer

/-- A staged image becomes active: the dispatch table is rebuilt and the hall is told (R32 to R34). -/
def State.editionChange (s : State) (g : Image) : State :=
  let s1 := s.setStore { s.store with image := some g }
  let s2 := match s1.dispatch.clock with
    | none => s1
    | some _ => s1.putBus (s1.bus.withdrawGives (fun g => g.live))
  (s2.setDispatch (s2.dispatch.rebuild s2.store)).recomputePeers

end Sys2Proof.Machine
end

