-- ==== Sys2Proof/Machine/Layout.lean ====
section
/-! DEFINITION. The bytes of responses (R186): each number in the fewest bytes that hold its range, each item in the order
of its chapter's table. Where R186 leaves a form open, log entry 5 names the one used. -/

namespace Sys2Proof.Machine

/-! ### Forms (R186) -/

/-- A number below 256. -/
def n1 (n : Nat) : List Byte := [byteOf n]

/-- A flag: 0 clear, 1 set. -/
def flag (b : Bool) : List Byte := [if b then 1#8 else 0#8]

/-- An item that may be absent: a presence byte, then the item. -/
def optional {α : Type} (f : α → List Byte) : Option α → List Byte
  | none => [0#8]
  | some x => 1#8 :: f x

/-- A list: its number of members, then the members. -/
def listed {α : Type} (f : α → List Byte) (xs : List α) : List Byte := byteOf xs.length :: xs.flatMap f

/-! ### Named values -/

/-- A response code's number (chapter 11, Table 2). -/
def Code.number : Code → Nat
  | .ok => 0 | .busy => 1 | .queueFull => 2 | .notReady => 3 | .noClock => 4 | .noTariff => 5 | .loading => 6
  | .range => 7 | .unserved => 8 | .unknownTag => 9 | .notQuoted => 10 | .staleQuote => 11 | .notVoidable => 12
  | .serialExhausted => 13 | .locked => 14 | .badImage => 15 | .plateNotCleared => 16 | .badCommand => 17

/-- A bus state's code (R109). -/
def BusState.code : BusState → Nat
  | .off => 0 | .listen => 1 | .hold => 2 | .announce => 3 | .gather => 4 | .active => 5 | .quiet => 6 | .failed => 7

/-- A record state's number (chapter 4, Table 2). -/
def PState.number : PState → Nat
  | .waitPlate => 0 | .measuring => 1 | .rating => 2 | .seeking => 3 | .quoted => 4 | .labelPending => 5 | .onBelt => 6
  | .done => 7 | .void => 8 | .rejected => 9

/-- An outcome's number (R186). -/
def EndOutcome.number : EndOutcome → Nat
  | .done => 0 | .void => 1 | .rejected => 2

/-- A reason's number (R186). -/
def Reason.number : Reason → Nat
  | .command => 0 | .plateTimeout => 1 | .sensor => 2 | .overweight => 3 | .oversizeLimit => 4 | .beyondTariff => 5
  | .labelLate => 6 | .gapFault => 7 | .lengthMismatch => 8 | .jam => 9 | .lengthUnknown => 10

/-- An image fault class's number (R186). -/
def ImgClass.number : ImgClass → Nat
  | .length => 0 | .check => 1 | .edition => 2 | .limits => 3 | .standard => 4 | .priority => 5 | .zoneMap => 6
  | .schedule => 7 | .routeRef => 8 | .store => 9

/-- A configuration fault class's number, in the order of R192. -/
def CfgClass.number : CfgClass → Nat
  | .missing => 0 | .check => 1 | .format => 2 | .range => 3

/-- A service's number (R186, Table 1). -/
def Service.number : Service → Nat
  | .standard => 0 | .priority => 1

/-- The order of chapter 2, section 2.6. -/
def Staging.number : Staging → Nat
  | .idle => 0 | .staging => 1 | .storing => 2

/-- The order of R191. -/
def Station.number : Station → Nat
  | .running => 0 | .configFault => 1

/-- The order of R181. -/
def Printer.number : Printer → Nat
  | .idle => 0 | .printing => 1 | .presented => 2 | .fault => 3

/-- The order of R143. -/
def AskPhase.number : AskPhase → Nat
  | .waiting => 0 | .sending => 1 | .window => 2

/-- The order of R134. -/
def PeerStatus.number : PeerStatus → Nat
  | .present => 0 | .mismatch => 1 | .silent => 2

/-- The order of R173. -/
def beamNumber : Beam → Nat
  | .made => 0 | .broken => 1

/-- The order of R161. -/
def edgeNumber : EdgeKind → Nat
  | .brk => 0 | .make => 1

/-- The order of R168. -/
def ActKind.number : ActKind → Nat
  | .apply => 0 | .setChute _ => 1 | .clearChute => 2

/-! ### Items -/

/-- A time of the station clock. UNSET, of the clock itself or of a time last heard, is the byte 0 alone, and 1 precedes a
time (the model's choice, log entry 5). -/
def clockBytes : Option ClockTime → List Byte := optional (fun c => be16 c.day ++ be32 c.ms)

/-- A dispatch: 0 for DEFERRED, or 1 with day and slot (R188). -/
def bookedBytes : Booked → List Byte
  | .deferred => [0#8]
  | .entry day slot => 1#8 :: (be16 day ++ n1 slot)

def ratingFlagBytes (f : RatingFlags) : List Byte :=
  flag f.clamped ++ flag f.volumetric ++ flag f.oversize ++ flag f.saturated ++ flag f.rounded

def markBytes (m : Marks) : List Byte := flag m.labelLate ++ flag m.gapFault ++ flag m.lengthMismatch

def summaryBytes (m : Summary) : List Byte :=
  flag m.clamped ++ flag m.volumetric ++ flag m.oversize ++ flag m.saturated ++ flag m.rounded ++ flag m.invalid

def trackingBytes (ds : List Nat) : List Byte := ds.map byteOf

/-- An image fault's class and offset (R186). -/
def imgFaultBytes (f : ImgFault) : List Byte := n1 f.cls.number ++ optional be16 f.offset

/-- A configuration fault's class and offset (R192). -/
def cfgFaultBytes (f : CfgFault) : List Byte := n1 f.cls.number ++ optional n1 f.offset

/-- A report as FETCH returns it, after its kind byte (R188). The bus state code of a STATION-EVENT is sent for BUS-STATE
alone, with no presence byte before it, since R188 ties it to the source (the model's choice, log entry 5). -/
def reportBytes : Option Report → List Byte
  | none => [0#8]
  | some (.quote tag quote service route dispatch cs load total price flags) =>
    1#8 :: (n1 tag ++ n1 quote ++ n1 service.number ++ n1 route ++ bookedBytes dispatch ++ be24 cs ++ be16 load ++
      be24 total ++ be24 price ++ ratingFlagBytes flags)
  | some (.parcelEnd tag outcome reason quote dispatch tracking flags marks) =>
    2#8 :: (n1 tag ++ n1 outcome.number ++ optional (fun r => n1 (Reason.number r)) reason ++ optional n1 quote ++
      optional bookedBytes dispatch ++ optional trackingBytes tracking ++ ratingFlagBytes flags ++ markBytes marks)
  | some (.event source clock bus) =>
    3#8 :: (n1 source.number ++ clockBytes clock ++
      (match bus with | some b => n1 (BusState.code b) | none => []))

/-- One source's attention status: raw condition, mask bit, edge choice, latch (R189), the two settings in the sense of
SET-ATTENTION's bits: 1 for masked and 1 for EDGE. REPORT-PENDING, which R189 gives neither edge choice nor latch, is sent
with 0 for each (the model's choices, log entry 5). -/
def State.sourceBytes (s : State) (src : Source) : List Byte :=
  flag (s.condition src) ++ flag (s.link.masked src) ++ flag (s.link.isEdge src) ++ flag (s.link.latched src)

/-- The attention status of all sources (R189, R190), source by source in the order of Table 3. The nine statuses, fixed in
number, follow one another with no count byte before them (the model's choice, log entry 5). -/
def State.attentionBytes (s : State) : List Byte := Source.all.flatMap s.sourceBytes

/-- The rating result of a record (chapter 3, Table 2). The five flags have no presence byte: they are clear from ACCEPT
on (R56, R64), though Table 2 and R62 speak of them as formed by the rating (the model's choice, log entry 5). -/
def ratingBytes (r : Rating) : List Byte :=
  ratingFlagBytes r.flags ++ optional be24 r.vg ++ optional be24 r.cs ++ optional n1 r.band ++ optional be16 r.steps ++
    optional be24 r.base ++ optional be24 r.remote ++ optional be24 r.oversizeFee ++ optional be24 r.insurance ++
    optional be24 r.total ++ optional be24 r.price ++ optional be16 r.load

def dimsBytes : Dims → List Byte
  | .invalid => [1#8]
  | .mm h w l clamped => 0#8 :: (be16 h ++ be16 w ++ be16 l ++ flag clamped)

/-- An owed report: QUOTE 0 or PARCEL-END 1, and its place in the due order. -/
def owedBytes (rank : Nat) (o : Owed) : List Byte :=
  (match o.report with
   | .quote .. => [0#8]
   | .parcelEnd .. => [1#8]
   | .event .. => [2#8]) ++ n1 rank

/-- How many records owe an older report. -/
def ParcelQueue.owedRank (q : ParcelQueue) (due : Nat) : Nat :=
  (q.parcels.filter (fun p => match p.owed with | some o => decide (o.due < due) | none => false)).length

/-- The fields of a record (chapter 4, Table 1; R84), an absent one as its absence byte. Outcome and reason have one such
byte each, and the destination postcode is the five character bytes that ACCEPT carried (the model's choices, log entry
5). -/
def parcelBytes (q : ParcelQueue) (p : Parcel) : List Byte :=
  n1 p.tag ++ n1 p.state.number ++ p.postcode ++ n1 p.service.number ++ be24 p.declared ++ n1 p.zone ++ n1 p.route ++
    flag p.remote ++ optional (fun c => flag (!c)) p.cleared ++ optional (fun w => be24 w.1 ++ be24 w.2) p.weight ++
    optional dimsBytes p.dims ++ ratingBytes p.rating ++ optional n1 p.quote ++ optional (fun c => flag (!c)) p.standing ++
    optional bookedBytes p.dispatch ++ optional trackingBytes p.tracking ++
    optional (fun f => be16 f.1.toNat ++ be32 f.2.toNat) p.front ++ optional be24 p.length ++ optional markBytes p.marks ++
    optional (fun o => n1 (EndOutcome.number o)) p.outcome ++ optional (fun r => n1 (Reason.number r)) p.reason ++
    optional (fun o => owedBytes (q.owedRank o.due) o) p.owed

/-- An entry of a ring. Its dispatch is day and slot alone, without the byte by which R188 tells a dispatch from DEFERRED
in a report (the model's choice, log entry 5). -/
def entryBytes (e : Entry) : List Byte :=
  be16 e.day ++ n1 e.slot ++ be16 e.minute ++ be16 e.held ++ be16 e.booked ++ be16 e.reserved ++ be16 e.free

def bookingBytes (b : Booking) : List Byte :=
  n1 b.request.tag ++ n1 b.request.route ++ be16 b.request.load ++ optional (fun t => be16 t.1 ++ n1 t.2) b.trial ++
    n1 b.tries ++ flag b.asking

/-- The items of QUERY-DISPATCH (chapter 5, Table 2). The three entries of a ring are sent as a list, with their number
before them (the model's choice, log entry 5). -/
def State.dispatchBytes (s : State) (route : Nat) : List Byte :=
  let d := s.dispatch
  clockBytes d.clock ++ optional (fun r => listed entryBytes (Ring.entries r)) (d.ring route) ++
    be16 (((d.ring route).map Ring.deferred).getD 0) ++ optional bookingBytes d.current ++
    listed (fun r => n1 (Request.tag r)) d.line ++ be16 d.expired ++ be16 d.stranded

/-- A peer entry, with the milliseconds since its last frame in place of the timer (R140). -/
def peerBytes (now : Nat) (p : Peer) : List Byte :=
  n1 p.station ++ be16 p.edition ++ n1 p.status.number ++ clockBytes p.lastHeard ++ be16 (min (now - p.heardMs) 65535) ++
    n1 p.routeCount ++ n1 p.busCode ++ optional n1 p.lastGive ++ be16 p.given ++ be16 p.received

/-- The response of QUERY-PEERS (R140). -/
def State.peersBytes (s : State) : List Byte :=
  n1 s.loader.stationNo ++ be16 s.store.edition ++ n1 s.bus.state.code ++ listed (peerBytes s.timer.ms) s.peers.peers

/-- The latest round weight (chapter 1, Table 4). -/
def weightBytes : Weight → List Byte
  | .none => [0#8]
  | .invalid => [1#8, 1#8]
  | .value w => [1#8, 0#8] ++ be24 w

/-- The result of an entry: a load cell's code is signed (R186). -/
def resultBytes (c : Option Channel) (r : ScanResult) : List Byte :=
  (match c with
   | some c => if c.isCell then beSigned r.code else be16 r.code.toNat
   | none => be16 r.code.toNat) ++ flag r.fault

/-- The plate items of QUERY-STATION (chapter 1, Table 4). The eight entry results, fixed in number, follow one another
with no count byte before them (the model's choice, log entry 5). -/
def State.plateBytes (s : State) : List Byte :=
  let p := s.plate
  flag p.zero.isSome ++ beSigned (p.zero.getD 0) ++ n1 p.capRun ++ be16 p.tare ++ weightBytes p.latest ++ beSigned p.lo ++
    flag p.parity ++ n1 p.quiet ++ flag (p.settled s.loader) ++
    be24 (if p.settled s.loader then p.settledWeight s.loader else 0) ++ n1 p.clear ++
    (List.range 8).flatMap (fun e => optional (resultBytes (s.loader.scanned e)) (p.results.getD e none)) ++
    optional (fun b => flag (!b)) p.refPassed

/-- The image items (chapter 2, Table 5). -/
def State.imageBytes (s : State) : List Byte :=
  be16 s.store.edition ++ n1 s.store.routeCount ++ optional imgFaultBytes s.store.fault ++ n1 s.store.staging.number ++
    be16 s.store.staged.length ++ n1 s.loader.lockLevel

/-- The bus items (R125, R191). -/
def State.busBytes (s : State) : List Byte :=
  let b := s.bus
  n1 b.state.code ++ n1 b.quietHistory ++ n1 b.gives.length ++ n1 b.failedAttempts ++ n1 b.consecutive ++
    n1 b.quietEntries ++ n1 b.unheardPresence ++ n1 b.unknownSender

def askBytes (now : Nat) (a : OpenAsk) : List Byte :=
  n1 a.askNo ++ n1 a.route ++ be16 a.day ++ n1 a.slot ++ be16 a.wanted ++ be16 a.received ++ n1 a.phase.number ++
    (if a.phase = .window then 1#8 :: n1 (a.windowEnd - now) else [0#8])

def giveBytes (g : TxGive) : List Byte :=
  n1 g.target ++ n1 g.askNo ++ n1 g.giveNo ++ n1 g.route ++ be16 g.day ++ n1 g.slot ++ be16 g.units

/-- The share agent items (chapter 8, Table 3). -/
def State.shareBytes (s : State) : List Byte :=
  optional (askBytes s.timer.ms) s.share.openAsk ++ n1 s.share.nextAsk ++ n1 s.share.nextGive ++
    listed giveBytes s.bus.gives ++ n1 s.share.late

def edgeBytes (e : Edge) : List Byte := n1 (edgeNumber e.kind) ++ be16 e.pos.toNat ++ be32 e.time.toNat

def actionBytes (a : Action) : List Byte :=
  be16 a.pos.toNat ++ n1 a.kind.number ++ n1 a.tag ++
    (match a.kind with
     | .setChute c => 1#8 :: n1 c
     | .apply => [0#8]
     | .clearChute => [0#8])

/-- The outfeed items (chapter 9, Table 1). Where an open parcel or the gap memory has the mark UNMATCHED in place of a
tag, a byte 0 is sent, and 1 before a tag; the mark WAITING of the holding record is a byte after its edge, 1 for a BREAK
and 0 for a MAKE (the model's choices, log entry 5). -/
def State.outfeedBytes (s : State) : List Byte :=
  let o := s.outfeed
  be16 o.encoder.toNat ++ be32 o.capture.toNat ++ n1 (beamNumber o.beam) ++ listed edgeBytes o.edges ++
    optional (fun e => edgeBytes e ++ flag (e.kind == .brk)) o.holding ++
    optional (fun x => be16 (OpenParcel.pos x).toNat ++ be32 x.time.toNat ++ optional n1 x.tag) o.openParcel ++
    optional (fun g => be16 (Gap.pos g).toNat ++ optional n1 g.tag) o.gap ++ listed actionBytes o.actions ++
    listed (fun (x : Nat × Count) => n1 x.1 ++ be16 x.2.toNat) o.pendingClear ++ n1 o.chute ++ optional n1 o.owner ++
    n1 o.dropped ++ n1 o.orphans ++ be16 o.unmatched ++ n1 o.jams ++ flag o.overrun ++ flag o.jammed

/-- The label unit items (chapter 10, Table 6). UNRESOLVED is sent as the byte 0 alone, with neither serial nor day after
it, and 1 precedes a serial and its day; an empty slot is sent as the byte 0 alone, and 1 precedes a tag (the model's
choices, log entry 5). -/
def State.labelBytes (s : State) : List Byte :=
  let u := s.label
  optional (fun (x : Nat × Nat) => be24 x.1 ++ be16 x.2) u.serial ++ flag s.loader.cellWriting ++ flag u.cellFault ++
    listed (fun l => n1 (Label.tag l)) u.printOrder ++ n1 u.printer.number ++
    optional (fun l => n1 (Label.tag l)) u.atPrinter ++ optional (fun l => n1 (Label.tag l)) u.slot ++ flag u.eject ++
    be16 u.wasted

/-- The station's own items (R191). -/
def State.ownBytes (s : State) : List Byte :=
  n1 s.loader.stationNo ++ n1 s.loader.station.number ++ optional cfgFaultBytes s.loader.fault ++
    clockBytes s.dispatch.clock ++ n1 s.link.reports.length ++ n1 s.link.lost

/-- The response of QUERY-STATION (R191). -/
def State.stationBytes (s : State) : List Byte :=
  s.ownBytes ++ s.attentionBytes ++ s.plateBytes ++ s.imageBytes ++ summaryBytes s.summary ++ s.busBytes ++ s.shareBytes ++
    s.outfeedBytes ++ s.labelBytes

/-- A response message: kind, code, two-byte payload length, payload (R186). -/
def Response.bytes (r : Response) : List Byte :=
  [byteOf r.kind, byteOf r.code.number] ++ be16 r.payload.length ++ r.payload

end Sys2Proof.Machine
end

