-- ==== Sys2Proof/Machine/Frame.lean ====
section
/-! DEFINITION. The frames of the hall bus: fields, layout and CRC (R109, R110), and which byte strings are
well-formed frames (R112). -/

namespace Sys2Proof.Machine

/-- A frame's fields (R109, Table 1). -/
inductive Frame where
  | give (sender target askNo giveNo route day slot units : Nat)
  | ask (sender askNo route day slot units : Nat)
  | presence (sender edition join busCode routeCount : Nat)
deriving DecidableEq, Repr

/-- The kind number of the leading field: GIVE 0, ASK 1, PRESENCE 2 (R109). -/
def Frame.kind : Frame → Nat
  | .give .. => 0
  | .ask .. => 1
  | .presence .. => 2

/-- The sender's station number. -/
def Frame.sender : Frame → Nat
  | .give s _ _ _ _ _ _ _ => s
  | .ask s _ _ _ _ _ => s
  | .presence s _ _ _ _ => s

/-- The target: 0 for all stations (R109). -/
def Frame.target : Frame → Nat
  | .give _ t _ _ _ _ _ _ => t
  | _ => 0

/-- The leading field: the kind times 32 plus the sender number minus 1 (R109). The frame of the lower leading
field wins the arbitration (R113). -/
def Frame.leading (f : Frame) : Nat := f.kind * 32 + (f.sender - 1)

/-- The payload fields after the target, most significant byte first (R109, Table 1). -/
def Frame.payload : Frame → List Byte
  | .give _ _ a g r d sl u => [byteOf a, byteOf g, byteOf r] ++ be16 d ++ [byteOf sl] ++ be16 u
  | .ask _ a r d sl u => [byteOf a, byteOf r] ++ be16 d ++ [byteOf sl] ++ be16 u
  | .presence _ e j b rc => be16 e ++ [byteOf 1, byteOf j, byteOf b, byteOf rc]

/-- The bytes the CRC covers: leading field, target, payload (R110). -/
def Frame.body (f : Frame) : List Byte := [byteOf f.leading, byteOf f.target] ++ f.payload

/-- The bytes of a frame before its acknowledgement slot (R109, R110). -/
def Frame.bytes (f : Frame) : List Byte := f.body ++ be16 (crc16 f.body)

/-- Every field lies within the range that R109, Table 1 gives it (R112). -/
def Frame.wf : Frame → Bool
  | .give s t a g r d sl u =>
    decide (1 ≤ s ∧ s ≤ 32 ∧ 1 ≤ t ∧ t ≤ 32 ∧ a ≤ 255 ∧ g ≤ 255 ∧ r ≤ 15 ∧ 1 ≤ d ∧ d ≤ 366 ∧ 1 ≤ sl ∧ sl ≤ 4 ∧
      1 ≤ u ∧ u ≤ 4095)
  | .ask s a r d sl u =>
    decide (1 ≤ s ∧ s ≤ 32 ∧ a ≤ 255 ∧ r ≤ 15 ∧ 1 ≤ d ∧ d ≤ 366 ∧ 1 ≤ sl ∧ sl ≤ 4 ∧ 1 ≤ u ∧ u ≤ 4095)
  | .presence s e j b rc => decide (1 ≤ s ∧ s ≤ 32 ∧ e ≤ 65535 ∧ j ≤ 1 ∧ b ≤ 7 ∧ rc ≤ 16)

/-- The fields of bytes of a frame's length and kind, whatever their ranges. -/
def Frame.fields (bs : List Byte) : Option Frame :=
  let lead := byteAt bs 0
  let sender := lead % 32 + 1
  if lead / 32 = 0 ∧ bs.length = 12 then
    some (.give sender (byteAt bs 1) (byteAt bs 2) (byteAt bs 3) (byteAt bs 4) (u16At bs 5) (byteAt bs 7) (u16At bs 8))
  else if lead / 32 = 1 ∧ bs.length = 11 ∧ byteAt bs 1 = 0 then
    some (.ask sender (byteAt bs 2) (byteAt bs 3) (u16At bs 4) (byteAt bs 6) (u16At bs 7))
  else if lead / 32 = 2 ∧ bs.length = 10 ∧ byteAt bs 1 = 0 ∧ byteAt bs 4 = 1 then
    some (.presence sender (u16At bs 2) (byteAt bs 5) (byteAt bs 6) (byteAt bs 7))
  else none

/-- The CRC of the observed bytes is good: the last two bytes hold the CRC of those before them (R110). -/
def crcGood (bs : List Byte) : Bool :=
  decide (crc16 (bs.take (bs.length - 2)) = u16At bs (bs.length - 2))

/-- The frame that observed bytes are, when they are a well-formed frame (R112). -/
def Frame.parse (bs : List Byte) : Option Frame :=
  match Frame.fields bs with
  | some f => if f.wf && crcGood bs then some f else none
  | none => none

end Sys2Proof.Machine
end

