-- ==== Sys2Proof/Machine/Hall.lean ====
section
/-! DEFINITION. The bus states and their timers (R111, R122 to R124, R127 to R133), the attempts and endings of frames
(R113 to R121), and the receiving of frames by the peer table (R112, R115, R135 to R141). -/

namespace Sys2Proof.Machine

/-! ### Changes of bus state -/

/-- Leaving a bus state stops its timers and its wait (R118, R124, R128, R131, R132). -/
def BusController.leave (b : BusController) : BusController :=
  { b with
    listenDue := none, gatherDue := none, presenceDue := none, activeDue := none, quietDue := none, waitFrom := none }

/-- What entering a bus state starts: its timers, and the PRESENCE it queues (R122, R124, R128, R130 to R132). -/
def BusController.enter (b : BusController) (l : Loader) (now : Nat) (st : BusState) : BusController :=
  let b := { b.leave with state := st }
  match st with
  | .listen => { b with listenDue := some (now + l.presenceInterval) }
  | .announce => b.queuePresence true
  | .gather => { b with gatherDue := some (now + l.gatherWindow) }
  | .active =>
    { b.queuePresence false with
      presenceDue := some (now + l.presenceInterval), activeDue := some (now + Config.activeMs) }
  | .quiet => { b with quietDue := some (now + Config.quietMs) }
  | .off => b
  | .hold => b
  | .failed => b

/-- The bus state becomes another, without the BUS-STATE condition. -/
def State.enterBus (s : State) (st : BusState) : State := s.putBus (s.bus.enter s.loader s.timer.ms st)

/-- A change of bus state, which raises BUS-STATE (R111). -/
def State.changeBus (s : State) (st : BusState) : State := (s.enterBus st).raiseBus

/-- Entry to FAILED: the queue is emptied, the ask ends, and BUS-STATE is raised (R124, R157). `was` is the state at the
event's start (R83). -/
def State.enterFailed (s was : State) : State := ((s.enterBus .failed).emptyQueue.endAskSince was).raiseBus

/-- The QUIET trigger (R122, R156). `was` is the state at the event's start (R83). -/
def State.quietTrigger (s was : State) : State :=
  let b := { s.bus with quietEntries := satAdd 255 s.bus.quietEntries 1, consecutive := 0 }
  if b.quietHistory < 2 then
    (((s.setBus { b with quietHistory := b.quietHistory + 1 }).changeBus .quiet).emptyQueue).endAskSince was
  else (s.setBus b).enterFailed was

/-! ### Attempts and endings -/

/-- The first attempt of a frame begins: it is begun and a PRESENCE's payload is fixed (R119, R120). -/
def BusController.begin (b : BusController) (edition routeCount : Nat) (k : TxKind) : BusController :=
  { b with
    gives := if k = .give then
        (match b.gives with | g :: rest => { g with begun := true } :: rest | [] => [])
      else b.gives,
    ask := if k = .ask then b.ask.map (fun a => { a with begun := true }) else b.ask,
    presence := if k = .presence then
        b.presence.map (fun p => { p with fixed := some (p.fixed.getD
          { edition := edition, routeCount := routeCount,
            busCode := match b.state with
              | .off => 0 | .listen => 1 | .hold => 2 | .announce => 3 | .gather => 4 | .active => 5 | .quiet => 6
              | .failed => 7 }) })
      else b.presence,
    sending := some k, waitFrom := none }

/-- A contention point ends an idle gap: the frame chosen, if there is one, begins an attempt, and any station but one in
OFF receives from here on (R108, R112, R119, R126). -/
def State.contention (s : State) : State :=
  match s.bus.state, s.bus.sending with
  | .off, _ => s
  | _, some _ => s
  | _, none =>
    let b := { s.bus with observing := true }
    s.setBus (match b.chosen with
      | some k => b.begin s.store.edition s.store.routeCount k
      | none => b)

/-- The frame that a kind of queued frame is on the pair (R109, R120, R144, R148). -/
def State.frameOf (s : State) : TxKind → Option Frame
  | .give => s.bus.gives.head?.map (fun g =>
      .give s.loader.stationNo g.target g.askNo g.giveNo g.route g.day g.slot g.units)
  | .ask => s.bus.ask.map (fun a => .ask s.loader.stationNo a.askNo a.route a.day a.slot a.units)
  | .presence =>
    match s.bus.presence with
    | some p => p.fixed.map (fun f =>
        .presence s.loader.stationNo f.edition (if p.join then 1 else 0) f.busCode f.routeCount)
    | none => none

/-- The ending of the frame offered, which has left the queue, is handed back to the block that queued it (R121, R130,
R144, R149). `was` is the controller as it stood before the frame left. -/
def State.handBack (s : State) (was : BusController) (k : TxKind) (e : Ending) : State :=
  match k with
  | .give =>
    match was.gives with
    | g :: _ => s.giveEnding g e
    | [] => s
  | .ask => s.askEnding e
  | .presence =>
    match was.presence with
    | some p =>
      if p.join && s.bus.state == .announce then
        (match e with
         | .acknowledged => s.changeBus .gather
         | .unheard => s.changeBus .gather
         | .abandoned => s.putBus (s.bus.queuePresence true)
         | .dropped => s
         | .withdrawn => s)
      else s
    | none => s

/-- The frame offered leaves the queue with an ending (R121), and the QUOTEs of the quotes that its handing back places
become due (R83). -/
def State.endFrame (s : State) (k : TxKind) (e : Ending) : State :=
  ((s.putBus (s.bus.offeredLeaves k)).handBack s.bus k e).quotesDue s

/-- The failed attempts counted so far for a kind's frame (R117). -/
def BusController.fails (b : BusController) : TxKind → Nat
  | .give => match b.gives with | g :: _ => g.fails | [] => 0
  | .ask => match b.ask with | some a => a.fails | none => 0
  | .presence => match b.presence with | some p => p.fails | none => 0

/-- One more failed attempt is counted for a frame and for the station; the attempt and the wait end (R117). -/
def BusController.countFail (b : BusController) (k : TxKind) : BusController :=
  { b with
    gives := if k = .give then
        (match b.gives with | g :: rest => { g with fails := g.fails + 1 } :: rest | [] => [])
      else b.gives,
    ask := if k = .ask then b.ask.map (fun a => { a with fails := a.fails + 1 }) else b.ask,
    presence := if k = .presence then b.presence.map (fun p => { p with fails := p.fails + 1 }) else b.presence,
    failedAttempts := satAdd 255 b.failedAttempts 1, sending := none, waitFrom := none }

/-- A frame is abandoned: its ending is handed back, and the QUIET trigger follows at the fourth in a row (R117,
R122, R130). The quotes that the handing back places become due before the trigger, but where an ask is open after it
(R146) the trigger places quotes too, and all of the event become due together, in queue order (R83; where BUS-STATE stands
among them is the model's choice, log entry 19). -/
def State.abandon (s : State) (k : TxKind) : State :=
  let s1 := s.setBus { s.bus with consecutive := s.bus.consecutive + 1 }
  if s1.bus.consecutive < Config.abandonLimit then s1.endFrame k .abandoned
  else
    let s2 := (s1.putBus (s1.bus.offeredLeaves k)).handBack
      { s1.bus with presence := if k = .presence then none else s1.bus.presence } k .abandoned
    (if s2.share.openAsk.isSome then s2 else s2.quotesDue s).quietTrigger s

/-- A failed attempt of a kind's frame (R117). -/
def State.failAttempt (s : State) (k : TxKind) : State :=
  let s1 := s.putBus (s.bus.countFail k)
  if s1.bus.fails k < Config.attemptLimit then s1 else s1.abandon k

/-- A frame completes, acknowledged or unheard (R116, R117). -/
def State.complete (s : State) (k : TxKind) (e : Ending) : State :=
  let b := { s.bus with
    consecutive := 0,
    unheardPresence := if k = .presence ∧ e = .unheard then satAdd 255 s.bus.unheardPresence 1
      else s.bus.unheardPresence }
  (s.setBus b).endFrame k e

/-- The sender observes its acknowledgement slot (R116). -/
def State.slotSeen (s : State) (k : TxKind) (dominant : Bool) : State :=
  if dominant then s.complete k .acknowledged
  else
    match k with
    | .give => s.failAttempt .give
    | .ask => s.complete .ask .unheard
    | .presence => s.complete .presence .unheard

/-! ### Receiving frames -/

/-- The station drives the acknowledgement slot of a well-formed frame (R115). -/
def drivesSlot (st : BusState) (own : Nat) (f : Frame) : Bool :=
  match f with
  | .give _ target _ _ _ _ _ _ => st == .active && target == own
  | .ask .. => st == .gather || st == .active
  | .presence .. => st == .gather || st == .active

/-- A frame with this station's own number: DUPLICATE, and FAILED (R141). -/
def State.duplicate (s : State) : State :=
  let s' := s.raiseDuplicate
  if s'.bus.state = .failed then s' else s'.enterFailed s'

/-- The station observes frames: it is not in OFF, it sends none, and it has observed an idle gap to its end since its
start or its last bit error (R108, R112, R126). -/
def BusController.hears (b : BusController) : Bool := b.state != .off && b.sending.isNone && b.observing

/-- A well-formed frame that the station observes is received (R112). `use` is what its kind does when its sender is
another station. -/
def State.receive (s : State) (f : Frame) (use : State → State) : State :=
  if s.powered && s.bus.hears && f.wf then
    let s1 := s.setBus { s.bus with slotDriven := drivesSlot s.bus.state s.loader.stationNo f }
    if f.sender = s.loader.stationNo then s1.duplicate else use s1
  else s

/-- A peer entry kept in ascending order of station number (R134). -/
def insertPeer (p : Peer) : List Peer → List Peer
  | [] => [p]
  | q :: rest => if p.station < q.station then p :: q :: rest else q :: insertPeer p rest

/-- A peer entry as a PRESENCE creates it (R135). -/
def newPeer (own now : Nat) (clock : Option ClockTime) (sender edition busCode routeCount : Nat) : Peer :=
  { station := sender, edition := edition, status := statusFor own edition, lastHeard := clock, heardMs := now,
    timing := true, routeCount := routeCount, busCode := busCode, lastGive := none, given := 0, received := 0 }

/-- A peer entry as a PRESENCE updates it (R135). -/
def Peer.refreshed (p : Peer) (own now : Nat) (clock : Option ClockTime) (edition busCode routeCount : Nat)
    (join : Bool) : Peer :=
  { p with
    edition := edition, status := statusFor own edition, lastHeard := clock, heardMs := now, timing := true,
    routeCount := routeCount, busCode := busCode, lastGive := if join then none else p.lastGive }

/-- The peer table takes a PRESENCE (R135, R139). -/
def State.takePresence (s : State) (sender edition busCode routeCount : Nat) (join : Bool) : State :=
  match s.peers.find sender with
  | none =>
    (s.setPeers { s.peers with
      peers := insertPeer (newPeer s.store.edition s.timer.ms s.dispatch.clock sender edition busCode routeCount)
        s.peers.peers }).raisePeer
  | some p =>
    let s' := s.setPeers (s.peers.update sender (fun p =>
      p.refreshed s.store.edition s.timer.ms s.dispatch.clock edition busCode routeCount join))
    if p.status = statusFor s.store.edition edition then s' else s'.raisePeer

/-- An ACTIVE station answers a join PRESENCE with one of its own (R133). -/
def State.answerJoin (s : State) (join : Bool) : State :=
  if join && s.bus.state == .active then s.putBus (s.bus.queuePresence false) else s

/-- An ASK or GIVE refreshes its sender's entry (R136). -/
def State.refreshPeer (s : State) (sender : Nat) : State :=
  s.setPeers (s.peers.update sender (fun p =>
    { p with lastHeard := s.dispatch.clock, heardMs := s.timer.ms, timing := true }))

/-- The peer table takes an ASK or GIVE: an unknown sender is counted, a known one refreshed and its frame used (R136,
R137). -/
def State.fromPeer (s : State) (sender : Nat) (use : Peer → State → State) : State :=
  match s.peers.find sender with
  | none => s.setBus { s.bus with unknownSender := satAdd 255 s.bus.unknownSender 1 }
  | some p => use p (s.refreshPeer sender)

/-- A peer entry's silence timer has expired (R136). -/
def Peer.silentNow (p : Peer) (interval now : Nat) : Bool := p.timing && decide (p.heardMs + 3 * interval ≤ now)

/-- The silence timer of an entry expires (R136). -/
def State.silence (s : State) (p : Peer) : State :=
  let s' := s.setPeers (s.peers.update p.station (fun p => { p with status := .silent, timing := false }))
  if p.status = .silent then s' else s'.raisePeer

end Sys2Proof.Machine
end

