-- ==== Sys2Proof/Machine/Start.lean ====
section
/-! DEFINITION. Power-on, restart and power loss (R18, R26, R36, R59, R85, R107, R126, R158, R174, R185, R192 to R195):
what each block takes at a start, and the writes that a start or a loss cuts short. -/

namespace Sys2Proof.Machine

/-! ### Writes cut short -/

/-- The write to the image memory, if one is in progress, ceases and leaves a mixture (R32, R36). -/
def State.ceaseStore (s : State) : State :=
  match s.store.staging with
  | .storing => (s.setStore { s.store with mem := s.store.mem.writeMixed s.freeNo 0 s.store.staged }).setFreeNo (s.freeNo + 1)
  | .idle => s
  | .staging => s

/-- The place and the bytes of a write to the configuration memory. -/
def MemWrite.target (copy : CellCopy) : MemWrite → Nat × List Byte
  | .cell day blockEnd _ => (copy.base, cellBytes day blockEnd)
  | .record bs => (0, bs)

/-- The write to the configuration memory, if one is in progress, ceases and leaves a mixture; the others are
discarded (R178, R185, R193). -/
def State.ceaseConfig (s : State) : State :=
  match s.loader.writes with
  | [] => s
  | w :: _ =>
    let t := w.target s.label.nextCopy
    (s.setLoader { s.loader with mem := s.loader.mem.writeMixed s.freeNo t.1 t.2, writes := [] }).setFreeNo (s.freeNo + 1)

/-- Every write in progress ceases where it stands. -/
def State.ceaseWrites (s : State) : State := s.ceaseStore.ceaseConfig

/-! ### The configuration record (R192) -/

/-- The record is read, as far as the memory answers, and tested (R192, R193). -/
def Loader.read (l : Loader) (answered : Nat) : Loader :=
  let bs := l.mem.readBytes 0 (min answered Config.recordLen)
  { l with
    active := bs, next := some bs, fault := recordFault bs, startNo := l.startNo + 1,
    station := if (recordFault bs).isNone then .running else .configFault, writes := [] }

/-- The attention settings of a start (R190). -/
def Link.startSettings (k : Link) (l : Loader) : Link :=
  match l.station with
  | .running => { k with mask := l.defaultMask, edge := l.defaultEdge, latch := 0 }
  | .configFault => { k with mask := 0, edge := 0, latch := 0 }

/-! ### What each block takes at a restart -/

/-- The plate after a restart: the zero and the tare are kept (R18, Table 5). -/
def Plate.restarted (p : Plate) (l : Loader) : Plate :=
  { Plate.powerOn with zero := p.zero, tare := p.tare, lo := -(l.halfWidth : Int) }

/-- The image store after a restart: the staging area is discarded (R36). -/
def ImageStore.restarted (t : ImageStore) : ImageStore := { t with staging := .idle, staged := [], fault := none }

/-- The outfeed after a restart (R174, Table 2). -/
def Outfeed.restarted (o : Outfeed) : Outfeed :=
  { o with
    edges := [], holding := none, openParcel := none, gap := none, actions := [], pendingClear := [], chute := 0,
    owner := none, overrun := false, jammed := false }

/-- The label unit after a restart (R185, Table 7). -/
def LabelUnit.restarted (u : LabelUnit) : LabelUnit :=
  { u with
    printOrder := [], printer := .idle, atPrinter := none, printDue := none, slot := none, eject := true,
    wasted := match u.slot with
      | some _ => satAdd 65535 u.wasted 1
      | none => u.wasted }

/-- The link after a restart: no held command, no report, no latch, REPORT-LOST false (R188, R195). -/
def Link.restarted (k : Link) (l : Loader) : Link :=
  { k with reports := [], reportLost := false, held := none, metVoid := none }.startSettings l

/-- The bus controller after a restart, its state not yet changed (R126): it has a full idle gap to observe (R108). -/
def BusController.restarted (b : BusController) : BusController :=
  { b.leave with quietHistory := 0, changed := false, slotDriven := false, observing := false }

/-- Every record's booking is released, in queue order (R85, R107). -/
def releaseAll (d : DispatchTable) (ps : List Parcel) : DispatchTable := ps.foldl DispatchTable.release d

/-- The cell write that a restart begins when the serial is resolved (R185). -/
def State.restartCell (s : State) : State :=
  match s.label.serial with
  | some (serial, day) => s.setLoader (s.loader.askCell day (min (serial / 100 * 100 + 100) Config.serialMax) false)
  | none => s

/-- The plate scanner starts if the station is RUNNING (R3, R194, R195). -/
def State.startScanner (s : State) : State :=
  match s.loader.station with
  | .running => s.setPlate (s.plate.startScan s.loader s.nowUs)
  | .configFault => s

/-- The bus state of a start (R126, R127). -/
def Loader.startBus (l : Loader) : BusState :=
  match l.station with
  | .running => if l.busEnabled then .listen else .off
  | .configFault => .off

/-- The bus takes its state at a start; a change raises BUS-STATE (R126, R194). -/
def State.startBus (s : State) : State :=
  if s.bus.state = s.loader.startBus then s.enterBus s.loader.startBus else s.changeBus s.loader.startBus

/-- The blocks that a restart empties (R85, R107, R126, R142, R158). -/
def State.emptied (s : State) : State :=
  let s1 := s.setDispatch (releaseAll { s.dispatch with line := [], current := none } s.queue.parcels)
  let s2 := (s1.setQueue { s1.queue with parcels := [] }).emptyQueue
  (s2.setShare { s2.share with openAsk := none }).setPeers { peers := [], changed := false, duplicate := false }

/-- The blocks take their restart values (R18, R36, R59, R126, R174, R185, R195). -/
def State.restartValues (s : State) : State :=
  (((((s.setPlate (s.plate.restarted s.loader)).setSummary Summary.clear).setStore s.store.restarted).setOutfeed
    s.outfeed.restarted).setLabel s.label.restarted).setBus s.bus.restarted

/-- A restart (R195). -/
def State.restart (s : State) (answered : Nat) : State :=
  let s1 := s.ceaseWrites
  let s2 := ((s1.setLoader (s1.loader.read answered)).emptied).restartValues
  let s3 := (s2.setLink (s2.link.restarted s2.loader)).printerSettle
  (s3.startScanner.startBus).restartCell

/-! ### Power-on (R194) -/

/-- Every block at its power-on value, the two board memories as they stand (R194). -/
def State.poweredUp (s : State) (beam : Beam) (faultLine : Bool) : State :=
  { State.reset with
    pending := s.pending, powered := true, freeNo := s.freeNo,
    loader := { State.reset.loader with mem := s.loader.mem, startNo := s.loader.startNo },
    store := { State.reset.store with mem := s.store.mem },
    outfeed := { Outfeed.powerOn with beam := beam },
    label := { LabelUnit.powerOn with faultLine := faultLine } }

/-- A reservation cell copy as the memory answers it (R179). -/
def Loader.readCell (l : Loader) (answers : Bool) (c : CellCopy) : Option Cell :=
  if answers then cellOf (l.mem.readBytes c.base 7) else none

/-- Step 1: the record, the two cell copies, and the attention settings (R194). -/
def State.loadConfig (s : State) (answered : Nat) (cellA cellB : Bool) : State :=
  let l := s.loader.read answered
  (((s.setLoader l).setLabel
    { s.label with cellA := l.readCell cellA .a, cellB := l.readCell cellB .b }).setLink
    (s.link.startSettings l)).setPlate { s.plate with lo := -(l.halfWidth : Int) }

/-- Step 2: the image is read and validated (R26). -/
def ImageStore.load (t : ImageStore) (imageRead : Bool) : ImageStore :=
  if imageRead then
    let g := t.mem.readBytes 0 Config.imageLen
    match imageFault g with
    | none => { t with image := some g, fault := none }
    | some f => { t with image := none, fault := some f }
  else { t with image := none, fault := some ⟨.store, none⟩ }

/-- The power-on sequence (R194). -/
def State.powerOn (s : State) (answered : Nat) (cellA cellB imageRead : Bool) (beam : Beam) (faultLine : Bool) : State :=
  let s1 := (s.poweredUp beam faultLine).loadConfig answered cellA cellB
  let s2 := (s1.setStore (s1.store.load imageRead)).printerSettle
  s2.startScanner.startBus

/-! ### Power loss (R179) -/

/-- Power is lost: writes in progress are cut short and the part stops where it stands (R32, R178, R193). -/
def State.powerLost (s : State) : State := s.ceaseWrites.setPowered false

end Sys2Proof.Machine
end

