-- ==== Sys2Proof/Machine/Starts.lean ====
section
/-! DEFINITION. The meanings of the commands and events that start and stop the part. -/

namespace Sys2Proof.Machine

/-- What a command or an event answers. -/
abbrev Result := Host.Outcome State Fault Refusal

/-- POWER_ON (R194): taken by a part without power. -/
def execPowerOn (answered : Nat) (cellA cellB imageRead : Bool) (beam : Beam) (faultLine : Bool) (s : State) : Result :=
  .next (if s.powered then s else s.powerOn answered cellA cellB imageRead beam faultLine)

/-- RESTART_INPUT (R195): any held command gets no response. -/
def execRestartInput (answered : Nat) (s : State) : Result := .next (s.event (fun s => s.restart answered))

/-- RESTART (R195): answered OK in full before the restart begins. -/
def execRestart (answered : Nat) (s : State) : Result :=
  .next (s.commandAlways (fun s => (s.respond 23 .ok []).restart answered))

/-- POWER_LOSS (R179). -/
def execPowerLoss (s : State) : Result := .next (s.event State.powerLost)

end Sys2Proof.Machine
end

