-- ==== Sys2Proof/Machine/Queries.lean ====
section
/-! DEFINITION. The meanings of the station commands: malformed commands, queries, clock, tare, zero, flags, attention,
join release and printer retry. -/

namespace Sys2Proof.Machine

/-- The fixed payload length of a command kind; 256 for a kind that takes any length, absent for an unknown kind (R186,
Table 1). -/
def payloadLength (kind : Nat) : Option Nat :=
  match kind with
  | 1 => some 9 | 2 => some 2 | 3 => some 1 | 4 => some 0 | 5 => some 1 | 6 => some 0 | 7 => some 1 | 8 => some 0
  | 9 => some 6 | 10 => some 2 | 11 => some 0 | 12 => some 0 | 13 => some 3 | 14 => some 256 | 15 => some 0
  | 16 => some 256 | 17 => some 0 | 18 => some 3 | 19 => some 0 | 20 => some 0 | 21 => some 81 | 22 => some 1
  | 23 => some 0
  | _ => none

/-- A message is malformed: its kind is unknown, or its length is not that kind's fixed one (R186). -/
def malformed (kind length : Nat) : Bool :=
  match payloadLength kind with
  | none => true
  | some n => n != 256 && n != length

/-- BAD_COMMAND (R186): answered in every station state. -/
def execBadCommand (kind : Byte) (payload : List Byte) (s : State) : Result :=
  .next (s.commandAlways (fun s =>
    if malformed kind.toNat payload.length then s.respond kind.toNat .badCommand [] else s))

/-! ### Queries -/

/-- The station's state is returned, and BUS-STATE and JAM become false (R191). -/
def State.queryStation (s : State) : State :=
  ((s.respond 6 .ok s.stationBytes).setBus { s.bus with changed := false }).setOutfeed { s.outfeed with jammed := false }

/-- QUERY_STATION (R191). -/
def execQueryStation (s : State) : Result := .next (s.commandAlways State.queryStation)

/-- QUERY_DISPATCH (R106). -/
def execQueryDispatch (route : Byte) (s : State) : Result :=
  .next (s.command 7 (fun s =>
    if 15 < route.toNat then s.respond 7 .range [] else s.respond 7 .ok (s.dispatchBytes route.toNat)))

/-- The peer table is returned, and PEER-CHANGE becomes false (R140). -/
def State.queryPeers (s : State) : State :=
  (s.respond 8 .ok s.peersBytes).setPeers { s.peers with changed := false }

/-- QUERY_PEERS (R140). -/
def execQueryPeers (s : State) : Result := .next (s.command 8 State.queryPeers)

/-! ### Clock, tare, zero, flags -/

/-- SET-CLOCK tested and taken or refused (R88). -/
def State.setClock (s : State) (day ms : Nat) : State :=
  if within 1 Config.yearDays day && decide (ms < Config.dayMs) then
    let r := s.setClockTo ⟨day, ms⟩
    r.1.respond 9 (if r.2 then .ok else .range) []
  else s.respond 9 .range []

/-- SET_CLOCK (R88, R89). -/
def execSetClock (day : BitVec 16) (ms : BitVec 32) (s : State) : Result :=
  .next (s.command 9 (fun s => s.setClock day.toNat ms.toNat))

/-- SET-TARE tested and taken or refused (R8). -/
def State.setTare (s : State) (tare : Nat) : State :=
  if s.queue.plateBusy then s.respond 10 .busy []
  else (s.setPlate { s.plate with tare := min tare Config.tareMax }).respond 10 .ok (be16 (min tare Config.tareMax))

/-- SET_TARE (R8). -/
def execSetTare (tare : BitVec 16) (s : State) : Result := .next (s.command 10 (fun s => s.setTare tare.toNat))

/-- ZERO tested and taken or refused (R7). -/
def State.zeroPlate (s : State) : State :=
  if s.queue.plateBusy then s.respond 11 .busy [] else (s.setPlate (s.plate.rezero s.loader)).respond 11 .ok []

/-- ZERO (R7). -/
def execZero (s : State) : Result := .next (s.command 11 State.zeroPlate)

/-- CLEAR_FLAGS (R58). -/
def execClearFlags (s : State) : Result :=
  .next (s.command 12 (fun s => (s.respond 12 .ok (summaryBytes s.summary)).setSummary Summary.clear))

/-! ### Attention (R190) -/

/-- The attention settings are replaced, and the status after the change is returned (R190). -/
def State.setAttention (s : State) (mask : BitVec 16) (edge : BitVec 8) : State :=
  let s1 := s.setLink (s.link.setAttention (mask.setWidth 9) edge)
  s1.respond 13 .ok s1.attentionBytes

/-- SET_ATTENTION (R190). -/
def execSetAttention (mask : BitVec 16) (edge : Byte) (s : State) : Result :=
  .next (s.command 13 (fun s => s.setAttention mask edge))

/-- Every latch is cleared, EDGE-OVERRUN and REPORT-LOST become false, and the status is returned (R190). The status is
that after the change, so it shows the two conditions false (the model's choice, log entry 5). -/
def State.ackAttention (s : State) : State :=
  let s1 := (s.setLink { s.link with latch := 0, reportLost := false }).setOutfeed { s.outfeed with overrun := false }
  s1.respond 14 .ok s1.attentionBytes

/-- ACK_ATTENTION (R190): its payload is ignored. -/
def execAckAttention (_payload : List Byte) (s : State) : Result := .next (s.command 14 State.ackAttention)

/-! ### Join release and printer retry -/

/-- RELEASE_JOIN (R129). -/
def execReleaseJoin (s : State) : Result :=
  .next (s.command 19 (fun s =>
    if s.bus.state = .hold then (s.changeBus .announce).respond 19 .ok [] else s.respond 19 .notReady []))

/-- In FAULT the printer becomes IDLE, and FAULT again while the fault line is asserted (R182). -/
def State.retryPrinter (s : State) : State :=
  if s.label.printer = .fault ∧ s.label.faultLine = false then
    (s.setLabel { s.label with printer := .idle }).printerSettle
  else s

/-- PRINTER_RETRY (R182). -/
def execPrinterRetry (s : State) : Result :=
  .next (s.command 20 (fun s => s.retryPrinter.respond 20 .ok (n1 s.retryPrinter.label.printer.number)))

end Sys2Proof.Machine
end

