-- ==== Sys2Proof/Decode.lean ====
section
/-! DEFINITION. From bits to commands. The table gives no row any bits, so no table word spells a command. The messages of
the terminal link (R186, Table 1) are decoded and encoded here. -/

namespace Sys2Proof

/-- The command a table word spells: spec/opcode_table.json gives no row any bits, so none. -/
def decodeTableWord (_nbits _w : Nat) : Option Instr := none

namespace Machine

/-- The command of a kind with a payload of that kind's length (R186, Table 1). A RESTART carries nothing: how far the
configuration memory answers the restart's read is the world's part of the event, given here as `answered`. -/
def commandOf (answered kind : Nat) (p : List Byte) : Instr :=
  match kind with
  | 1 => .accept (p.take 5) (p.getD 5 0) (BitVec.ofNat 24 (u24At p 6))
  | 2 => .confirm (p.getD 0 0) (p.getD 1 0)
  | 3 => .void (p.getD 0 0)
  | 4 => .fetch
  | 5 => .queryParcel (p.getD 0 0)
  | 6 => .queryStation
  | 7 => .queryDispatch (p.getD 0 0)
  | 8 => .queryPeers
  | 9 => .setClock (BitVec.ofNat 16 (u16At p 0)) (BitVec.ofNat 32 (u32At p 2))
  | 10 => .setTare (BitVec.ofNat 16 (u16At p 0))
  | 11 => .zero
  | 12 => .clearFlags
  | 13 => .setAttention (BitVec.ofNat 16 (u16At p 0)) (p.getD 2 0)
  | 14 => .ackAttention p
  | 15 => .loadBegin
  | 16 => .loadChunk p
  | 17 => .loadEnd
  | 18 => .readTariff (BitVec.ofNat 16 (u16At p 0)) (p.getD 2 0)
  | 19 => .releaseJoin
  | 20 => .printerRetry
  | 21 => .setNextConfig p
  | 22 => .readConfig (p.getD 0 0)
  | 23 => .restart answered
  | _ => .badCommand (byteOf kind) p

/-- The command that a whole message spells: a kind byte, a length byte and that many payload bytes. A malformed one is
BAD_COMMAND; a message cut short is none (R186). -/
def decodeMessage (answered : Nat) (bytes : List Byte) : Option Instr :=
  match bytes with
  | kind :: n :: payload =>
    if payload.length = n.toNat then
      some (if malformed kind.toNat payload.length then .badCommand kind payload
        else commandOf answered kind.toNat payload)
    else none
  | _ => none

/-- The message of a kind with a payload. -/
def message (kind : Nat) (payload : List Byte) : List Byte := byteOf kind :: byteOf payload.length :: payload

/-- The message that spells a command of the terminal; absent for an event (R186, Table 1). -/
def encodeMessage : Instr → Option (List Byte)
  | .accept postcode service declared => some (message 1 (postcode ++ [service] ++ be24 declared.toNat))
  | .confirm tag quote => some (message 2 [tag, quote])
  | .void tag => some (message 3 [tag])
  | .fetch => some (message 4 [])
  | .queryParcel tag => some (message 5 [tag])
  | .queryStation => some (message 6 [])
  | .queryDispatch route => some (message 7 [route])
  | .queryPeers => some (message 8 [])
  | .setClock day ms => some (message 9 (be16 day.toNat ++ be32 ms.toNat))
  | .setTare tare => some (message 10 (be16 tare.toNat))
  | .zero => some (message 11 [])
  | .clearFlags => some (message 12 [])
  | .setAttention mask edge => some (message 13 (be16 mask.toNat ++ [edge]))
  | .ackAttention payload => some (message 14 payload)
  | .loadBegin => some (message 15 [])
  | .loadChunk bytes => some (message 16 bytes)
  | .loadEnd => some (message 17 [])
  | .readTariff offset count => some (message 18 (be16 offset.toNat ++ [count]))
  | .releaseJoin => some (message 19 [])
  | .printerRetry => some (message 20 [])
  | .setNextConfig record => some (message 21 record)
  | .readConfig copy => some (message 22 [copy])
  | .restart _ => some (message 23 [])
  | .badCommand kind payload => some (kind :: byteOf payload.length :: payload)
  | .powerOn .. | .restartInput _ | .imageStoreComplete _ | .configWriteComplete _ | .scanStep _ | .plateTimeout
  | .cutOff _ | .dayChange | .cellWriteComplete _ | .contentionPoint | .lostArbitration | .bitError | .ackSlot _
  | .busyLimit | .quietExpiry | .activeTimerExpiry | .listenTimerExpiry | .gatherTimerExpiry | .presenceTimerExpiry
  | .silenceTimerExpiry _ | .frameNotWellFormed _ | .presenceReceived .. | .askReceived .. | .giveReceived ..
  | .askWindowExpiry | .edgeCapture _ | .takeBreak | .takeMake | .encoderPulse | .jam _ | .printerDone
  | .printerFault _ | .printTimeout | .powerLoss => none

end Machine
end Sys2Proof
end

