-- ==== Sys2Proof/Machine/Belt.lean ====
section
/-! DEFINITION. The meanings of the outfeed and printer events (chapters 9 and 10). -/

namespace Sys2Proof.Machine

/-! ### The outfeed -/

/-- The state of the beam after an edge (R161). -/
def beamAfter : EdgeKind → Beam
  | .brk => .broken
  | .make => .made

/-- The beam changes: the change is captured as an edge unless the station is in CONFIG-FAULT, and the tracker takes
what it can (R161, R162). -/
def State.beamEdge (s : State) (kind : EdgeKind) : State :=
  let s1 := s.setOutfeed { s.outfeed with beam := beamAfter kind }
  match s1.loader.station with
  | .configFault => s1
  | .running => (s1.captureEdge ⟨kind, s1.outfeed.encoder, s1.outfeed.capture⟩).track

/-- EDGE_CAPTURE (R161, R162): an edge is a change of the beam. -/
def execEdgeCapture (kind : EdgeKind) (s : State) : Result :=
  .next (s.event (fun s => if s.outfeed.beam = beamAfter kind then s else s.beamEdge kind))

/-- The tracker takes the edge in the holding record, if it is of a kind and can be taken (R162). -/
def State.takeHeld (s : State) (kind : EdgeKind) : State :=
  match s.outfeed.takable with
  | some e => if e.kind = kind then (s.takeEdge e).track else s
  | none => s

/-- TAKE_BREAK (R162 to R166). -/
def execTakeBreak (s : State) : Result := .next (s.event (fun s => s.takeHeld .brk))

/-- TAKE_MAKE (R162, R163, R167). -/
def execTakeMake (s : State) : Result := .next (s.event (fun s => s.takeHeld .make))

/-- The encoder count advances; the entries reached are carried out, and a waiting edge is taken (R160, R162, R168). -/
def State.advance (s : State) : State :=
  let s1 := s.setOutfeed { s.outfeed with encoder := s.outfeed.encoder + 1 }
  (State.runActions (s1.outfeed.actions.length + s1.outfeed.pendingClear.length) s1).track

/-- ENCODER_PULSE (R160, R168). -/
def execEncoderPulse (s : State) : Result := .next (s.event State.advance)

/-- JAM (R172): the belt timeout of a record in ON-BELT expires. -/
def execJam (tag : Nat) (s : State) : Result :=
  .next (s.event (fun s =>
    match s.queue.beltRecord tag with
    | some p => if s.jamDue p then s.jamRecord p else s
    | none => s))

/-! ### The printer -/

/-- PRINTER_DONE (R181). -/
def execPrinterDone (s : State) : Result := .next (s.event State.labelDone)

/-- The printer fault line changes (R181). -/
def State.faultLineTo (s : State) (asserted : Bool) : State :=
  let s1 := s.setLabel { s.label with faultLine := asserted }
  if asserted && !s.label.faultLine then
    match s.label.printer with
    | .idle => s1.printerSettle
    | .printing => s1.printFailed
    | .presented => s1
    | .fault => s1
  else s1

/-- PRINTER_FAULT (R181). -/
def execPrinterFault (asserted : Bool) (s : State) : Result := .next (s.event (fun s => s.faultLineTo asserted))

/-- PRINT_TIMEOUT (R181). -/
def execPrintTimeout (s : State) : Result :=
  .next (s.event (fun s => if expired s.label.printDue s.timer.ms then s.printFailed else s))

end Sys2Proof.Machine
end

