-- ==== Sys2Proof/Machine/BusEvents.lean ====
section
/-! DEFINITION. The meanings of the hall bus events (chapters 6 to 8). -/

namespace Sys2Proof.Machine

/-! ### Attempts -/

/-- CONTENTION_POINT (R108, R119). -/
def execContentionPoint (s : State) : Result := .next (s.event State.contention)

/-- An event of the frame that the station is sending. -/
def State.whileSending (s : State) (run : TxKind → State → State) : State :=
  match s.bus.sending with
  | some k => run k s
  | none => s

/-- LOST_ARBITRATION (R113): the station stops, and the frame waits for the next contention point. -/
def execLostArbitration (s : State) : Result :=
  .next (s.event (fun s => s.whileSending (fun _ s => s.putBus { s.bus with sending := none })))

/-- BIT_ERROR (R114): a failed attempt. The rest of the frame is not received (R112). -/
def execBitError (s : State) : Result :=
  .next (s.event (fun s => s.whileSending (fun k s =>
    (s.setBus { s.bus with observing := false }).failAttempt k)))

/-- ACK_SLOT (R116). -/
def execAckSlot (dominant : Bool) (s : State) : Result :=
  .next (s.event (fun s => s.whileSending (fun k s => s.slotSeen k dominant)))

/-- The busy limit has run out on the wait for a contention point (R118). -/
def State.busyDue (s : State) : Bool :=
  match s.bus.waitFrom with
  | some t => decide (t + Config.busyMs ≤ s.timer.ms)
  | none => false

/-- BUSY_LIMIT (R118): a failed attempt of the frame the station would offer. -/
def execBusyLimit (s : State) : Result :=
  .next (s.event (fun s =>
    match s.busyDue, s.bus.chosen with
    | true, some k => s.failAttempt k
    | _, _ => s))

/-! ### Timers -/

/-- A timer event of one bus state. -/
def State.timed (s : State) (st : BusState) (due : Option Nat) (run : State → State) : State :=
  if s.bus.state = st ∧ expired due s.timer.ms = true then run s else s

/-- QUIET_EXPIRY (R123). -/
def execQuietExpiry (s : State) : Result :=
  .next (s.event (fun s => s.timed .quiet s.bus.quietDue (fun s => s.changeBus .listen)))

/-- ACTIVE_TIMER_EXPIRY (R124). -/
def execActiveTimerExpiry (s : State) : Result :=
  .next (s.event (fun s => s.timed .active s.bus.activeDue (fun s =>
    s.setBus { s.bus with quietHistory := 0, activeDue := none })))

/-- LISTEN_TIMER_EXPIRY (R128). -/
def execListenTimerExpiry (s : State) : Result :=
  .next (s.event (fun s => s.timed .listen s.bus.listenDue (fun s =>
    s.changeBus (if s.loader.holdAtJoin then .hold else .announce))))

/-- GATHER_TIMER_EXPIRY (R131, R132). -/
def execGatherTimerExpiry (s : State) : Result :=
  .next (s.event (fun s => s.timed .gather s.bus.gatherDue (fun s => s.changeBus .active)))

/-- PRESENCE_TIMER_EXPIRY (R132). -/
def execPresenceTimerExpiry (s : State) : Result :=
  .next (s.event (fun s => s.timed .active s.bus.presenceDue (fun s =>
    s.putBus { s.bus.queuePresence false with presenceDue := some (s.timer.ms + s.loader.presenceInterval) })))

/-- SILENCE_TIMER_EXPIRY (R136). -/
def execSilenceTimerExpiry (station : Nat) (s : State) : Result :=
  .next (s.event (fun s =>
    match s.peers.find station with
    | some p => if p.silentNow s.loader.presenceInterval s.timer.ms then s.silence p else s
    | none => s))

/-- ASK_WINDOW_EXPIRY (R145). -/
def execAskWindowExpiry (s : State) : Result :=
  .next (s.event (fun s =>
    match s.share.openAsk with
    | some a => if a.phase = .window ∧ a.windowEnd ≤ s.timer.ms then s.endAsk else s
    | none => s))

/-! ### Frames received -/

/-- FRAME_NOT_WELL_FORMED (R112): discarded, and its slot, if the station observes it, is left recessive. -/
def execFrameNotWellFormed (bytes : List Byte) (s : State) : Result :=
  .next (s.event (fun s =>
    if s.bus.hears ∧ Frame.parse bytes = none then
      s.setBus { s.bus with slotDriven := false }
    else s))

/-- PRESENCE_RECEIVED (R133, R135, R141). -/
def execPresenceReceived (sender edition : Nat) (join : Bool) (busCode routeCount : Nat) (s : State) : Result :=
  .next (s.receive (.presence sender edition (if join then 1 else 0) busCode routeCount) (fun s =>
    (s.takePresence sender edition busCode routeCount join).answerJoin join))

/-- ASK_RECEIVED (R136, R137, R141, R147, R148). -/
def execAskReceived (sender askNo route day slot units : Nat) (s : State) : Result :=
  .next (s.receive (.ask sender askNo route day slot units) (fun s =>
    s.fromPeer sender (fun p s =>
      if s.bus.state = .active then s.takeAsk p askNo route day slot units else s)))

/-- GIVE_RECEIVED (R136, R137, R141, R151, R152). -/
def execGiveReceived (sender target askNo giveNo route day slot units : Nat) (s : State) : Result :=
  .next (s.receive (.give sender target askNo giveNo route day slot units) (fun s =>
    s.fromPeer sender (fun p s =>
      if s.bus.state = .active ∧ target = s.loader.stationNo then s.takeGive p askNo giveNo route day slot units
      else s)))

end Sys2Proof.Machine
end

