-- ==== Sys2Proof/Machine/Memories.lean ====
section
/-! DEFINITION. The meanings of the tariff load (R28 to R35), the configuration record (R193) and the reservation cell
(R178). -/

namespace Sys2Proof.Machine

/-! ### Loading an image -/

/-- BEGIN tested and taken or refused (R29). -/
def State.loadBegin (s : State) : State :=
  if s.loader.lockLevel ≠ 0 then s.respond 15 .locked []
  else if s.queue.parcels ≠ [] then s.respond 15 .busy []
  else (s.setStore { s.store with staging := .staging, staged := [] }).respond 15 .ok []

/-- LOAD-TARIFF BEGIN (R29). -/
def execLoadBegin (s : State) : Result := .next (s.command 15 State.loadBegin)

/-- CHUNK tested and taken or refused (R30). -/
def State.loadChunk (s : State) (bytes : List Byte) : State :=
  if s.loader.lockLevel ≠ 0 then s.respond 16 .locked []
  else if s.store.staging ≠ .staging then s.respond 16 .notReady []
  else if within 1 128 bytes.length = false ∨ Config.imageLen < s.store.staged.length + bytes.length then
    s.respond 16 .range []
  else
    (s.setStore { s.store with staged := s.store.staged ++ bytes }).respond 16 .ok
      (be16 (s.store.staged.length + bytes.length))

/-- LOAD-TARIFF CHUNK (R30). -/
def execLoadChunk (bytes : List Byte) (s : State) : Result := .next (s.command 16 (fun s => s.loadChunk bytes))

/-- END tested: the staged image is refused, or its write begins and END is held (R31, R32). -/
def State.loadEnd (s : State) : State :=
  if s.loader.lockLevel ≠ 0 then s.respond 17 .locked []
  else if s.store.staging ≠ .staging then s.respond 17 .notReady []
  else
    match imageFault s.store.staged with
    | some f =>
      (s.setStore { s.store with staging := .idle, staged := [], fault := some f }).respond 17 .badImage
        (n1 f.cls.number ++ optional be16 f.offset)
    | none =>
      (s.setStore { s.store with staging := .storing, fault := none }).setLink { s.link with held := some .loadEnd }

/-- LOAD-TARIFF END (R31). -/
def execLoadEnd (s : State) : Result := .next (s.command 17 State.loadEnd)

/-- The held command is answered (R187). -/
def State.answerHeld (s : State) (kind : Nat) (code : Code) (payload : List Byte) : State :=
  (s.setLink { s.link with held := none }).respond kind code payload

/-- The write and read-back of the image ends (R32 to R34). -/
def State.imageStored (s : State) (matched : Bool) : State :=
  let g := s.store.staged
  if matched then
    let s1 := s.setStore
      { s.store with mem := s.store.mem.writeBytes 0 g, staging := .idle, staged := [], fault := none }
    (s1.editionChange g).answerHeld 17 .ok (be16 (imageEdition g))
  else
    let s1 := s.setStore
      { s.store with
        mem := s.store.mem.writeMixed s.freeNo 0 g, staging := .idle, staged := [], fault := some ⟨.store, none⟩ }
    (s1.setFreeNo (s.freeNo + 1)).answerHeld 17 .badImage (n1 ImgClass.store.number ++ [0#8])

/-- IMAGE_STORE_COMPLETE (R32). -/
def execImageStoreComplete (matched : Bool) (s : State) : Result :=
  .next (s.event (fun s => if s.store.staging = .storing then s.imageStored matched else s))

/-- READ-TARIFF tested and taken or refused (R35). -/
def State.readTariff (s : State) (offset count : Nat) : State :=
  if s.loader.lockLevel = 2 then s.respond 18 .locked []
  else if s.store.edition = 0 then s.respond 18 .noTariff []
  else if within 1 128 count = false ∨ Config.imageLen < offset + count then s.respond 18 .range []
  else s.respond 18 .ok (((s.store.image.getD []).drop offset).take count)

/-- READ_TARIFF (R35). -/
def execReadTariff (offset : BitVec 16) (count : Byte) (s : State) : Result :=
  .next (s.command 18 (fun s => s.readTariff offset.toNat count.toNat))

/-! ### The configuration record -/

/-- SET-NEXT-CONFIG tested: refused, or its write is asked for and the command is held (R193). -/
def State.setNextConfig (s : State) (record : List Byte) : State :=
  match recordFault record with
  | some f => s.respond 21 .range (n1 f.cls.number ++ optional n1 f.offset)
  | none =>
    (s.setLoader { s.loader with writes := s.loader.writes ++ [.record record] }).setLink
      { s.link with held := some .setNext }

/-- SET_NEXT_CONFIG (R193). -/
def execSetNextConfig (record : List Byte) (s : State) : Result :=
  .next (s.commandAlways (fun s => s.setNextConfig record))

/-- The write and read-back of a record ends (R193). -/
def State.recordWritten (s : State) (record : List Byte) (matched : Bool) : State :=
  let l := s.loader
  if matched then
    (s.setLoader { l with mem := l.mem.writeBytes 0 record, next := some record, writes := l.writes.drop 1 }).answerHeld
      21 .ok [0#8]
  else
    ((s.setLoader { l with mem := l.mem.writeMixed s.freeNo 0 record, next := none, writes := l.writes.drop 1 }).setFreeNo
      (s.freeNo + 1)).answerHeld 21 .ok [1#8]

/-- CONFIG_WRITE_COMPLETE (R193): STORED is sent as 0 and STORE-FAILED as 1. -/
def execConfigWriteComplete (matched : Bool) (s : State) : Result :=
  .next (s.event (fun s =>
    match s.loader.writes with
    | .record record :: _ => s.recordWritten record matched
    | .cell .. :: _ => s
    | [] => s))

/-- READ_CONFIG (R193): the ACTIVE copy with its byte count, or the NEXT copy or its mark UNKNOWN. -/
def execReadConfig (copy : Byte) (s : State) : Result :=
  .next (s.commandAlways (fun s =>
    if copy = 0 then s.respond 22 .ok (listed (fun b => [b]) s.loader.active)
    else if copy = 1 then s.respond 22 .ok (optional (listed (fun b => [b])) s.loader.next)
    else s.respond 22 .range []))

/-! ### The reservation cell -/

/-- A held CONFIRM is tested once the cell state is IDLE (R178). -/
def State.releaseConfirm (s : State) : State :=
  match s.link.held with
  | some (.confirm tag quote) =>
    if s.loader.cellWriting then s else (s.setLink { s.link with held := none }).testConfirm tag quote
  | some .loadEnd => s
  | some .setNext => s
  | none => s

/-- A cell write succeeds: the copies change turns and, when a day change began the write, the cell-fault mark is cleared
(R178). -/
def State.cellWritten (s : State) (day blockEnd : Nat) (daily : Bool) : State :=
  let l := s.loader
  (s.setLoader
    { l with
      mem := l.mem.writeBytes s.label.nextCopy.base (cellBytes day blockEnd), writes := l.writes.drop 1 }).setLabel
    { s.label with
      nextCopy := s.label.nextCopy.other, cellFault := s.label.cellFault && !daily }

/-- A cell write fails: the serial stands at 999,999, the mark is set and the cell state is IDLE (R178). -/
def State.cellFailed (s : State) (day blockEnd : Nat) : State :=
  let l := s.loader
  ((s.setLoader
    { l with
      mem := l.mem.writeMixed s.freeNo s.label.nextCopy.base (cellBytes day blockEnd),
      writes := (l.writes.drop 1).filter (fun w => !w.isCell) }).setFreeNo (s.freeNo + 1)).setLabel
    { s.label with serial := s.label.serial.map (fun x => (Config.serialMax, x.2)), cellFault := true }

/-- CELL_WRITE_COMPLETE (R178). -/
def execCellWriteComplete (matched : Bool) (s : State) : Result :=
  .next (s.event (fun s =>
    match s.loader.writes with
    | .cell day blockEnd daily :: _ =>
      (if matched then s.cellWritten day blockEnd daily else s.cellFailed day blockEnd).releaseConfirm
    | .record _ :: _ => s
    | [] => s))

end Sys2Proof.Machine
end

