-- ==== Sys2Proof/Machine/Parcels.lean ====
section
/-! DEFINITION. The meanings of the terminal's parcel commands (chapter 4) and of FETCH (R188). -/

namespace Sys2Proof.Machine

/-! ### ACCEPT (R63, R64) -/

/-- A character byte of a decimal digit. -/
def isDigit (b : Byte) : Bool := within 0x30 0x39 b.toNat

/-- The service of a service byte. -/
def serviceOf (b : Byte) : Option Service :=
  if b = 0 then some .standard else if b = 1 then some .priority else none

/-- The postcode is five decimal digits (R63). -/
def postcodeOk (postcode : List Byte) : Bool := postcode.length == 5 && postcode.all isDigit

/-- The number of a postcode's first three digits (R20). -/
def prefixOf (postcode : List Byte) : Nat :=
  (byteAt postcode 0 - 48) * 100 + (byteAt postcode 1 - 48) * 10 + (byteAt postcode 2 - 48)

/-- A QUOTED record holds the mark NOT-CLEARED (R67). -/
def ParcelQueue.notCleared (q : ParcelQueue) : Bool :=
  q.parcels.any (fun p => p.state == .quoted && p.cleared == some false)

/-- The refusals of ACCEPT that do not look at what it carries (R63, Table 3, 1 to 7). -/
def State.acceptStation (s : State) : Option Code :=
  if s.plate.zero = none then some .notReady
  else if s.dispatch.clock = none then some .noClock
  else if s.store.edition = 0 then some .noTariff
  else if s.store.staging ≠ .idle then some .loading
  else if Config.queueLen ≤ s.queue.parcels.length then some .queueFull
  else if s.queue.plateBusy then some .busy
  else if s.queue.notCleared then some .plateNotCleared
  else none

/-- The refusals of ACCEPT for what it carries (R63, Table 3, 8 to 10). -/
def acceptFields (g : Image) (postcode : List Byte) (service : Byte) (declared : Nat) : Option Code :=
  if postcodeOk postcode = false ∨ serviceOf service = none then some .range
  else if unserved g (prefixOf postcode) then some .unserved
  else if imageMaxInsurable g < declared then some .range
  else none

/-- A record as ACCEPT creates it (R64). -/
def newParcel (g : Image) (tag : Nat) (postcode : List Byte) (service : Service) (declared due : Nat) : Parcel :=
  { tag := tag, state := .waitPlate, postcode := postcode, service := service, declared := declared,
    zone := zoneByte g (prefixOf postcode), route := zoneRoute g (prefixOf postcode),
    remote := zoneRemote g (prefixOf postcode), cleared := none, weight := none, dims := none, rating := Rating.empty,
    quote := none, standing := none, dispatch := none, holds := false, tracking := none, front := none, length := none,
    marks := none, outcome := none, reason := none, owed := none, plateDue := some due }

/-- ACCEPT is taken: a record joins the tail of the queue and the cursor moves on (R61, R64). -/
def State.acceptTaken (s : State) (g : Image) (postcode : List Byte) (service : Service) (declared : Nat) : State :=
  let tag := s.queue.newTag
  (s.setQueue
    { s.queue with
      parcels := s.queue.parcels ++ [newParcel g tag postcode service declared (s.timer.ms + Config.plateTimeoutMs)],
      cursor := cycle 1 255 tag }).respond 1 .ok (n1 tag)

/-- ACCEPT tested and taken or refused (R63, R64). -/
def State.accept (s : State) (postcode : List Byte) (service : Byte) (declared : Nat) : State :=
  match s.acceptStation with
  | some c => s.respond 1 c []
  | none =>
    let g := s.store.image.getD []
    match acceptFields g postcode service declared with
    | some c => s.respond 1 c []
    | none => s.acceptTaken g postcode ((serviceOf service).getD .standard) declared

/-- ACCEPT (R63, R64). -/
def execAccept (postcode : List Byte) (service : Byte) (declared : BitVec 24) (s : State) : Result :=
  .next (s.command 1 (fun s => s.accept postcode service declared.toNat))

/-! ### CONFIRM (R73, R178) -/

/-- A CONFIRM is held while the cell state is WRITING, and otherwise tested (R178). -/
def State.confirm (s : State) (tag quote : Nat) : State :=
  if s.loader.cellWriting then s.setLink { s.link with held := some (.confirm tag quote) } else s.testConfirm tag quote

/-- CONFIRM (R73, R74, R178). -/
def execConfirm (tag quote : Byte) (s : State) : Result :=
  .next (s.command 2 (fun s => s.confirm tag.toNat quote.toNat))

/-! ### VOID (R76, R77) -/

/-- A record in this state may be voided (R76). -/
def PState.voidable : PState → Bool
  | .waitPlate | .measuring | .seeking | .quoted | .labelPending => true
  | .rating | .onBelt | .done | .void | .rejected => false

/-- The effect of a VOID by the state the record leaves (R77, Table 5). -/
def State.voidEffect (s : State) (p : Parcel) : State :=
  match p.state with
  | .measuring => s.setPlate { s.plate with meas := none }
  | .seeking =>
    let s1 := s.closeAsk
    (s1.setDispatch { s1.dispatch with current := none }).serveLine.quotesDue s1
  | .quoted =>
    if p.standing = some true then s.release p
    else s.setDispatch { s.dispatch with line := s.dispatch.line.filter (fun r => r.tag != p.tag) }
  | .labelPending => (s.release p).discardLabel p.tag
  | .waitPlate | .rating | .onBelt | .done | .void | .rejected => s

/-- VOID tested and taken or refused (R76). One that arrived together with the round close that handed its record over to
RATING (R16), or with the expiry of its record's plate timeout (R65), that event taken first, is refused with NOT-VOIDABLE
(the model's choice of what arriving together is, log entry 34). One that comes later meets the queue as it then stands: a
record that has left with its report is not found (R76, R82; log entry 32). -/
def State.void (s : State) (tag : Nat) : State :=
  if s.link.metVoid = some tag then (s.setLink { s.link with metVoid := none }).respond 3 .notVoidable []
  else
    match s.queue.find tag with
    | none => s.respond 3 .unknownTag []
    | some p =>
      if p.state.voidable then ((s.endParcel p .void (some .command)).voidEffect p).respond 3 .ok []
      else s.respond 3 .notVoidable []

/-- VOID (R76, R77, R98). -/
def execVoid (tag : Byte) (s : State) : Result := .next (s.command 3 (fun s => s.void tag.toNat))

/-! ### FETCH and QUERY-PARCEL -/

/-- The oldest report is removed and returned, and the freed place is offered to the owed reports (R188). -/
def State.fetch (s : State) : State :=
  let s1 := s.respond 4 .ok (reportBytes s.link.reports.head?)
  match s.link.reports with
  | [] => s1
  | _ :: rest => (s1.setLink { s1.link with reports := rest }).placeOwed

/-- FETCH (R188). -/
def execFetch (s : State) : Result := .next (s.command 4 State.fetch)

/-- A record's fields are returned, or the tag is unknown (R84). -/
def State.queryParcel (s : State) (tag : Nat) : State :=
  match s.queue.find tag with
  | none => s.respond 5 .unknownTag []
  | some p => s.respond 5 .ok (parcelBytes s.queue p)

/-- QUERY_PARCEL (R84). -/
def execQueryParcel (tag : Byte) (s : State) : Result := .next (s.command 5 (fun s => s.queryParcel tag.toNat))

/-- The plate timeout of the WAIT-PLATE record expires, and the record ends. A VOID that arrived together with the expiry is
then refused with NOT-VOIDABLE, also when the record has left with its report (R65; log entry 32). -/
def State.plateTimeout (s : State) : State :=
  match s.queue.inState .waitPlate with
  | some p => if expired p.plateDue s.timer.ms then (s.endParcel p .void (some .plateTimeout)).meetVoid p.tag else s
  | none => s

/-- PLATE_TIMEOUT (R65). -/
def execPlateTimeout (s : State) : Result := .next (s.event State.plateTimeout)

end Sys2Proof.Machine
end

