-- ==== Sys2Proof/Machine/Time.lean ====
section
/-! DEFINITION. The meanings of the scan step, the cut-off and the day change. -/

namespace Sys2Proof.Machine

/-- The scanner runs and its step interval has expired (R3). -/
def State.scanDue (s : State) : Bool := s.plate.running && decide (s.plate.stepDue ≤ s.nowUs)

/-- SCAN_STEP (R3). -/
def execScanStep (code : BitVec 16) (s : State) : Result :=
  .next (s.event (fun s => if s.scanDue then s.scan code else s))

/-- The head of a route's ring, when the clock has reached its cut-off instant (R87). -/
def DispatchTable.dueHead (d : DispatchTable) (route : Nat) : Option Entry :=
  match d.clock, (d.ring route).map Ring.entries with
  | some c, some (e :: _) => if e.reachedAt c then some e else none
  | _, _ => none

/-- CUT_OFF (R87, R103): taken in every station state (R107). Its QUOTEs become due in queue order (R83). -/
def execCutOff (route : Nat) (s : State) : Result :=
  .next (s.event (fun s =>
    match s.dispatch.dueHead route with
    | some e => (s.closeHead route e).bookings.quotesDue s
    | none => s))

/-- DAY_CHANGE (R87): the clock passes the last millisecond of its day. -/
def execDayChange (s : State) : Result :=
  .next (s.event (fun s =>
    match s.dispatch.clock with
    | some c =>
      if c.ms + 1 = Config.dayMs then
        (s.setDispatch { s.dispatch with clock := some ⟨nextDay c.day, 0⟩ }).labelDay (nextDay c.day)
      else s
    | none => s))

end Sys2Proof.Machine
end

