-- ==== Sys2Proof/Machine/Dispatch.lean ====
section
/-! DEFINITION. The meaning of every command and event, one call per row of the table. -/

namespace Sys2Proof.Machine

def exec (i : Instr) (s : State) : Host.Outcome State Fault Refusal :=
  match i with
  | .powerOn answered cellA cellB imageRead beam faultLine => Sys2Proof.Machine.execPowerOn answered cellA cellB imageRead beam faultLine s
  | .restartInput answered => Sys2Proof.Machine.execRestartInput answered s
  | .restart answered => Sys2Proof.Machine.execRestart answered s
  | .badCommand kind payload => Sys2Proof.Machine.execBadCommand kind payload s
  | .accept postcode service declared => Sys2Proof.Machine.execAccept postcode service declared s
  | .confirm tag quote => Sys2Proof.Machine.execConfirm tag quote s
  | .void tag => Sys2Proof.Machine.execVoid tag s
  | .fetch => Sys2Proof.Machine.execFetch s
  | .queryParcel tag => Sys2Proof.Machine.execQueryParcel tag s
  | .queryStation => Sys2Proof.Machine.execQueryStation s
  | .queryDispatch route => Sys2Proof.Machine.execQueryDispatch route s
  | .queryPeers => Sys2Proof.Machine.execQueryPeers s
  | .setClock day ms => Sys2Proof.Machine.execSetClock day ms s
  | .setTare tare => Sys2Proof.Machine.execSetTare tare s
  | .zero => Sys2Proof.Machine.execZero s
  | .clearFlags => Sys2Proof.Machine.execClearFlags s
  | .setAttention mask edge => Sys2Proof.Machine.execSetAttention mask edge s
  | .ackAttention payload => Sys2Proof.Machine.execAckAttention payload s
  | .loadBegin => Sys2Proof.Machine.execLoadBegin s
  | .loadChunk bytes => Sys2Proof.Machine.execLoadChunk bytes s
  | .loadEnd => Sys2Proof.Machine.execLoadEnd s
  | .imageStoreComplete matched => Sys2Proof.Machine.execImageStoreComplete matched s
  | .readTariff offset count => Sys2Proof.Machine.execReadTariff offset count s
  | .releaseJoin => Sys2Proof.Machine.execReleaseJoin s
  | .printerRetry => Sys2Proof.Machine.execPrinterRetry s
  | .setNextConfig record => Sys2Proof.Machine.execSetNextConfig record s
  | .configWriteComplete matched => Sys2Proof.Machine.execConfigWriteComplete matched s
  | .readConfig copy => Sys2Proof.Machine.execReadConfig copy s
  | .scanStep code => Sys2Proof.Machine.execScanStep code s
  | .plateTimeout => Sys2Proof.Machine.execPlateTimeout s
  | .cutOff route => Sys2Proof.Machine.execCutOff route s
  | .dayChange => Sys2Proof.Machine.execDayChange s
  | .cellWriteComplete matched => Sys2Proof.Machine.execCellWriteComplete matched s
  | .contentionPoint => Sys2Proof.Machine.execContentionPoint s
  | .lostArbitration => Sys2Proof.Machine.execLostArbitration s
  | .bitError => Sys2Proof.Machine.execBitError s
  | .ackSlot dominant => Sys2Proof.Machine.execAckSlot dominant s
  | .busyLimit => Sys2Proof.Machine.execBusyLimit s
  | .quietExpiry => Sys2Proof.Machine.execQuietExpiry s
  | .activeTimerExpiry => Sys2Proof.Machine.execActiveTimerExpiry s
  | .listenTimerExpiry => Sys2Proof.Machine.execListenTimerExpiry s
  | .gatherTimerExpiry => Sys2Proof.Machine.execGatherTimerExpiry s
  | .presenceTimerExpiry => Sys2Proof.Machine.execPresenceTimerExpiry s
  | .silenceTimerExpiry station => Sys2Proof.Machine.execSilenceTimerExpiry station s
  | .frameNotWellFormed bytes => Sys2Proof.Machine.execFrameNotWellFormed bytes s
  | .presenceReceived sender edition join busCode routeCount => Sys2Proof.Machine.execPresenceReceived sender edition join busCode routeCount s
  | .askReceived sender askNo route day slot units => Sys2Proof.Machine.execAskReceived sender askNo route day slot units s
  | .giveReceived sender target askNo giveNo route day slot units => Sys2Proof.Machine.execGiveReceived sender target askNo giveNo route day slot units s
  | .askWindowExpiry => Sys2Proof.Machine.execAskWindowExpiry s
  | .edgeCapture kind => Sys2Proof.Machine.execEdgeCapture kind s
  | .takeBreak => Sys2Proof.Machine.execTakeBreak s
  | .takeMake => Sys2Proof.Machine.execTakeMake s
  | .encoderPulse => Sys2Proof.Machine.execEncoderPulse s
  | .jam tag => Sys2Proof.Machine.execJam tag s
  | .printerDone => Sys2Proof.Machine.execPrinterDone s
  | .printerFault asserted => Sys2Proof.Machine.execPrinterFault asserted s
  | .printTimeout => Sys2Proof.Machine.execPrintTimeout s
  | .powerLoss => Sys2Proof.Machine.execPowerLoss s

end Sys2Proof.Machine
end

