-- ==== Sys2Proof/Machine/Tick.lean ====
section
/-! DEFINITION. One microsecond of the part's own clock: the capture timer, the millisecond timer and the station clock
advance (R65, R87, R160), and the time-driven events that have fallen due join the queue (log entry 4). -/

namespace Sys2Proof.Machine

/-- The capture timer and the microseconds of the millisecond timer advance (R160). -/
def State.microsecond (s : State) : State :=
  (s.setOutfeed { s.outfeed with capture := s.outfeed.capture + 1 }).setTimer
    (if s.timer.us + 1 < 1000 then ⟨s.timer.ms, s.timer.us + 1⟩ else ⟨s.timer.ms + 1, 0⟩)

/-- A closing event for each ring whose head the clock has reached at a time, in ascending route number (R87). -/
def DispatchTable.cutOffs (d : DispatchTable) (c : ClockTime) : List Instr :=
  (List.range 16).filterMap (fun r =>
    match (d.ring r).map Ring.entries with
    | some (e :: _) => if e.reachedAt c then some (.cutOff r) else none
    | _ => none)

/-- A set clock advances one millisecond and brings the closings it reaches; past the last millisecond of a day it brings
the day change and the closings of the next day's first minute, the day change setting it (R87). -/
def DispatchTable.millisecond (d : DispatchTable) : DispatchTable × List Instr :=
  match d.clock with
  | none => (d, [])
  | some c =>
    if c.ms + 1 < Config.dayMs then
      ({ d with clock := some ⟨c.day, c.ms + 1⟩ }, d.cutOffs ⟨c.day, c.ms + 1⟩)
    else (d, .dayChange :: d.cutOffs ⟨nextDay c.day, 0⟩)

/-- One event when it is due. -/
def due (b : Bool) (i : Instr) : List Instr := if b then [i] else []

/-- The timer events that have fallen due. -/
def State.timerEvents (s : State) : List Instr :=
  let ms := s.timer.ms
  due (s.queue.parcels.any (fun p => p.state == .waitPlate && expired p.plateDue ms)) .plateTimeout ++
    due (s.busyDue && s.bus.chosen.isSome) .busyLimit ++
    due (expired s.bus.quietDue ms) .quietExpiry ++ due (expired s.bus.activeDue ms) .activeTimerExpiry ++
    due (expired s.bus.listenDue ms) .listenTimerExpiry ++ due (expired s.bus.gatherDue ms) .gatherTimerExpiry ++
    due (expired s.bus.presenceDue ms) .presenceTimerExpiry ++
    (s.peers.peers.filter (fun p => p.silentNow s.loader.presenceInterval ms)).map
      (fun p => .silenceTimerExpiry p.station) ++
    due (match s.share.openAsk with
      | some a => a.phase == .window && decide (a.windowEnd ≤ ms)
      | none => false) .askWindowExpiry ++
    (s.queue.parcels.filter s.jamDue).map (fun p => .jam p.tag) ++
    due (expired s.label.printDue ms) .printTimeout

/-- One microsecond passes for a powered part, and what falls due joins the queue. -/
def State.tick (s : State) : State :=
  if s.powered then
    let s1 := s.microsecond
    if s1.timer.us = 0 then
      let d := s1.dispatch.millisecond
      let s2 := s1.setDispatch d.1
      s2.setPending (s2.pending ++ d.2 ++ s2.timerEvents)
    else s1.setPending (s1.pending ++ s1.timerEvents)
  else s

end Sys2Proof.Machine
end

