-- ==== Sys2Proof/Safety.lean ====
section
/-! DEFINITION. What a safe run is, and the words the statements use: completing, answering a command with nothing but
its response, noticing a rise, the wait of the busy limit, and the invariants that every step keeps: the canonical form
of the board memories, and the bounds and links of the blocks. -/

namespace Sys2Proof.Machine

/-- The outcome is a next state. -/
def Completes (r : Host.Outcome State Fault Refusal) : Prop := ∃ t, r = .next t

/-- The outcome of a command that changes nothing but the response last given (R186). -/
def State.answers (s : State) (kind : Nat) (code : Code) (payload : List Byte) : Host.Outcome State Fault Refusal :=
  .next { s with link := { s.link with response := some ⟨kind, code, payload⟩ } }

/-- The board memories are in their canonical form. -/
abbrev State.MemoriesOk (s : State) : Prop := s.loader.mem.wf = true ∧ s.store.mem.wf = true

/-- The link receives commands: the part is powered and holds no command (R187, R194). -/
abbrev State.Listening (s : State) : Prop := s.powered = true ∧ s.link.held = none

/-- The part takes the terminal's commands: it is powered, RUNNING and holds no command (R187). -/
abbrev State.Ready (s : State) : Prop := s.powered = true ∧ s.link.held = none ∧ s.loader.station = .running

/-- The record of a tag stands alone between older and younger records (R60, R61). -/
abbrev State.Holds (s : State) (older : List Parcel) (p : Parcel) (younger : List Parcel) : Prop :=
  s.queue.parcels = older ++ p :: younger ∧ ∀ q ∈ older ++ younger, q.tag ≠ p.tag

/-- The link after a condition has been made true that was `was` before: as it stands if the condition was true already,
and with its rise noticed otherwise (R188, R189). `bus` is the bus state then entered or standing. -/
abbrev State.risen (s : State) (was : Bool) (src : Source) (bus : BusState) : Link :=
  if was then s.link else s.link.rise src s.dispatch.clock bus

/-! ### The wait of the busy limit (R118) -/

/-- The station has a frame to offer that its bus state lets it send (R111, R119). -/
def BusController.offers (b : BusController) : Bool :=
  match b.state with
  | .active => !b.gives.isEmpty || b.ask.isSome || b.presence.isSome
  | .announce => b.presence.isSome
  | .off | .listen | .hold | .gather | .quiet | .failed => false

/-- The controller after an event of its queue or its attempt: while it sends nothing and has a frame to offer it waits,
since `began` if a wait goes on and from now if none does; otherwise no wait runs (R118). -/
def BusController.waits (b : BusController) (began : Option Nat) (now : Nat) : BusController :=
  { b with waitFrom := if b.sending.isNone && b.offers then some (began.getD now) else none }

/-- The controller after every unbegun GIVE that meets a test is withdrawn: a begun one goes on without its reservation,
and the wait stops if the frame offered is withdrawn (R103, R118, R121). -/
def BusController.withoutGives (b : BusController) (test : TxGive → Bool) (now : Nat) : BusController :=
  BusController.waits
    { b with
      gives := (b.gives.filter (fun g => g.begun || !test g)).map (fun g => { g with live := g.live && !test g }) }
    (if b.state == .active && b.gives.head?.any (fun g => !g.begun && test g) then none else b.waitFrom) now

/-- The controller after its ASK frame is withdrawn if it has not begun: the wait stops if that frame was the one offered
(R118, R121, R146). -/
def BusController.withoutAsk (b : BusController) (now : Nat) : BusController :=
  if b.ask.any (fun f => !f.begun) then
    BusController.waits { b with ask := none } (if b.state == .active && b.gives.isEmpty then none else b.waitFrom) now
  else b.waits b.waitFrom now

/-! ### What every step keeps -/

/-- The queues and lists of every block stay within the sizes that the chapters give (R10, R30, R60, R93, R119, R134,
R161, R168, R173, R180, R188). -/
abbrev State.Bounded (s : State) : Prop :=
  s.queue.parcels.length ≤ 6 ∧ s.link.reports.length ≤ 16 ∧ s.outfeed.edges.length ≤ 8 ∧ s.outfeed.actions.length ≤ 8 ∧
    s.bus.gives.length ≤ 4 ∧ s.store.staged.length ≤ 4559 ∧ s.plate.history.length ≤ 64 ∧ s.peers.peers.length ≤ 31 ∧
    s.dispatch.line.length ≤ 6 ∧ s.label.printOrder.length ≤ 6 ∧ s.outfeed.pendingClear.length ≤ 6

/-- Every saturating counter stays at or below its maximum, and the consecutive-abandoned count at or below 3 (R10, R13,
R90, R105, R117, R122, R124, R125, R134, R137, R143, R152, R161, R163, R164, R172, R183, R188). -/
abbrev State.CountersOk (s : State) : Prop :=
  s.plate.quiet ≤ 255 ∧ s.plate.clear ≤ 255 ∧ s.dispatch.expired ≤ 65535 ∧ s.dispatch.stranded ≤ 65535 ∧
    s.share.late ≤ 255 ∧ s.bus.failedAttempts ≤ 255 ∧ s.bus.quietEntries ≤ 255 ∧ s.bus.unheardPresence ≤ 255 ∧
    s.bus.unknownSender ≤ 255 ∧ s.bus.quietHistory ≤ 2 ∧ s.bus.consecutive ≤ 3 ∧ s.outfeed.dropped ≤ 255 ∧
    s.outfeed.orphans ≤ 255 ∧ s.outfeed.unmatched ≤ 65535 ∧ s.outfeed.jams ≤ 255 ∧ s.label.wasted ≤ 65535 ∧
    s.link.lost ≤ 255 ∧ (∀ r ∈ s.dispatch.rings, r.deferred ≤ 65535) ∧
    (∀ p ∈ s.peers.peers, p.given ≤ 65535 ∧ p.received ≤ 65535) ∧ (∀ a, s.share.openAsk = some a → a.received ≤ 65535)

/-- No two records hold the same tag, every tag and the cursor is 1 to 255, and there are at most six records (R60,
R61). -/
abbrev State.TagsOk (s : State) : Prop :=
  (s.queue.parcels.map Parcel.tag).Nodup ∧ (∀ p ∈ s.queue.parcels, 1 ≤ p.tag ∧ p.tag ≤ 255) ∧
    1 ≤ s.queue.cursor ∧ s.queue.cursor ≤ 255 ∧ s.queue.parcels.length ≤ 6

/-- A record of a tag is in a state. -/
abbrev ParcelQueue.Has (q : ParcelQueue) (tag : Nat) (st : PState) : Prop := ∃ p ∈ q.parcels, p.tag = tag ∧ p.state = st

/-- At most one record is in a plate state (R60). A request that waits in the line is the requote of a QUOTED record whose
quote is withdrawn, one to a record; the current booking asks, its record in SEEKING; and nothing waits while there is no
current booking (R69, R71, R93). -/
abbrev State.PlateOk (s : State) : Prop :=
  (s.queue.parcels.filter (fun p => p.state.onPlate)).length ≤ 1 ∧ (s.dispatch.line.map Request.tag).Nodup ∧
    (∀ r ∈ s.dispatch.line, r.rated = false ∧
      ∃ p ∈ s.queue.parcels, p.tag = r.tag ∧ p.state = .quoted ∧ p.standing = some false) ∧
    (∀ b, s.dispatch.current = some b → b.asking = true ∧ s.queue.Has b.request.tag .seeking) ∧
    (s.dispatch.current = none → s.dispatch.line = [])

/-- Every action entry and every waiting CLEAR carries the tag of an ON-BELT record, a record has one waiting CLEAR at
most and no CLEAR-CHUTE in the table beside it, and the open parcel's record has neither (R163, R167, R168). Every label
in the print order is that of a LABEL-PENDING or ON-BELT record, one to a tag (R180). -/
abbrev State.BeltOk (s : State) : Prop :=
  let waiting := s.outfeed.pendingClear.map Prod.fst
  (∀ a ∈ s.outfeed.actions, s.queue.Has a.tag .onBelt) ∧ waiting.Nodup ∧ (∀ tag ∈ waiting, s.queue.Has tag .onBelt) ∧
    (∀ a ∈ s.outfeed.actions, a.kind = .clearChute → a.tag ∉ waiting) ∧
    (∀ x tag, s.outfeed.openParcel = some x → x.tag = some tag →
      tag ∉ waiting ∧ ∀ a ∈ s.outfeed.actions, a.kind = .clearChute → a.tag ≠ tag) ∧
    (s.label.printOrder.map Label.tag).Nodup ∧
    (∀ l ∈ s.label.printOrder, s.queue.Has l.tag .labelPending ∨ s.queue.Has l.tag .onBelt)

/-- A station sends in ACTIVE and ANNOUNCE alone (R111). Outside OFF it has a station number of 1 to 32, and in OFF no
peer entry (R126, R142). The peer entries ascend by station number, each of another station of the hall (R134, R141). -/
abbrev State.HallOk (s : State) : Prop :=
  (s.bus.sending ≠ none → s.bus.state = .active ∨ s.bus.state = .announce) ∧
    (s.bus.state ≠ .off → 1 ≤ s.loader.stationNo ∧ s.loader.stationNo ≤ 32) ∧
    (s.bus.state = .off → s.peers.peers = []) ∧ s.peers.peers.Pairwise (fun p q => p.station < q.station) ∧
    (∀ p ∈ s.peers.peers, 1 ≤ p.station ∧ p.station ≤ 32 ∧ p.station ≠ s.loader.stationNo)

/-- A ring holds three dispatches that follow one another in an image, each of a slot of its route, and on every one
booked and reserved units together never exceed held units (R90 to R92). -/
abbrev Ring.Ok (g : Image) (r : Ring) : Prop :=
  (usedRoute g r.route = true ∧ ∃ e1 e2 e3, r.entries = [e1, e2, e3] ∧
      (e2.day, e2.slot) = slotAfter g r.route e1.day e1.slot ∧
      (e3.day, e3.slot) = slotAfter g r.route e2.day e2.slot) ∧
    ∀ e ∈ r.entries, 1 ≤ e.day ∧ e.day ≤ 366 ∧ 1 ≤ e.slot ∧ e.slot ≤ routeSlots g r.route ∧ e.held ≤ 65535 ∧
      e.booked + e.reserved ≤ e.held

/-- The units of the GIVEs that are reserved on an entry (R100, R148). -/
abbrev BusController.reservedFor (b : BusController) (route : Nat) (e : Entry) : Nat :=
  ((b.gives.filter (fun g => g.names route e.day e.slot)).map TxGive.units).sum

/-- The active image and one being stored are valid; a set clock is in range; there is at most one ring for a route, none
before the clock is set, and each is in order (R25, R87, R88, R90, R92). Every GIVE with a reservation names an open
entry, whose reserved units hold the units of all of them (R100, R148). -/
abbrev State.UnitsOk (s : State) : Prop :=
  (∀ g, s.store.image = some g → imageFault g = none) ∧
    (s.store.staging = .storing → imageFault s.store.staged = none) ∧
    (∀ c, s.dispatch.clock = some c → 1 ≤ c.day ∧ c.day ≤ 366 ∧ c.ms < 86400000) ∧
    (s.dispatch.clock = none → s.dispatch.rings = []) ∧ (s.dispatch.rings.map Ring.route).Nodup ∧
    (∀ r ∈ s.dispatch.rings, (∃ g, s.store.image = some g ∧ r.Ok g) ∧
      ∀ e ∈ r.entries, s.bus.reservedFor r.route e ≤ e.reserved) ∧
    (∀ x ∈ s.bus.gives, x.live = true → s.dispatch.entry x.route x.day x.slot ≠ none)

/-- The printer state says where a label is: one at the printer, with its timer, in PRINTING alone, and one in the slot in
PRESENTED alone (R181, Table 5). -/
abbrev State.PrinterOk (s : State) : Prop :=
  (s.label.printer = .printing ↔ s.label.atPrinter.isSome = true) ∧
    (s.label.printer = .printing ↔ s.label.printDue.isSome = true) ∧
    (s.label.printer = .presented ↔ s.label.slot.isSome = true)

end Sys2Proof.Machine
end

