-- ==== Sys2Proof/WellFormed.lean ====
section
/-! DEFINITION. Which commands and events the connections can bring: fixed payload lengths (R186), well-formed frames
(R112), and the ranges of what the world decides. -/

namespace Sys2Proof

/-- A command or event that can arise at the part's connections. -/
def Instr.wf : Instr → Bool
  | .powerOn answered _ _ _ _ _ => decide (answered ≤ Config.recordLen)
  | .restartInput answered => decide (answered ≤ Config.recordLen)
  | .restart answered => decide (answered ≤ Config.recordLen)
  | .badCommand kind payload => decide (payload.length ≤ 255) && Machine.malformed kind.toNat payload.length
  | .accept postcode _ _ => postcode.length == 5
  | .confirm _ _ => true
  | .void _ => true
  | .fetch => true
  | .queryParcel _ => true
  | .queryStation => true
  | .queryDispatch _ => true
  | .queryPeers => true
  | .setClock _ _ => true
  | .setTare _ => true
  | .zero => true
  | .clearFlags => true
  | .setAttention _ _ => true
  | .ackAttention payload => decide (payload.length ≤ 255)
  | .loadBegin => true
  | .loadChunk bytes => decide (bytes.length ≤ 255)
  | .loadEnd => true
  | .imageStoreComplete _ => true
  | .readTariff _ _ => true
  | .releaseJoin => true
  | .printerRetry => true
  | .setNextConfig record => record.length == Config.recordLen
  | .configWriteComplete _ => true
  | .readConfig _ => true
  | .scanStep _ => true
  | .plateTimeout => true
  | .cutOff route => decide (route ≤ 15)
  | .dayChange => true
  | .cellWriteComplete _ => true
  | .contentionPoint => true
  | .lostArbitration => true
  | .bitError => true
  | .ackSlot _ => true
  | .busyLimit => true
  | .quietExpiry => true
  | .activeTimerExpiry => true
  | .listenTimerExpiry => true
  | .gatherTimerExpiry => true
  | .presenceTimerExpiry => true
  | .silenceTimerExpiry station => Machine.within 1 32 station
  | .frameNotWellFormed bytes => (Machine.Frame.parse bytes).isNone
  | .presenceReceived sender edition join busCode routeCount =>
    (Machine.Frame.presence sender edition (if join then 1 else 0) busCode routeCount).wf
  | .askReceived sender askNo route day slot units => (Machine.Frame.ask sender askNo route day slot units).wf
  | .giveReceived sender target askNo giveNo route day slot units =>
    (Machine.Frame.give sender target askNo giveNo route day slot units).wf
  | .askWindowExpiry => true
  | .edgeCapture _ => true
  | .takeBreak => true
  | .takeMake => true
  | .encoderPulse => true
  | .jam tag => Machine.within 1 255 tag
  | .printerDone => true
  | .printerFault _ => true
  | .printTimeout => true
  | .powerLoss => true

end Sys2Proof
end

