-- ==== Sys2Proof/Certificates/Slice0/Obligations.lean ====
section
/-! DEFINITION. The statements for the provers. Each ends with the rules or the sections of the spec it follows; each
equation of a next state is also the command's frame, since every block that it does not write stands in it as it was.
-/

open Sys2Proof Sys2Proof.Machine

/-! ### The step, the clock of the part, and the gate of the link -/

/-- One step runs the command at the front of the queue on the state with the queue's rest. [section 11.1] -/
def Obligations.StepRunsFrontCommand : Prop :=
  ∀ (s : State) (c : Instr) (rest : List Instr), s.pending = c :: rest → step s = exec c { s with pending := rest }

/-- On an empty queue a step is one microsecond of the part's own clock (the model's choice, log entry 4): the capture
timer advances, the millisecond timer and the set station clock advance at each thousandth microsecond, past the last
millisecond of a day the clock waits for DAY_CHANGE at the front of the queue, and nothing but the queue changes besides.
A part without power stands still. [sections 9.1, 5.1] -/
def Obligations.EmptyQueueIsOneMicrosecond : Prop :=
  ∀ s : State, s.pending = [] → s.timer.us < 1000 →
    (s.powered = false → step s = .next s) ∧
    (s.powered = true → ∃ t, step s = .next t ∧
      t.outfeed = { s.outfeed with capture := s.outfeed.capture + 1 } ∧
      t.timer.ms * 1000 + t.timer.us = s.timer.ms * 1000 + s.timer.us + 1 ∧ t.timer.us < 1000 ∧
      (s.timer.us ≠ 999 ∨ s.dispatch.clock = none → t.dispatch = s.dispatch) ∧
      (∀ c, s.timer.us = 999 → s.dispatch.clock = some c → c.ms + 1 < 86400000 →
        t.dispatch = { s.dispatch with clock := some ⟨c.day, c.ms + 1⟩ }) ∧
      (∀ c, s.timer.us = 999 → s.dispatch.clock = some c → 86400000 ≤ c.ms + 1 →
        t.dispatch = s.dispatch ∧ t.pending.head? = some .dayChange) ∧
      t = { s with pending := t.pending, outfeed := t.outfeed, timer := t.timer, dispatch := t.dispatch })

/-- What the part takes at all. A part without power takes POWER_ON alone (the model's choice, log entry 6). While a
command is held, a terminal command's bytes are discarded (log entry 9). In CONFIG-FAULT a command whose message is of
none of the kinds 6, 21, 22 and 23 is answered NOT-READY and changes nothing else. A malformed message is answered
BAD-COMMAND with an empty payload in every station state, CONFIG-FAULT too (log entry 9), and changes nothing else.
[sections 11.1, 11.6] -/
def Obligations.LinkGate : Prop :=
  ∀ (s : State) (c : Instr),
    (s.powered = false → (∀ n a b r e f, c ≠ .powerOn n a b r e f) → exec c s = .next s) ∧
    (∀ m, encodeMessage c = some m → s.link.held ≠ none → exec c s = .next s) ∧
    (∀ (kind : Byte) (rest : List Byte), s.Listening → s.loader.station = .configFault →
      encodeMessage c = some (kind :: rest) → kind ≠ 6 ∧ kind ≠ 21 ∧ kind ≠ 22 ∧ kind ≠ 23 →
      (∀ k p, c ≠ .badCommand k p) → exec c s = s.answers kind.toNat .notReady []) ∧
    (∀ (kind : Byte) (payload : List Byte), s.Listening → malformed kind.toNat payload.length = true →
      c = .badCommand kind payload → exec c s = s.answers kind.toNat .badCommand [])

/-! ### Starts and power loss -/

/-- POWER_ON with a record that passes: RUNNING, every block at its power-on value, the scanner begun with entry 0, and
the bus in LISTEN if the record enables it. A fault line found asserted and the change to LISTEN each rise with their
STATION-EVENT, and with their latch under an EDGE choice, the line's first (the model's order, log entry 13). The board
memories and the waiting commands are kept. [sections 11.5, 11.6, 11.3, 1.12, 6.8, 10.7] -/
def Obligations.PowerOnRunning : Prop :=
  ∀ (s : State) (n : Nat) (a b r : Bool) (beam : Beam) (line : Bool), s.powered = false →
    recordFault (s.loader.mem.readBytes 0 (min n 81)) = none →
    ∃ t, exec (.powerOn n a b r beam line) s = .next t ∧ t.powered = true ∧ t.pending = s.pending ∧
      t.loader = {
        station := .running, fault := none, active := s.loader.mem.readBytes 0 (min n 81),
        startNo := s.loader.startNo + 1, next := some (s.loader.mem.readBytes 0 (min n 81)), mem := s.loader.mem,
        writes := [] } ∧
      t.plate = { Plate.powerOn with
        running := true, cur := 0, converting := (t.loader.scanned 0).isSome,
        stepDue := t.loader.scanStepUs, lo := -(t.loader.halfWidth : Int) } ∧
      t.summary = Summary.clear ∧ t.queue = ⟨[], 1, 0⟩ ∧ t.dispatch = State.reset.dispatch ∧
      t.share = State.reset.share ∧ t.peers = State.reset.peers ∧ t.outfeed = { Outfeed.powerOn with beam := beam } ∧
      t.bus = { BusController.powerOn with
        state := if t.loader.busEnabled then .listen else .off, changed := t.loader.busEnabled,
        listenDue := if t.loader.busEnabled then some t.loader.presenceInterval else none } ∧
      t.label = { LabelUnit.powerOn with
        cellA := if a then cellOf (s.loader.mem.readBytes 128 7) else none,
        cellB := if b then cellOf (s.loader.mem.readBytes 136 7) else none,
        faultLine := line, printer := if line then .fault else .idle } ∧
      t.store.mem = s.store.mem ∧ t.store.staging = .idle ∧ t.store.staged = [] ∧ t.timer = ⟨0, 0⟩ ∧
      t.link = {
        reports := (if line then [.event .printerFault none none] else []) ++
          (if t.loader.busEnabled then [.event .busState none (some .listen)] else []),
        lost := 0, reportLost := false, mask := t.loader.defaultMask, edge := t.loader.defaultEdge,
        latch := (if line then t.loader.defaultEdge &&& 1 else 0) |||
          (if t.loader.busEnabled then t.loader.defaultEdge &&& 2 else 0),
        held := none, response := none, metVoid := none }

/-- POWER_ON with a record that fails: CONFIG-FAULT with the class found, the bytes read as both copies, the scanner
stopped, the bus OFF, every source unmasked and LEVEL, and no report but the STATION-EVENT of a fault line found asserted.
With any record, the image memory's 4,559 bytes become the active image when the read completes and they are valid;
otherwise there is none, the edition is 0, and the fault names the failing class, STORE when the read did not complete.
[sections 11.5, 11.6, 2.4] -/
def Obligations.PowerOnFaultAndImage : Prop :=
  ∀ (s : State) (n : Nat) (a b : Bool) (beam : Beam) (line : Bool), s.powered = false →
    (∀ (f : CfgFault) (r : Bool), recordFault (s.loader.mem.readBytes 0 (min n 81)) = some f →
      ∃ t, exec (.powerOn n a b r beam line) s = .next t ∧ t.powered = true ∧ t.loader.station = .configFault ∧
        t.loader.fault = some f ∧ t.loader.active = s.loader.mem.readBytes 0 (min n 81) ∧
        t.loader.next = some t.loader.active ∧ t.loader.mem = s.loader.mem ∧ t.plate.running = false ∧
        t.plate.zero = none ∧ t.bus = BusController.powerOn ∧
        t.link = { Link.powerOn with reports := if line then [.event .printerFault none none] else [] } ∧
        t.queue = ⟨[], 1, 0⟩ ∧ t.dispatch = State.reset.dispatch ∧ t.store.mem = s.store.mem) ∧
    (∃ t, exec (.powerOn n a b false beam line) s = .next t ∧ t.store.image = none ∧ t.store.edition = 0 ∧
      t.store.fault = some ⟨.store, none⟩ ∧ t.store.mem = s.store.mem) ∧
    (∃ t, exec (.powerOn n a b true beam line) s = .next t ∧ t.store.mem = s.store.mem ∧
      t.store.fault = imageFault (s.store.mem.readBytes 0 4559) ∧
      t.store.image = (if (imageFault (s.store.mem.readBytes 0 4559)).isNone then some (s.store.mem.readBytes 0 4559)
        else none))

/-- A restart reads the record afresh and empties the parcel queue, the open ask, the peer table, the transmit queue, the
outfeed, the print order and the report queue; a write in progress ceases where it stands. The rings are kept: every
record's booking is released, a GIVE's reservation is returned, or written off and stranded when its frame had begun. The
clock, the counters, the image, the zero, the tare and the serial are kept; a label in the slot counts as wasted. The
attention settings are the record's, and a fault line still asserted and a change of bus state each rise, in that order
(log entry 13). RESTART is first answered OK; the restart input leaves the response last given. [sections 11.6, 11.5,
1.12, 2.9, 4.13, 5.8, 6.8, 7.5, 8.5, 9.10, 10.7] -/
def Obligations.RestartKeepsAndEmpties : Prop :=
  ∀ (s : State) (n : Nat), s.powered = true → s.dispatch.stranded ≤ 65535 →
    (s.link.held = none → exec (.restart n) s =
      exec (.restartInput n) { s with link := { s.link with response := some ⟨23, .ok, []⟩ } }) ∧
    ∃ t, exec (.restartInput n) s = .next t ∧
      let bytes := t.loader.mem.readBytes 0 (min n 81)
      let runs := (recordFault bytes).isNone
      let bus : BusState := if runs && t.loader.busEnabled then .listen else .off
      let edge := if runs then t.loader.defaultEdge else 0
      let line := s.label.faultLine
      let loads := fun (route : Nat) (b : Booked) => ((s.queue.parcels.filter (fun p =>
        p.holds && p.route == route && p.dispatch == some b)).map (fun p => p.rating.load.getD 0)).sum
      let given := fun (test : TxGive → Bool) => ((s.bus.gives.filter (fun g => g.live && test g)).map TxGive.units).sum
      let on := fun (route : Nat) (e : Entry) (g : TxGive) => g.route == route && g.day == e.day && g.slot == e.slot
      t.loader = {
        station := if runs then .running else .configFault, fault := recordFault bytes, active := bytes,
        startNo := s.loader.startNo + 1, next := some bytes, mem := t.loader.mem,
        writes := match s.label.serial with
          | some (serial, day) => [.cell day (min (serial / 100 * 100 + 100) 999999) false]
          | none => [] } ∧
      (s.loader.writes = [] → t.loader.mem = s.loader.mem) ∧
      (∀ w rest a, s.loader.writes = w :: rest →
        a < (w.target s.label.nextCopy).1 ∨ (w.target s.label.nextCopy).1 + (w.target s.label.nextCopy).2.length ≤ a →
        t.loader.mem.read a = s.loader.mem.read a) ∧
      (s.store.staging ≠ .storing → t.store.mem = s.store.mem) ∧
      (∀ a, s.store.staged.length ≤ a → t.store.mem.read a = s.store.mem.read a) ∧
      t = { s with
        freeNo := t.freeNo, loader := t.loader, summary := Summary.clear
        plate := { Plate.powerOn with
          zero := s.plate.zero, tare := s.plate.tare, lo := -(t.loader.halfWidth : Int), running := runs
          converting := runs && (t.loader.scanned 0).isSome
          stepDue := if runs then s.timer.ms * 1000 + s.timer.us + t.loader.scanStepUs else 0 }
        store := { s.store with mem := t.store.mem, staging := .idle, staged := [], fault := none }
        queue := { s.queue with parcels := [] }
        dispatch := { s.dispatch with
          line := [], current := none, stranded := min 65535 (s.dispatch.stranded + given TxGive.begun)
          rings := s.dispatch.rings.map (fun r => { r with
            deferred := r.deferred - loads r.route .deferred
            entries := r.entries.map (fun e => { e with
              booked := e.booked - loads r.route (.entry e.day e.slot), reserved := e.reserved - given (on r.route e)
              held := e.held - given (fun g => g.begun && on r.route e g) }) }) }
        share := { s.share with openAsk := none }
        peers := ⟨[], false, false⟩
        bus := { s.bus with
          state := bus, gives := [], ask := none, presence := none, sending := none, waitFrom := none, quietHistory := 0
          changed := s.bus.state != bus, gatherDue := none, presenceDue := none, activeDue := none, quietDue := none
          listenDue := if bus = .listen then some (s.timer.ms + t.loader.presenceInterval) else none
          slotDriven := false, observing := false }
        outfeed := { s.outfeed with
          edges := [], holding := none, openParcel := none, gap := none, actions := [], pendingClear := [], chute := 0,
          owner := none, overrun := false, jammed := false }
        label := { s.label with
          printOrder := [], printer := if line then .fault else .idle, atPrinter := none, printDue := none, slot := none
          eject := true
          wasted := if s.label.slot.isNone then s.label.wasted else if 65535 ≤ s.label.wasted then 65535
            else s.label.wasted + 1 }
        link := { s.link with
          reports := (if line then [.event .printerFault s.dispatch.clock none] else []) ++
            (if s.bus.state = bus then [] else [.event .busState s.dispatch.clock (some bus)])
          reportLost := false, held := none, metVoid := none, mask := if runs then t.loader.defaultMask else 0, edge := edge
          latch := (if line then edge &&& 1 else 0) ||| (if s.bus.state = bus then 0 else edge &&& 2) } }

/-- POWER_LOSS leaves every block as it stands (the model's choice, log entry 29), apart from the memory bytes of a write
in progress: outside the image region, and outside the cell copy or record being written, every byte reads as before.
[sections 10.3, 2.6, 11.5] -/
def Obligations.PowerLossCutsWritesShort : Prop :=
  ∀ s : State, s.powered = true → ∃ t, exec .powerLoss s = .next t ∧ t.powered = false ∧
    (s.store.staging ≠ .storing → t.store = s.store) ∧ (s.loader.writes = [] → t.loader = s.loader) ∧
    (∀ a, s.store.staged.length ≤ a → t.store.mem.read a = s.store.mem.read a) ∧
    (∀ w rest a, s.loader.writes = w :: rest →
      a < (w.target s.label.nextCopy).1 ∨ (w.target s.label.nextCopy).1 + (w.target s.label.nextCopy).2.length ≤ a →
      t.loader.mem.read a = s.loader.mem.read a) ∧
    t = { s with
      powered := false, freeNo := t.freeNo, store := { s.store with mem := t.store.mem },
      loader := { s.loader with mem := t.loader.mem, writes := [] } }

/-! ### Parcel commands -/

/-- ACCEPT is refused by the first condition of chapter 4, Table 3 that holds, and changes nothing but its response.
[R63] -/
def Obligations.AcceptRefusalsInOrder : Prop :=
  ∀ (s : State) (pc : List Byte) (sv : Byte) (v : BitVec 24), s.Listening →
    let refused := fun c => exec (.accept pc sv v) s = s.answers 1 c []
    let image := s.store.image.getD []
    (s.loader.station = .configFault ∨ s.plate.zero = none → refused .notReady) ∧
    (s.loader.station = .running → s.plate.zero ≠ none → s.dispatch.clock = none → refused .noClock) ∧
    (s.loader.station = .running → s.plate.zero ≠ none → s.dispatch.clock ≠ none →
      (s.store.edition = 0 → refused .noTariff) ∧
      (s.store.edition ≠ 0 → s.store.staging ≠ .idle → refused .loading) ∧
      (s.store.edition ≠ 0 → s.store.staging = .idle →
        (6 ≤ s.queue.parcels.length → refused .queueFull) ∧
        (s.queue.parcels.length < 6 → s.queue.plateBusy = true → refused .busy) ∧
        (s.queue.parcels.length < 6 → s.queue.plateBusy = false →
          ((∃ p ∈ s.queue.parcels, p.state = .quoted ∧ p.cleared = some false) → refused .plateNotCleared) ∧
          ((∀ p ∈ s.queue.parcels, ¬(p.state = .quoted ∧ p.cleared = some false)) →
            (postcodeOk pc = false ∨ (sv ≠ 0 ∧ sv ≠ 1) → refused .range) ∧
            (postcodeOk pc = true → sv = 0 ∨ sv = 1 →
              (unserved image (prefixOf pc) = true → refused .unserved) ∧
              (unserved image (prefixOf pc) = false → imageMaxInsurable image < v.toNat → refused .range))))))

/-- ACCEPT taken: a WAIT-PLATE record joins the tail, with the first tag from the cursor on that no record holds (255 is
followed by 1), the fields carried and the zone map's, every other field absent, and the 30 s plate timeout; the cursor
moves to the tag after; the response carries the tag. [R64] -/
def Obligations.AcceptTaken : Prop :=
  ∀ (s : State) (g : List Byte) (pc : List Byte) (sv : Byte) (v : BitVec 24), s.Ready → s.plate.zero ≠ none →
    s.dispatch.clock ≠ none → s.store.image = some g → imageEdition g ≠ 0 → s.store.staging = .idle →
    s.queue.parcels.length < 6 → s.queue.plateBusy = false →
    (∀ p ∈ s.queue.parcels, ¬(p.state = .quoted ∧ p.cleared = some false)) → postcodeOk pc = true → sv = 0 ∨ sv = 1 →
    unserved g (prefixOf pc) = false → v.toNat ≤ imageMaxInsurable g → 1 ≤ s.queue.cursor → s.queue.cursor ≤ 255 →
    let tagAt := fun (j : Nat) => (s.queue.cursor - 1 + j) % 255 + 1
    let isHeld := fun (tag : Nat) => ∃ p ∈ s.queue.parcels, p.tag = tag
    ∃ k, (∀ j, j < k → isHeld (tagAt j)) ∧ ¬isHeld (tagAt k) ∧
    exec (.accept pc sv v) s = .next { s with
      queue := { s.queue with
        parcels := s.queue.parcels ++ [
          {
            tag := tagAt k, state := .waitPlate, postcode := pc,
            service := if sv = 0 then .standard else .priority, declared := v.toNat, zone := zoneByte g (prefixOf pc),
            route := zoneRoute g (prefixOf pc), remote := zoneRemote g (prefixOf pc), cleared := none, weight := none,
            dims := none, rating := Rating.empty, quote := none, standing := none, dispatch := none, holds := false,
            tracking := none, front := none, length := none, marks := none, outcome := none, reason := none,
            owed := none, plateDue := some (s.timer.ms + 30000) }]
        cursor := if tagAt k ≥ 255 then 1 else tagAt k + 1 }
      link := { s.link with response := some ⟨1, .ok, [BitVec.ofNat 8 (tagAt k)]⟩ } }

/-- CONFIRM is held while a cell write is asked for; otherwise it is refused by the first condition of chapter 4, Table 4
that holds. Either way it changes nothing else. [sections 4.8, 10.3] -/
def Obligations.ConfirmHeldOrRefused : Prop :=
  ∀ (s : State) (tag quote : Byte), s.Ready →
    let refused := fun c => exec (.confirm tag quote) s = s.answers 2 c []
    (s.loader.cellWriting = true → exec (.confirm tag quote) s =
      .next { s with link := { s.link with held := some (.confirm tag.toNat quote.toNat) } }) ∧
    (s.loader.cellWriting = false →
      ((∀ p ∈ s.queue.parcels, p.tag ≠ tag.toNat) → refused .unknownTag) ∧
      (∀ older p younger, s.Holds older p younger → p.tag = tag.toNat →
        (p.state = .quoted ∨ p.state = .seeking → p.standing = some false → refused .staleQuote) ∧
        (p.state = .quoted → p.standing = some true → p.quote ≠ some quote.toNat → refused .staleQuote) ∧
        (p.state ≠ .quoted → ¬(p.state = .seeking ∧ p.standing = some false) → refused .notQuoted) ∧
        (p.state = .quoted → p.standing = some true → p.quote = some quote.toNat →
          ((∃ q ∈ younger, q.state = .labelPending ∨ q.state = .onBelt) → refused .busy) ∧
          ((∀ q ∈ younger, q.state ≠ .labelPending ∧ q.state ≠ .onBelt) →
            ∀ day, s.label.serial = some (999999, day) → refused .serialExhausted))))

/-- CONFIRM taken: the record enters LABEL-PENDING with the tracking number of the next serial, its label joins the print
order or is sent to an idle printer, at a multiple of 100 a cell write joins the memory's writes, and the response carries
the sixteen digits, a byte each (the model's layout, log entry 5). [sections 4.8, 10.1, 10.2, 10.3, 10.4, 10.5] -/
def Obligations.ConfirmTaken : Prop :=
  ∀ (s : State) (tag quote : Byte) (older younger : List Parcel) (p : Parcel) (serial day : Nat), s.Ready →
    s.loader.cellWriting = false → s.Holds older p younger → p.tag = tag.toNat → p.state = .quoted →
    p.standing = some true → p.quote = some quote.toNat →
    (∀ q ∈ younger, q.state ≠ .labelPending ∧ q.state ≠ .onBelt) → s.label.serial = some (serial, day) →
    serial < 999999 → (s.label.printer = .idle → s.label.faultLine = false) →
    let digits := trackingNumber s.loader.office day s.loader.stationNo (serial + 1)
    let label : Label :=
      {
        tag := p.tag, tracking := digits, route := p.route, chute := s.store.chute p.route,
        dispatch := p.dispatch.getD .deferred, service := p.service, price := p.rating.price.getD 0,
        cs := p.rating.cs.getD 0, postcode := p.postcode }
    ∃ t, exec (.confirm tag quote) s = .next t ∧
      t.queue = { s.queue with
        parcels := older ++ { p with state := .labelPending, tracking := some digits } :: younger } ∧
      t.link = { s.link with response := some ⟨2, .ok, digits.map (BitVec.ofNat 8)⟩ } ∧
      t.loader = { s.loader with
        writes := if (serial + 1) % 100 = 0 then s.loader.writes ++ [.cell day (min (serial + 101) 999999) false]
          else s.loader.writes } ∧
      (s.label.printer ≠ .idle ∨ s.label.slot ≠ none → t.label = { s.label with
        serial := some (serial + 1, day), printOrder := s.label.printOrder ++ [label] }) ∧
      (s.label.printer = .idle → s.label.slot = none → s.label.printOrder = [] → t.label = { s.label with
        serial := some (serial + 1, day), printer := .printing, atPrinter := some label,
        printDue := some (s.timer.ms + 5000), sent := some (label, s.label.eject), eject := false }) ∧
      t = { s with queue := t.queue, link := t.link, loader := t.loader, label := t.label }

/-- VOID is refused with UNKNOWN-TAG when no record holds the tag, and with NOT-VOIDABLE for a record in RATING, ON-BELT
or a final state. So is a VOID that arrived together with the round close that handed its record over, or with the expiry
of its plate timeout, that event taken first (log entries 32 and 34). VOID of a WAIT-PLATE, MEASURING or QUOTED record: the
record leaves with its PARCEL-END while the report queue has room, and otherwise stays in VOID and owes it; a measurement in
progress ceases, a standing quote's booking is released from its open entry or from the deferred count, and a withdrawn
quote's request leaves the line. Marks still absent are sent as clear ones (log entry 5). [sections 4.9, 4.11, 5.3] -/
def Obligations.VoidAtTheCounter : Prop :=
  (∀ (s : State) (tag : Byte), s.Ready → s.link.metVoid = some tag.toNat → exec (.void tag) s = .next { s with
    link := { s.link with response := some ⟨3, .notVoidable, []⟩, metVoid := none } }) ∧
  (∀ (s : State) (tag : Byte), s.Ready → s.link.metVoid ≠ some tag.toNat →
      ((∀ p ∈ s.queue.parcels, p.tag ≠ tag.toNat) → exec (.void tag) s = s.answers 3 .unknownTag []) ∧
      (∀ older p younger, s.Holds older p younger → p.tag = tag.toNat →
        p.state = .rating ∨ p.state = .onBelt ∨ p.state = .done ∨ p.state = .void ∨ p.state = .rejected →
        exec (.void tag) s = s.answers 3 .notVoidable [])) ∧
  (∀ (s : State) (tag : Byte) (older younger : List Parcel) (p : Parcel), s.Ready → s.Holds older p younger →
      p.tag = tag.toNat → s.link.metVoid ≠ some tag.toNat →
      let report : Report :=
        .parcelEnd p.tag .void (some .command) p.quote p.dispatch p.tracking p.rating.flags p.marked
      let room := decide (s.link.reports.length < 16)
      let queue : ParcelQueue := { s.queue with
        parcels := older ++ (if room then [] else [{ p with
          state := .void, outcome := some .void, reason := some .command, plateDue := none, holds := false
          owed := some ⟨s.queue.nextDue, report⟩ }]) ++ younger
        nextDue := if room then s.queue.nextDue else s.queue.nextDue + 1 }
      let reports := if room then s.link.reports ++ [report] else s.link.reports
      let after := fun (plate : Plate) (dispatch : DispatchTable) =>
        exec (.void tag) s = .next { s with
          plate := plate, dispatch := dispatch, queue := queue
          link := { s.link with response := some ⟨3, .ok, []⟩, reports := reports } }
      (p.state = .waitPlate → after s.plate s.dispatch) ∧
      (p.state = .measuring → after { s.plate with meas := none } s.dispatch) ∧
      (p.state = .quoted → p.standing = some true → p.holds = true →
        (∀ day slot, p.dispatch = some (.entry day slot) → after s.plate (s.dispatch.updateEntry p.route day slot
          (fun e => { e with booked := e.booked - p.rating.load.getD 0 }))) ∧
        (p.dispatch = some .deferred → after s.plate (s.dispatch.updateRing p.route
          (fun r => { r with deferred := r.deferred - p.rating.load.getD 0 })))) ∧
      (p.state = .quoted → p.standing = some false → after s.plate { s.dispatch with
        line := s.dispatch.line.filter (fun r => r.tag ≠ p.tag) }))

/-- VOID of a LABEL-PENDING record, its PARCEL-END placed or owed: its booking is released and its label leaves the print
order, unprinted and not counted as wasted; a label of its in the slot is discarded and wasted, and the printer goes on
from IDLE: to FAULT while the fault line is asserted, else to the next label, if there is one. VOID of a record in SEEKING
with no other request waiting: the open ask and the booking end without a result, and the ASK frame is withdrawn if it has
not begun, the wait for it stopping. The PARCEL-END comes before the printer's STATION-EVENT (log entry 19), and marks
still absent are sent in it as clear ones (log entry 5). [sections 4.9, 5.4, 8.5, 10.5, 10.6] -/
def Obligations.VoidPendingAndSeeking : Prop :=
  (∀ (s : State) (tag : Byte) (older younger : List Parcel) (p : Parcel), s.Ready →
      s.Holds older p younger → p.tag = tag.toNat → p.state = .labelPending → s.link.metVoid ≠ some tag.toNat →
      let report : Report :=
        .parcelEnd p.tag .void (some .command) p.quote p.dispatch p.tracking p.rating.flags p.marked
      let room := decide (s.link.reports.length < 16)
      let queue : ParcelQueue := { s.queue with
        parcels := older ++ (if room then [] else [{ p with
          state := .void, outcome := some .void, reason := some .command, plateDue := none, holds := false
          owed := some ⟨s.queue.nextDue, report⟩ }]) ++ younger
        nextDue := if room then s.queue.nextDue else s.queue.nextDue + 1 }
      let reports := if room then s.link.reports ++ [report] else s.link.reports
      let order := s.label.printOrder.filter (fun l => l.tag ≠ p.tag)
      let reported : Link := { s.link with reports := reports }
      let after := fun (label : LabelUnit) (link : Link) => exec (.void tag) s = .next { s with
        dispatch := s.dispatch.release p
        queue := queue
        label := label
        link := { link with response := some ⟨3, .ok, []⟩ } }
      let emptied : LabelUnit := { s.label with
        printOrder := order, slot := none, printer := .idle, eject := true
        wasted := if 65535 ≤ s.label.wasted then 65535 else s.label.wasted + 1 }
      (p.holds = false → s.dispatch.release p = s.dispatch) ∧
      (∀ day slot, p.holds = true → p.dispatch = some (.entry day slot) →
        s.dispatch.release p = s.dispatch.updateEntry p.route day slot
          (fun e => { e with booked := e.booked - p.rating.load.getD 0 })) ∧
      (p.holds = true → p.dispatch = some .deferred → s.dispatch.release p = s.dispatch.updateRing p.route
        (fun r => { r with deferred := r.deferred - p.rating.load.getD 0 })) ∧
      ((∀ l, s.label.slot = some l → l.tag ≠ p.tag) → after { s.label with printOrder := order } reported) ∧
      (∀ l, s.label.slot = some l → l.tag = p.tag →
        (s.label.faultLine = true → after { emptied with printer := .fault }
          (reported.rise .printerFault s.dispatch.clock s.bus.state)) ∧
        (s.label.faultLine = false → order = [] → after emptied reported) ∧
        (∀ l' rest, s.label.faultLine = false → order = l' :: rest → after { emptied with
          printOrder := rest, printer := .printing, atPrinter := some l', printDue := some (s.timer.ms + 5000)
          sent := some (l', true), eject := false } reported))) ∧
  (∀ (s : State) (tag : Byte) (older younger : List Parcel) (p : Parcel) (a : OpenAsk), s.Ready →
      s.Holds older p younger → p.tag = tag.toNat → p.state = .seeking → s.dispatch.line = [] →
      s.share.openAsk = some a → s.link.metVoid ≠ some tag.toNat →
      let report : Report :=
        .parcelEnd p.tag .void (some .command) p.quote p.dispatch p.tracking p.rating.flags p.marked
      let room := decide (s.link.reports.length < 16)
      let queue : ParcelQueue := { s.queue with
        parcels := older ++ (if room then [] else [{ p with
          state := .void, outcome := some .void, reason := some .command, plateDue := none, holds := false
          owed := some ⟨s.queue.nextDue, report⟩ }]) ++ younger
        nextDue := if room then s.queue.nextDue else s.queue.nextDue + 1 }
      let reports := if room then s.link.reports ++ [report] else s.link.reports
      exec (.void tag) s = .next { s with
          queue := queue
          dispatch := { s.dispatch with current := none }
          share := { s.share with openAsk := none }
          bus := if a.phase = .sending then s.bus.withoutAsk s.timer.ms else s.bus
          link := { s.link with response := some ⟨3, .ok, []⟩, reports := reports } })

/-- FETCH returns the oldest report and removes it; an owed report, the one that became due first, takes the freed place,
and a PARCEL-END takes its record out of the queue. On an empty queue it returns no report. [sections 11.2, 4.11] -/
def Obligations.FetchReturnsOldest : Prop :=
  ∀ s : State, s.Ready →
    (s.link.reports = [] → exec .fetch s = s.answers 4 .ok [0]) ∧
    (∀ r rest, s.link.reports = r :: rest → (∀ p ∈ s.queue.parcels, p.owed = none) →
      exec .fetch s = .next { s with
        link := { s.link with reports := rest, response := some ⟨4, .ok, reportBytes (some r)⟩ } }) ∧
    (∀ r rest older p younger o, s.link.reports = r :: rest → rest.length < 16 → s.Holds older p younger →
      p.owed = some o → (∀ q ∈ older ++ younger, ∀ o', q.owed = some o' → o.due < o'.due) →
      exec .fetch s = .next { s with
        queue := { s.queue with
          parcels := if p.state = .done ∨ p.state = .void ∨ p.state = .rejected then older ++ younger
            else older ++ { p with owed := none } :: younger }
        link := { s.link with reports := rest ++ [o.report], response := some ⟨4, .ok, reportBytes (some r)⟩ } })

/-- QUERY-PARCEL, QUERY-DISPATCH, READ-TARIFF and READ-CONFIG change nothing but the response: what they return, and when
they are refused. QUERY-STATION returns the station's state as it stands and makes BUS-STATE and JAM false, in
CONFIG-FAULT too; QUERY-PEERS returns the peer table and makes PEER-CHANGE false. Neither changes anything else. The
layout of READ-TARIFF's and READ-CONFIG's payloads is the model's choice (log entry 5).
[sections 4.12, 5.7, 2.8, 11.5, 11.4, 7.3] -/
def Obligations.QueriesAndReads : Prop :=
  (∀ s : State,
      (s.Ready → ∀ tag : Byte,
        ((∀ p ∈ s.queue.parcels, p.tag ≠ tag.toNat) → exec (.queryParcel tag) s = s.answers 5 .unknownTag []) ∧
        (∀ older p younger, s.Holds older p younger → p.tag = tag.toNat →
          exec (.queryParcel tag) s = s.answers 5 .ok (parcelBytes s.queue p))) ∧
      (s.Ready → ∀ route : Byte,
        (15 < route.toNat → exec (.queryDispatch route) s = s.answers 7 .range []) ∧
        (route.toNat ≤ 15 → exec (.queryDispatch route) s = s.answers 7 .ok (s.dispatchBytes route.toNat))) ∧
      (s.Ready → ∀ (off : BitVec 16) (n : Byte),
        (s.loader.lockLevel = 2 → exec (.readTariff off n) s = s.answers 18 .locked []) ∧
        (s.loader.lockLevel ≠ 2 → s.store.edition = 0 → exec (.readTariff off n) s = s.answers 18 .noTariff []) ∧
        (∀ g, s.loader.lockLevel ≠ 2 → s.store.image = some g → imageEdition g ≠ 0 →
          (n = 0 ∨ 128 < n.toNat ∨ 4559 < off.toNat + n.toNat → exec (.readTariff off n) s = s.answers 18 .range []) ∧
          (n ≠ 0 → n.toNat ≤ 128 → off.toNat + n.toNat ≤ 4559 →
            exec (.readTariff off n) s = s.answers 18 .ok ((g.drop off.toNat).take n.toNat)))) ∧
      (s.Listening → ∀ copy : Byte,
        (copy = 0 → exec (.readConfig copy) s =
          s.answers 22 .ok (BitVec.ofNat 8 s.loader.active.length :: s.loader.active)) ∧
        (copy = 1 → s.loader.next = none → exec (.readConfig copy) s = s.answers 22 .ok [0]) ∧
        (∀ bs, copy = 1 → s.loader.next = some bs →
          exec (.readConfig copy) s = s.answers 22 .ok (1 :: BitVec.ofNat 8 bs.length :: bs)) ∧
        (copy ≠ 0 → copy ≠ 1 → exec (.readConfig copy) s = s.answers 22 .range []))) ∧
  (∀ s : State,
      (s.Listening → exec .queryStation s = .next { s with
        bus := { s.bus with changed := false }
        outfeed := { s.outfeed with jammed := false }
        link := { s.link with response := some ⟨6, .ok, s.stationBytes⟩ } }) ∧
      (s.Ready → exec .queryPeers s = .next { s with
        peers := { s.peers with changed := false }
        link := { s.link with response := some ⟨8, .ok, s.peersBytes⟩ } }))

/-! ### Station commands -/

/-- The first SET-CLOCK sets the clock, fills a ring for every used route, and resolves the serial from the larger block
end of the held cell copies that name the day (copy A on a tie), else to 0; the first cell write goes to the copy that did
not supply it, or to A. [sections 5.1, 5.2, 10.3] -/
def Obligations.FirstSetClockResolves : Prop :=
  ∀ (s : State) (day : BitVec 16) (ms : BitVec 32), s.Ready → 1 ≤ day.toNat → day.toNat ≤ 366 → ms.toNat < 86400000 →
    s.dispatch.clock = none → s.label.serial = none → s.loader.writes = [] →
    let outcome := fun (serial : Nat) (copy : CellCopy) => exec (.setClock day ms) s = .next { s with
      dispatch := { s.dispatch with
        clock := some ⟨day.toNat, ms.toNat⟩, rings := fillRings s.store day.toNat ms.toNat }
      label := { s.label with serial := some (serial, day.toNat), nextCopy := copy }
      loader := { s.loader with
        writes := if serial % 100 = 0 then [.cell day.toNat (min (serial + 100) 999999) false] else [] }
      link := { s.link with response := some ⟨9, .ok, []⟩ } }
    ((∀ c, s.label.cellA = some c ∨ s.label.cellB = some c → c.day ≠ day.toNat) → outcome 0 .a) ∧
    (∀ x, s.label.cellA = some ⟨day.toNat, x⟩ → 100 ≤ x → x ≤ 999999 →
      (∀ c, s.label.cellB = some c → c.day = day.toNat → c.blockEnd ≤ x) → outcome x .b) ∧
    (∀ y, s.label.cellB = some ⟨day.toNat, y⟩ → 100 ≤ y → y ≤ 999999 →
      (∀ c, s.label.cellA = some c → c.day = day.toNat → c.blockEnd < y) → outcome y .a)

/-- A ring filled from a time holds the next three daily slots whose cut-off lies after it, each following the one before,
with its initial share held, nothing booked or reserved, and a deferred count of 0. [section 5.2] -/
def Obligations.RingFillTakesNextThreeSlots : Prop :=
  ∀ (g : List Byte) (route day ms : Nat), 1 ≤ routeSlots g route → 1 ≤ day → day ≤ 366 →
    (∀ i j, 1 ≤ i → i < j → j ≤ routeSlots g route → slotMinute g route i < slotMinute g route j) →
    (fillRing g route day ms).deferred = 0 ∧
    ∃ e1 e2 e3, (fillRing g route day ms).entries = [e1, e2, e3] ∧
      (∀ e ∈ [e1, e2, e3], 1 ≤ e.slot ∧ e.slot ≤ routeSlots g route ∧ e.minute = slotMinute g route e.slot ∧
        e.held = slotShare g route e.slot ∧ e.booked = 0 ∧ e.reserved = 0) ∧
      (e2.day, e2.slot) = slotAfter g route e1.day e1.slot ∧ (e3.day, e3.slot) = slotAfter g route e2.day e2.slot ∧
      (∀ i, 1 ≤ i → i ≤ routeSlots g route → ms / 60000 < slotMinute g route i → e1.day = day ∧ e1.slot ≤ i) ∧
      (e1.day = day → ms / 60000 < e1.minute) ∧
      ((∀ i, 1 ≤ i → i ≤ routeSlots g route → slotMinute g route i ≤ ms / 60000) →
        e1.day = nextDay day ∧ e1.slot = 1)

/-- SET-CLOCK on a set clock: out of range is refused; a step of nothing changes nothing; a backward step of at most a
minute within the day sets the clock alone; a longer or midnight-crossing one is refused; a forward step below 183 days
sets the clock. While no booking, ask, GIVE or record stands on an entry, a forward step that passes no head's cut-off
closes none; one that passes the head of one ring, or its head and the next, closes those entries, refills the ring behind
them and adds their held units to the expired-units counter; and into another day it makes a resolved serial 0 with a cell
write of block end 100 besides, begun or held behind the write in progress in place of a cell write held there. A head
whose cut-off is the present instant counts as passed (log entry 12). [sections 5.1, 5.2, 5.5, 10.2, 10.3] -/
def Obligations.SetClockSteps : Prop :=
  ∀ (s : State) (day : BitVec 16) (ms : BitVec 32), s.Ready →
    let new : ClockTime := ⟨day.toNat, ms.toNat⟩
    let refused := exec (.setClock day ms) s = s.answers 9 .range []
    let moved := fun (rings : List Ring) (expired : Nat) (bus : BusController) => ∃ t, exec (.setClock day ms) s = .next t ∧
      (s.label.serial = none → t.label = s.label ∧ t.loader = s.loader) ∧
      (∀ c, s.dispatch.clock = some c → day.toNat = c.day → t.label = s.label ∧ t.loader = s.loader) ∧
      (∀ c, s.dispatch.clock = some c → day.toNat ≠ c.day → s.label.serial ≠ none →
        t.label = { s.label with serial := some (0, day.toNat) } ∧
        t.loader = { s.loader with
          writes := match s.loader.writes with
            | [] => [.cell day.toNat 100 true]
            | w :: held => w :: (held.filter (fun x => !x.isCell) ++ [.cell day.toNat 100 true]) }) ∧
      t = { s with
        dispatch := { s.dispatch with clock := some new, rings := rings, expired := expired }
        bus := bus
        label := t.label
        loader := t.loader
        link := { s.link with response := some ⟨9, .ok, []⟩ } }
    (day.toNat < 1 ∨ 366 < day.toNat ∨ 86400000 ≤ ms.toNat → refused) ∧
    (1 ≤ day.toNat → day.toNat ≤ 366 → ms.toNat < 86400000 → ∀ c, s.dispatch.clock = some c →
      let d := forwardFrom c.instant new.instant
      (d = 0 → exec (.setClock day ms) s = s.answers 9 .ok []) ∧
      (15811200000 ≤ d → 31622400000 - d ≤ 60000 → day.toNat = c.day → exec (.setClock day ms) s = .next { s with
        dispatch := { s.dispatch with clock := some new }
        link := { s.link with response := some ⟨9, .ok, []⟩ } }) ∧
      (15811200000 ≤ d → 60000 < 31622400000 - d ∨ day.toNat ≠ c.day → refused) ∧
      (0 < d → d < 15811200000 → ∃ t, exec (.setClock day ms) s = .next t ∧
        t.dispatch.clock = some new ∧ t.link.response = some ⟨9, .ok, []⟩ ∧
        t.loader.mem = s.loader.mem ∧ t.store = s.store ∧ t.plate = s.plate ∧ t.outfeed = s.outfeed) ∧
      (0 < d → d < 15811200000 → s.dispatch.line = [] → s.dispatch.current = none → s.share.openAsk = none →
        s.bus.gives = [] → (∀ p ∈ s.queue.parcels, ∀ day slot, p.dispatch ≠ some (.entry day slot)) →
        let ahead := fun (e : Entry) => forwardFrom c.instant e.instant
        let beyond := fun (r : Ring) => ∀ e ∈ r.entries.head?, d < ahead e
        ((∀ r ∈ s.dispatch.rings, beyond r) → moved s.dispatch.rings s.dispatch.expired s.bus) ∧
        (∀ before ring after e1 e2 e3 g, s.dispatch.rings = before ++ ring :: after → ring.entries = [e1, e2, e3] →
          s.store.image = some g → (∀ r ∈ before ++ after, r.route ≠ ring.route ∧ beyond r) → ahead e1 ≤ d →
          let next := fun (e : Entry) =>
            let n := slotAfter g ring.route e.day e.slot
            newEntry g ring.route n.1 n.2
          let closed := fun (entries : List Entry) (units : Nat) =>
            moved (before ++ { ring with entries := entries } :: after) (satAdd 65535 s.dispatch.expired units)
              (s.bus.waits s.bus.waitFrom s.timer.ms)
          (d < ahead e2 → closed [e2, e3, next e3] e1.held) ∧
          (ahead e2 ≤ d → d < ahead e3 → closed [e3, next e3, next (next e3)] (e1.held + e2.held)))))

/-- SET-TARE and ZERO are refused with BUSY while a record is in a plate state. Otherwise SET-TARE takes the tare carried,
at most 16,000, and ZERO discards the zero and puts band, counts and history in their start positions, keeping the parity
(the model's choice, log entry 27). CLEAR-FLAGS returns the six summary flags and clears them; their bytes are the model's
layout (log entry 5). [sections 1.4, 1.5, 1.12, 3.9] -/
def Obligations.TareZeroAndFlags : Prop :=
  ∀ (s : State) (tare : BitVec 16), s.Ready →
    ((∃ p ∈ s.queue.parcels, p.state = .waitPlate ∨ p.state = .measuring ∨ p.state = .rating ∨ p.state = .seeking) →
      exec (.setTare tare) s = s.answers 10 .busy [] ∧ exec .zero s = s.answers 11 .busy []) ∧
    ((∀ p ∈ s.queue.parcels,
        p.state ≠ .waitPlate ∧ p.state ≠ .measuring ∧ p.state ≠ .rating ∧ p.state ≠ .seeking) →
      exec (.setTare tare) s = .next { s with
        plate := { s.plate with tare := min tare.toNat 16000 }
        link := { s.link with response := some ⟨10, .ok, be16 (min tare.toNat 16000)⟩ } } ∧
      exec .zero s = .next { s with
        plate := { s.plate with
          zero := none, capRun := 0, capFirst := 0, capTotal := 0, lo := -(s.loader.halfWidth : Int), quiet := 0,
          history := [], clear := 0 }
        link := { s.link with response := some ⟨11, .ok, []⟩ } }) ∧
    exec .clearFlags s = .next { s with
      summary := ⟨false, false, false, false, false, false⟩
      link := { s.link with response := some ⟨12, .ok, summaryBytes s.summary⟩ } }

/-- The attention line is asserted just when an unmasked source is active: REPORT-PENDING by its condition alone, every
other source by its latch under the edge choice EDGE and by its condition under LEVEL. A rise of a source that makes
events sets its latch under EDGE, masked or not, and enters a STATION-EVENT with the station clock, and for BUS-STATE the
bus state; with 16 reports waiting the event is lost and counted, and REPORT-LOST rises in its turn. SET-ATTENTION
replaces mask and edge choices and clears the latch of each source whose choice changes; ACK-ATTENTION clears every latch,
EDGE-OVERRUN and REPORT-LOST. The last two return the status as it stands after the change, in the model's layout (log
entry 5). [sections 11.2, 11.3] -/
def Obligations.AttentionSettingsAndLine : Prop :=
  (∀ s : State,
      let shows := fun (k : Nat) (cond : Prop) => s.link.mask.getLsbD k = false ∧
        ((s.link.edge.getLsbD (k - 1) = true ∧ s.link.latch.getLsbD (k - 1) = true) ∨
          (s.link.edge.getLsbD (k - 1) = false ∧ cond))
      (s.attentionLine = true ↔
        (s.link.mask.getLsbD 0 = false ∧ s.link.reports ≠ []) ∨ shows 1 (s.label.printer = .fault) ∨
          shows 2 (s.bus.changed = true) ∨ shows 3 (s.plate.sensorFault = true) ∨ shows 4 (s.outfeed.overrun = true) ∨
          shows 5 (s.peers.changed = true) ∨ shows 6 (s.outfeed.jammed = true) ∨ shows 7 (s.peers.duplicate = true) ∨
          shows 8 (s.link.reportLost = true))) ∧
  (∀ (l : Link) (src : Source) (clock : Option ClockTime) (bus : BusState), src ≠ .reportPending → src ≠ .reportLost →
      let latched := fun (x : BitVec 8) (k : Nat) => if l.edge.getLsbD (k - 1) then x ||| BitVec.twoPow 8 (k - 1) else x
      (l.reports.length < 16 → l.rise src clock bus = { l with
        latch := latched l.latch src.number
        reports := l.reports ++ [.event src clock (if src = .busState then some bus else none)] }) ∧
      (16 ≤ l.reports.length → l.rise src clock bus = { l with
        latch := if l.reportLost then latched l.latch src.number else latched (latched l.latch src.number) 8
        reportLost := true, lost := if 255 ≤ l.lost then 255 else l.lost + 1 })) ∧
  (∀ (s : State) (mask : BitVec 16) (edge : BitVec 8) (payload : List Byte), s.Ready →
      (∃ t, exec (.setAttention mask edge) s = .next t ∧ t = { s with
        link := { s.link with
          mask := mask.setWidth 9, edge := edge, latch := s.link.latch &&& s.link.edge &&& edge,
          response := some ⟨13, .ok, t.attentionBytes⟩ } }) ∧
      (∃ t, exec (.ackAttention payload) s = .next t ∧ t = { s with
        outfeed := { s.outfeed with overrun := false }
        link := { s.link with
          latch := 0, reportLost := false, response := some ⟨14, .ok, t.attentionBytes⟩ } }))

/-- LOAD-TARIFF: BEGIN, CHUNK and END with their refusals in order, what each puts in the staging area, and the write
that END begins for a valid image. The layout of BAD-IMAGE's payload is the model's choice (log entry 5). [sections 2.5,
2.6] -/
def Obligations.LoadTariffCommands : Prop :=
  ∀ (s : State) (bytes : List Byte), s.Ready →
    (s.loader.lockLevel ≠ 0 → exec .loadBegin s = s.answers 15 .locked [] ∧
      exec (.loadChunk bytes) s = s.answers 16 .locked [] ∧ exec .loadEnd s = s.answers 17 .locked []) ∧
    (s.loader.lockLevel = 0 →
      (s.queue.parcels ≠ [] → exec .loadBegin s = s.answers 15 .busy []) ∧
      (s.queue.parcels = [] → exec .loadBegin s = .next { s with
        store := { s.store with staging := .staging, staged := [] }
        link := { s.link with response := some ⟨15, .ok, []⟩ } }) ∧
      (s.store.staging = .idle → exec (.loadChunk bytes) s = s.answers 16 .notReady [] ∧
        exec .loadEnd s = s.answers 17 .notReady []) ∧
      (s.store.staging = .staging →
        (bytes = [] ∨ 128 < bytes.length ∨ 4559 < s.store.staged.length + bytes.length →
          exec (.loadChunk bytes) s = s.answers 16 .range []) ∧
        (bytes ≠ [] → bytes.length ≤ 128 → s.store.staged.length + bytes.length ≤ 4559 →
          exec (.loadChunk bytes) s = .next { s with
            store := { s.store with staged := s.store.staged ++ bytes }
            link := { s.link with response := some ⟨16, .ok, be16 (s.store.staged.length + bytes.length)⟩ } }) ∧
        (∀ f, imageFault s.store.staged = some f → exec .loadEnd s = .next { s with
          store := { s.store with staging := .idle, staged := [], fault := some f }
          link := { s.link with response := some ⟨17, .badImage, imgFaultBytes f⟩ } }) ∧
        (imageFault s.store.staged = none → exec .loadEnd s = .next { s with
          store := { s.store with staging := .storing, fault := none }
          link := { s.link with held := some .loadEnd } })))

/-- IMAGE_STORE_COMPLETE: a matching read-back makes the staged image active and stored, closes every entry into the
expired-units counter, refills the rings when the clock is set, withdraws the unbegun GIVEs, recomputes the peers'
statuses, a change of which raises PEER-CHANGE, and answers END with the edition; a failed one answers STORE and changes
no byte beyond the image's. The payload byte for the absent offset is the model's choice (log entry 5), and so is that a
completion of no write changes nothing (log entry 7). [sections 2.6, 2.7] -/
def Obligations.ImageStoreEnds : Prop :=
  ∀ s : State, s.powered = true → s.MemoriesOk →
    (s.store.staging ≠ .storing → ∀ m, exec (.imageStoreComplete m) s = .next s) ∧
    (s.store.staging = .storing →
      (∃ t, exec (.imageStoreComplete false) s = .next t ∧
        (∀ a, s.store.staged.length ≤ a → t.store.mem.read a = s.store.mem.read a) ∧
        t = { s with
          freeNo := s.freeNo + 1
          store := { s.store with mem := t.store.mem, staging := .idle, staged := [], fault := some ⟨.store, none⟩ }
          link := { s.link with held := none, response := some ⟨17, .badImage, [9, 0]⟩ } }) ∧
      (∃ t, exec (.imageStoreComplete true) s = .next t ∧
        t.store = { s.store with
          mem := t.store.mem, image := some s.store.staged, staging := .idle, staged := [], fault := none } ∧
        (∀ i b, s.store.staged[i]? = some b → t.store.mem.read i = b) ∧
        (∀ a, s.store.staged.length ≤ a → t.store.mem.read a = s.store.mem.read a) ∧
        (s.dispatch.clock = none → t.dispatch = s.dispatch ∧ t.bus = s.bus) ∧
        (∀ c, s.dispatch.clock = some c →
          t.dispatch = { s.dispatch with
            expired := satAdd 65535 s.dispatch.expired ((s.dispatch.rings.flatMap Ring.entries).map Entry.held).sum
            rings := fillRings t.store c.day c.ms } ∧
          (∀ g ∈ t.bus.gives, g.live = false) ∧
          t.bus.gives.map TxGive.giveNo =
            (s.bus.gives.filter (fun g => g.begun || !g.live)).map TxGive.giveNo ∧
          t.bus = s.bus.withoutGives (fun g => g.live) s.timer.ms) ∧
        t.peers.peers = s.peers.peers.map (fun p => if p.status = .silent then p else
          { p with status := if p.edition = t.store.edition ∧ t.store.edition ≠ 0 then .present else .mismatch }) ∧
        t.peers.duplicate = s.peers.duplicate ∧
        (t.peers.changed = true ↔ s.peers.changed = true ∨ t.peers.peers ≠ s.peers.peers) ∧
        t.link = { (if t.peers.peers = s.peers.peers then s.link else
            s.risen s.peers.changed .peerChange s.bus.state) with
          held := none, response := some ⟨17, .ok, be16 (imageEdition s.store.staged)⟩ } ∧
        t = { s with store := t.store, dispatch := t.dispatch, bus := t.bus, peers := t.peers, link := t.link }))

/-- RELEASE-JOIN in HOLD moves the station to ANNOUNCE with a join PRESENCE queued and BUS-STATE risen, and is refused
with NOT-READY in every other bus state. PRINTER-RETRY in FAULT with the line clear sends the next label; it changes
nothing while the line is asserted or in another printer state. [sections 7.1, 10.5] -/
def Obligations.ReleaseJoinAndPrinterRetry : Prop :=
  ∀ s : State, s.Ready →
    (s.bus.state ≠ .hold → exec .releaseJoin s = s.answers 19 .notReady []) ∧
    (s.bus.state = .hold → exec .releaseJoin s = .next { s with
      bus := BusController.waits
        { s.bus with
          state := .announce, changed := true, presence := some (s.bus.presence.getD ⟨true, none, 0⟩), listenDue := none
          gatherDue := none, presenceDue := none, activeDue := none, quietDue := none }
        none s.timer.ms
      link := { s.risen s.bus.changed .busState .announce with response := some ⟨19, .ok, []⟩ } }) ∧
    (s.label.printer ≠ .fault ∨ s.label.faultLine = true →
      exec .printerRetry s = s.answers 20 .ok [BitVec.ofNat 8 s.label.printer.number]) ∧
    (s.label.printer = .fault → s.label.faultLine = false → s.label.slot = none →
      (s.label.printOrder = [] → exec .printerRetry s = .next { s with
        label := { s.label with printer := .idle }
        link := { s.link with response := some ⟨20, .ok, [0]⟩ } }) ∧
      (∀ l rest, s.label.printOrder = l :: rest → exec .printerRetry s = .next { s with
        label := { s.label with
          printOrder := rest, printer := .printing, atPrinter := some l, printDue := some (s.timer.ms + 5000),
          sent := some (l, s.label.eject), eject := false }
        link := { s.link with response := some ⟨20, .ok, [1]⟩ } }))

/-- SET-NEXT-CONFIG refuses a record that fails its test and writes nothing; it asks for the write of one that passes
and is held. CONFIG_WRITE_COMPLETE answers it STORED, the memory and the next-start copy then holding the record, or
STORE-FAILED, the copy then UNKNOWN and no byte outside the record changed. The bytes sent for the two outcomes are the
model's choice (log entry 5), and so is that a completion of no record write changes nothing (log entry 7). [section
11.5] -/
def Obligations.NextConfigWrites : Prop :=
  ∀ (s : State) (record : List Byte),
    (s.Listening → ∀ f, recordFault record = some f →
      exec (.setNextConfig record) s = s.answers 21 .range (cfgFaultBytes f)) ∧
    (s.Listening → recordFault record = none → exec (.setNextConfig record) s = .next { s with
      loader := { s.loader with writes := s.loader.writes ++ [.record record] }
      link := { s.link with held := some .setNext } }) ∧
    (s.powered = true → (∀ r, s.loader.writes.head? ≠ some (.record r)) →
      ∀ m, exec (.configWriteComplete m) s = .next s) ∧
    (∀ rest, s.powered = true → s.MemoriesOk → s.loader.writes = .record record :: rest →
      (∃ t, exec (.configWriteComplete true) s = .next t ∧
        (∀ i b, record[i]? = some b → t.loader.mem.read i = b) ∧
        (∀ a, record.length ≤ a → t.loader.mem.read a = s.loader.mem.read a) ∧
        t = { s with
          loader := { s.loader with mem := t.loader.mem, next := some record, writes := rest }
          link := { s.link with held := none, response := some ⟨21, .ok, [0]⟩ } }) ∧
      (∃ t, exec (.configWriteComplete false) s = .next t ∧
        (∀ a, record.length ≤ a → t.loader.mem.read a = s.loader.mem.read a) ∧
        t = { s with
          freeNo := s.freeNo + 1
          loader := { s.loader with mem := t.loader.mem, next := none, writes := rest }
          link := { s.link with held := none, response := some ⟨21, .ok, [1]⟩ } }))

/-- CELL_WRITE_COMPLETE with no CONFIRM held: a matching read-back puts the seven bytes in the copy and gives the next
write to the other, and clears the cell-fault mark when a day change began the write; a failure sets the serial to 999,999
and the cell-fault mark, keeps the copy's turn, drops the cell writes that wait, and changes no byte outside the copy. The
turn kept, the writes dropped and the day change's write alone clearing the mark are the model's reading (log entry 11). A
held CONFIRM is tested in the same event, when no cell write remains. [section 10.3] -/
def Obligations.CellWriteEnds : Prop :=
  ∀ (s : State) (day blockEnd : Nat) (daily : Bool) (rest : List MemWrite), s.powered = true → s.MemoriesOk →
    s.loader.writes = .cell day blockEnd daily :: rest →
    (s.link.held = none →
      (∃ t, exec (.cellWriteComplete true) s = .next t ∧
        t.loader.mem.readBytes s.label.nextCopy.base 7 = cellBytes day blockEnd ∧
        (∀ a, a < s.label.nextCopy.base ∨ s.label.nextCopy.base + 7 ≤ a →
          t.loader.mem.read a = s.loader.mem.read a) ∧
        t = { s with
          loader := { s.loader with mem := t.loader.mem, writes := rest }
          label := { s.label with
            nextCopy := match s.label.nextCopy with | .a => .b | .b => .a
            cellFault := s.label.cellFault && !daily } }) ∧
      (∃ t, exec (.cellWriteComplete false) s = .next t ∧
        (∀ a, a < s.label.nextCopy.base ∨ s.label.nextCopy.base + 7 ≤ a →
          t.loader.mem.read a = s.loader.mem.read a) ∧
        t = { s with
          freeNo := s.freeNo + 1
          loader := { s.loader with mem := t.loader.mem, writes := rest.filter (fun w => !w.isCell) }
          label := { s.label with serial := s.label.serial.map (fun x => (999999, x.2)), cellFault := true } })) ∧
    (∀ (tag quote : Byte) (matched : Bool), s.loader.station = .running →
      s.link.held = some (.confirm tag.toNat quote.toNat) → (∀ w ∈ rest, w.isCell = false) →
      ∃ t, exec (.cellWriteComplete matched) { s with link := { s.link with held := none } } = .next t ∧
        exec (.cellWriteComplete matched) s = exec (.confirm tag quote) t)

/-! ### The plate and the rating -/

/-- SCAN_STEP at any entry but the last: the conversion that ends is written as its entry's result, the next entry's
begins if it is ENABLED, and the step interval starts again. An expiry that is not due changes nothing (the model's
choice, log entry 7). [section 1.2] -/
def Obligations.ScanStepWithinRound : Prop :=
  ∀ (s : State) (code : BitVec 16), s.powered = true →
    (s.plate.running = false ∨ s.timer.ms * 1000 + s.timer.us < s.plate.stepDue → exec (.scanStep code) s = .next s) ∧
    (s.plate.running = true → s.plate.stepDue ≤ s.timer.ms * 1000 + s.timer.us → s.plate.cur < 7 →
      exec (.scanStep code) s = .next { s with
        plate := { s.plate with
          cur := s.plate.cur + 1, converting := (s.loader.scanned (s.plate.cur + 1)).isSome,
          stepDue := s.plate.stepDue + s.loader.scanStepUs,
          results := match s.plate.converting, s.loader.scanned s.plate.cur with
            | true, some c => s.plate.results.set s.plate.cur (some (convert c code))
            | _, _ => s.plate.results } })

/-- SCAN_STEP at entry 7 writes the last result, closes the round and begins entry 0. The reference check, SENSOR-FAULT,
the weight, the zero capture, the settle band and the plate-clear count are formed, a SENSOR-FAULT that becomes true
rising before any report of the round (log entry 19); at a plate-clear event every NOT-CLEARED mark becomes CLEARED. A
present parcel is handed over to the WAIT-PLATE record, which enters MEASURING with its settled weight. A round of a
measurement is added to it, or spoils it; the eighth hands it over, and meets a VOID of the record that waits as the next
command, which is then refused as one in RATING (log entry 34). The second part gives the values: the check's window, W16, the three
readings, the counts and the means. [sections 1.2, 1.3, 1.4, 1.5, 1.6, 1.7, 1.8] -/
def Obligations.ScanStepClosesRound : Prop :=
  (∀ (s : State) (code : BitVec 16), s.powered = true → s.plate.running = true →
    s.plate.stepDue ≤ s.timer.ms * 1000 + s.timer.us → s.plate.cur = 7 →
    let l := s.loader
    let was : Plate := { s.plate with
      converting := false
      results := match s.plate.converting, l.scanned 7 with
        | true, some c => s.plate.results.set 7 (some (convert c code))
        | _, _ => s.plate.results }
    let weight := was.roundWeight l
    let fault := !was.refPasses l || was.anyFault l
    let closed : Plate := { ((was.capture l).settleStage l weight).clearStage l weight with
      latest := weight, refPassed := some (was.refPasses l), sensorFault := fault }
    let clears := decide (was.clear < closed.clear ∧ closed.clear = l.settleRounds)
    let mark := fun (p : Parcel) => if clears && p.cleared == some false then { p with cleared := some true } else p
    let begun := fun (p : Plate) => { p with
      cur := 0, converting := (l.scanned 0).isSome, stepDue := s.plate.stepDue + l.scanStepUs }
    let u : State := { s with
      plate := closed
      queue := { s.queue with parcels := s.queue.parcels.map mark }
      link := if fault then s.risen s.plate.sensorFault .sensorFault s.bus.state else s.link }
    ((∀ p ∈ s.queue.parcels, p.state ≠ .waitPlate) →
      s.plate.meas = none ∨ (∀ p ∈ s.queue.parcels, p.state ≠ .measuring) →
      exec (.scanStep code) s = .next { u with plate := begun closed }) ∧
    (∀ older p younger, s.plate.meas = none → s.Holds older p younger → p.state = .waitPlate →
      (∀ q ∈ older, q.state ≠ .waitPlate) →
      let settled := closed.settledWeight l
      (closed.quiet < l.settleRounds ∨ settled < l.presenceThreshold →
        exec (.scanStep code) s = .next { u with plate := begun closed }) ∧
      (l.settleRounds ≤ closed.quiet → l.presenceThreshold ≤ settled → exec (.scanStep code) s = .next { u with
        plate := begun { closed with meas := some ⟨0, 0, 0, false, false, false, 0, true⟩ }
        queue := { s.queue with
          parcels := older.map mark ++ { p with
            state := .measuring, weight := some ((settled + 15) / 16, settled), cleared := some false
            plateDue := none } :: younger.map mark } })) ∧
    (∀ older p younger m, s.plate.meas = some m → s.Holds older p younger → p.state = .measuring →
      (∀ q ∈ older, q.state ≠ .measuring) → (∀ q ∈ s.queue.parcels, q.state ≠ .waitPlate) →
      let moved := match weight with
        | .value w => was.moves l w
        | .invalid => false
        | .none => false
      let m' := m.add (was.roundReadings l moved)
      (m'.rounds < 8 → exec (.scanStep code) s = .next { u with plate := begun { closed with meas := some m' } }) ∧
      (8 ≤ m'.rounds →
        let handed := State.measurementHandOver { u with plate := { closed with meas := none } } (mark p) m'.dims
        exec (.scanStep code) s = .next { handed with
          plate := begun { closed with meas := none }
          link := if s.pending.find? (fun c => (encodeMessage c).isSome) = some (.void (BitVec.ofNat 8 p.tag)) ∧
              s.link.held = none then
              { handed.link with metVoid := some p.tag }
            else handed.link }))) ∧
  (∀ (p : Plate) (l : Loader),
    let code := fun (c : Channel) (v : Int) =>
      p.refPasses l = true ∧ ∃ r, p.result l c = some r ∧ r.fault = false ∧ r.code = v
    (p.refPasses l = true ↔ ∃ r, p.result l .ref = some r ∧ r.fault = false ∧ (l.refLo : Int) ≤ r.code ∧
      r.code ≤ (l.refHi : Int)) ∧
    (p.anyFault l = true ↔ ∃ e, e < 8 ∧ l.scanned e ≠ none ∧ ∀ r, p.results.getD e none = some r → r.fault = true) ∧
    (p.zero = none → p.roundWeight l = .none) ∧
    (∀ z, p.zero = some z →
      (∀ a b c d, code .lc0 a → code .lc1 b → code .lc2 c → code .lc3 d → ∃ x : Int,
        8192 * x ≤ 2 * ((a + b + c + d - z) * l.gain) + 4096 ∧
        2 * ((a + b + c + d - z) * l.gain) + 4096 < 8192 * x + 8192 ∧
        p.roundWeight l = .value (x - p.tare).toNat) ∧
      (∀ c ∈ [Channel.lc0, .lc1, .lc2, .lc3], (∀ v, ¬code c v) → p.roundWeight l = .invalid)) ∧
    (∀ c i, (l.entryOf c = none → p.reading l c i = some (0, false)) ∧
      (l.entryOf c ≠ none → (∀ v, ¬code c v) → p.reading l c i = none) ∧
      (∀ v, l.entryOf c ≠ none → code c v → ∃ x : Int, 2000 * x ≤ 2 * (v * l.scale i) + 1000 ∧
        2 * (v * l.scale i) + 1000 < 2000 * x + 2000 ∧
        p.reading l c i = some (if (l.mount i : Int) < x then (0, true)
          else if 2000 < (l.mount i : Int) - x then (2000, true) else (((l.mount i : Int) - x).toNat, false)))) ∧
    (∀ moved, p.refPasses l = false ∨ p.roundWeight l = .invalid ∨ moved = true ∨ p.reading l .dh 0 = none ∨
      p.reading l .dw 1 = none ∨ p.reading l .dl 2 = none → p.roundReadings l moved = none) ∧
    (∀ h w d, p.refPasses l = true → p.roundWeight l ≠ .invalid → p.reading l .dh 0 = some h →
      p.reading l .dw 1 = some w → p.reading l .dl 2 = some d → p.roundReadings l false = some (h, w, d)) ∧
    (∀ w, p.clearStage l (.value w) = { p with
      clear := if l.presenceThreshold ≤ w then 0 else if 255 ≤ p.clear then 255 else p.clear + 1 }) ∧
    p.clearStage l .invalid = { p with clear := 0 } ∧ p.clearStage l .none = { p with clear := 0 } ∧
    (1 ≤ l.settleRounds →
      let total := (p.history.drop (p.history.length - l.settleRounds)).sum
      2 * l.settleRounds * p.settledWeight l ≤ 2 * total + l.settleRounds ∧
      2 * total < 2 * l.settleRounds * p.settledWeight l + l.settleRounds)) ∧
  (∀ (m : Measurement),
    m.add none = { m with valid := false, rounds := m.rounds + 1 } ∧
    (∀ h w d ch cw cd, m.add (some ((h, ch), (w, cw), (d, cd))) = { m with
      accH := m.accH + h, accW := m.accW + w, accL := m.accL + d, clampH := m.clampH || ch, clampW := m.clampW || cw
      clampL := m.clampL || cd, rounds := m.rounds + 1 }) ∧
    (m.valid = false → m.dims = .invalid) ∧
    (m.valid = true → ∃ h w d, m.dims = .mm h w d (m.clampH || m.clampW || m.clampL) ∧
      16 * h ≤ 2 * m.accH + 8 ∧ 2 * m.accH + 8 < 16 * h + 16 ∧ 16 * w ≤ 2 * m.accW + 8 ∧
      2 * m.accW + 8 < 16 * w + 16 ∧ 16 * d ≤ 2 * m.accL + 8 ∧ 2 * m.accL + 8 < 16 * d + 16))

/-- The settle band after a round's weight holds it and keeps its place in whole half-widths; it moves by the fewest that
do, and a move toggles the parity, zeroes the quiet count and empties the history, while a round without one counts and
appends its weight to the history, of which the newest 64 are kept. A round without a weight leaves band and parity,
zeroes the quiet count and empties the history. No other field of the plate changes. [section 1.5] -/
def Obligations.BandFollowsWeight : Prop :=
  ∀ (p : Plate) (l : Loader) (w : Nat), 1 ≤ l.halfWidth → p.quiet ≤ 255 → p.history.length ≤ 64 →
    let q := p.settleStage l (.value w)
    let h : Int := l.halfWidth
    p.settleStage l .invalid = { p with quiet := 0, history := [] } ∧
      p.settleStage l .none = { p with quiet := 0, history := [] } ∧
      q.lo ≤ w ∧ (w : Int) ≤ q.lo + 2 * h ∧
      (∃ k : Int, q.lo = p.lo + k * h) ∧
      (p.lo ≤ w → (w : Int) ≤ p.lo + 2 * h → q = { p with
        quiet := if p.quiet = 255 then 255 else p.quiet + 1
        history := (p.history ++ [w]).drop (p.history.length + 1 - 64) }) ∧
      (p.lo + 2 * h < w → q.lo + h < w) ∧ ((w : Int) < p.lo → (w : Int) < q.lo + h) ∧
      ((w : Int) < p.lo ∨ p.lo + 2 * h < w →
        q = { p with lo := q.lo, parity := !p.parity, quiet := 0, history := [] })

/-- Zero capture: a sum within the window of the run's first sum joins the run, one outside it begins the next run, a
fault ends the run, and the eighth agreeing sum gives the zero, the rounded mean of the run. A captured zero is kept.
[section 1.4] -/
def Obligations.ZeroCaptureRuns : Prop :=
  ∀ (p : Plate) (l : Loader), (p.zero ≠ none → p.capture l = p) ∧ (p.zero = none →
    (p.sum l = none → p.capture l = { p with capRun := 0 }) ∧
    (∀ x, p.sum l = some x →
      (p.capRun = 0 ∨ (l.zeroWindow : Int) < |x - p.capFirst| →
        p.capture l = { p with capRun := 1, capFirst := x, capTotal := x }) ∧
      (p.capRun ≠ 0 → |x - p.capFirst| ≤ (l.zeroWindow : Int) →
        (p.capRun < 7 → p.capture l = { p with capRun := p.capRun + 1, capTotal := p.capTotal + x }) ∧
        (p.capRun = 7 → (p.capture l).capRun = 0 ∧ ∃ z, (p.capture l).zero = some z ∧
          8 * z ≤ p.capTotal + x + 4 ∧ p.capTotal + x + 4 < 8 * z + 8))))

/-- A measurement marked INVALID is rejected with SENSOR, nothing rated. The rating of a measured parcel: its two limits;
the volumetric weight, the least that covers the volume over the divisor; the chargeable weight, the least multiple of the
step at or above the larger weight; beyond the last band's bound, a rejection; otherwise the first band that reaches it,
its step count, the base, the surcharges and fees, the total held to the money range, the price rounded to the currency
step or held below 999,999, and the load. [R43, R44, R45, R46, R47, R48, R49, R50, R52, R53] -/
def Obligations.RatingOfMeasuredParcel : Prop :=
  (∀ (g : List Byte) (x : RatingInput), x.dims = .invalid →
    (rate g x).reject = some .sensor ∧ (rate g x).rating = Rating.empty) ∧
  (∀ (g : List Byte) (x : RatingInput) (a b c : Nat) (clamped : Bool), x.dims = .mm a b c clamped →
    1 ≤ tariffStep g x.service → 1 ≤ tariffBands g x.service → 1 ≤ imageRoundStep g →
    (∀ i j, i < j → j < tariffBands g x.service → bandUpper g x.service i < bandUpper g x.service j) →
    let r := rate g x
    let long := max a (max b c)
    let short := min a (min b c)
    let wide := a + b + c - long - short
    let girth := long + 2 * (wide + short)
    let step := tariffStep g x.service
    let divisor := tariffDivisor g x.service
    let last := bandUpper g x.service (tariffBands g x.service - 1)
    let top := 999999
    (imageMaxWeight g < x.grams → r.reject = some .overweight ∧ r.rating.vg = none ∧ r.rating.price = none) ∧
    (x.grams ≤ imageMaxWeight g → imageMaxSide g < long ∨ imageMaxGirth g < girth →
      r.reject = some .oversizeLimit ∧ r.rating.vg = none ∧ r.rating.price = none) ∧
    (x.grams ≤ imageMaxWeight g → long ≤ imageMaxSide g → girth ≤ imageMaxGirth g → ∃ vg cs,
      r.rating.vg = some vg ∧ r.rating.cs = some cs ∧ r.rating.flags.clamped = clamped ∧
      (r.rating.flags.volumetric = true ↔ x.grams < vg) ∧ (divisor = 0 → vg = 0) ∧
      (1 ≤ divisor → long * wide * short ≤ vg * divisor ∧ vg * divisor < long * wide * short + divisor) ∧
      (∃ k, cs = k * step) ∧ max x.grams vg ≤ cs ∧ cs < max x.grams vg + step ∧
      (last < cs → r.reject = some .beyondTariff ∧ r.rating.price = none) ∧
      (cs ≤ last → r.reject = none ∧ ∃ band steps base remote fee ins total price load rounded,
        let lower := if band = 0 then 0 else bandUpper g x.service (band - 1)
        band < tariffBands g x.service ∧ lower ≤ cs ∧ cs ≤ bandUpper g x.service band ∧
        (∀ i, i < band → bandUpper g x.service i < cs) ∧ r.rating.band = some (band + 1) ∧
        r.rating.steps = some steps ∧ cs ≤ lower + steps * step ∧ lower + steps * step < cs + step ∧
        base = bandPrice g x.service band x.zone + bandAddOn g x.service band x.zone * steps ∧
        r.rating.base = some (min base top) ∧ (x.remote = false → remote = 0) ∧
        (x.remote = true → 200 * remote ≤ 2 * (min base top * imageRemotePct g) + 100 ∧
          2 * (min base top * imageRemotePct g) + 100 < 200 * remote + 200) ∧
        r.rating.remote = some (min remote top) ∧
        (r.rating.flags.oversize = true ↔ imageOversizeThreshold g < girth) ∧
        fee = (if imageOversizeThreshold g < girth then tariffOversizeFee g x.service else 0) ∧
        r.rating.oversizeFee = some (min fee top) ∧
        (x.declared - imageAllowance g) * imageInsuranceRate g ≤ 1000 * ins ∧
        1000 * ins < (x.declared - imageAllowance g) * imageInsuranceRate g + 1000 ∧
        r.rating.insurance = some (min ins top) ∧
        total = min base top + min remote top + min fee top + min ins top ∧
        r.rating.total = some (min total top) ∧
        (∃ k, rounded = k * imageRoundStep g) ∧
        (imageRoundUp g = true → min total top ≤ rounded ∧ rounded < min total top + imageRoundStep g) ∧
        (imageRoundUp g = false → 2 * rounded ≤ 2 * min total top + imageRoundStep g ∧
          2 * min total top < 2 * rounded + imageRoundStep g) ∧
        price = (if rounded ≤ top then rounded else top / imageRoundStep g * imageRoundStep g) ∧
        r.rating.price = some price ∧ (r.rating.flags.rounded = true ↔ price ≠ min total top) ∧
        (r.rating.flags.saturated = true ↔
          top < base ∨ top < remote ∨ top < fee ∨ top < ins ∨ top < total ∨ top < rounded) ∧
        r.rating.load = some load ∧ cs ≤ 100 * load ∧ 100 * load < cs + 100)))

/-- The measurement hand-over, which the SCAN_STEP that closes the eighth dimension round makes. A rating that ends in a
rejection ends the record REJECTED, SENSOR for an INVALID measurement, its PARCEL-END placed, or owed while the report
queue is full. Otherwise, while another booking is current, the record stays in RATING with its request at the tail of the
line, and a VOID of it is refused with NOT-VOIDABLE. With nothing being booked or waiting the record is QUOTED on the
first of its ring's entries with room, with quote 1, the load booked and the QUOTE placed or owed; but an entry short of
room is first asked for when the station is ACTIVE, knows a PRESENT peer and has no ask open, the record then in SEEKING
and the shortfall asked of the hall at once, or held back behind an older ASK frame. With no ask and no room the record is
QUOTED on DEFERRED. All in the one event. Marks still absent are sent as clear ones (log entry 5). [sections 1.8, 3.1,
3.2, 4.5, 4.6, 4.9, 5.3, 8.1] -/
def Obligations.MeasurementHandOverBooks : Prop :=
  ∀ (s : State) (older younger : List Parcel) (p : Parcel) (d : Dims) (g : List Byte), s.Holds older p younger →
    s.store.image = some g →
    let rated := rate g (p.ratingInput d)
    let room := decide (s.link.reports.length < 16)
    let summary := s.summary.after rated
    let reports := fun (r : Report) => if room then s.link.reports ++ [r] else s.link.reports
    let due := if room then s.queue.nextDue else s.queue.nextDue + 1
    let owed := fun (r : Report) => if room then none else some (Owed.mk s.queue.nextDue r)
    (d = .invalid → rated.reject = some .sensor) ∧
    (∀ reason, rated.reject = some reason →
      let report : Report := .parcelEnd p.tag .rejected (some reason) p.quote p.dispatch p.tracking rated.rating.flags
        p.marked
      s.measurementHandOver p d = { s with
        summary := summary
        queue := { s.queue with
          parcels := older ++ (if room then [] else [{ p with
            state := .rejected, dims := some d, rating := rated.rating, outcome := some .rejected, reason := some reason
            plateDue := none, holds := false, owed := owed report }]) ++ younger
          nextDue := due }
        link := { s.link with reports := reports report } }) ∧
    (∀ b load, s.dispatch.current = some b → rated.reject = none → rated.rating.load = some load →
      let waiting : State := { s with
        summary := summary
        queue := { s.queue with
          parcels := older ++ { p with state := .rating, dims := some d, rating := rated.rating } :: younger }
        dispatch := { s.dispatch with line := s.dispatch.line ++ [⟨p.tag, p.route, load, true⟩] } }
      s.measurementHandOver p d = waiting ∧
      (∀ tag : Byte, s.Ready → p.tag = tag.toNat → s.link.metVoid ≠ some p.tag →
        exec (.void tag) waiting = waiting.answers 3 .notVoidable [])) ∧
    (∀ ring e1 e2 e3 load, s.dispatch.current = none → s.dispatch.line = [] → rated.reject = none →
      rated.rating.load = some load → p.quote = none →
      s.dispatch.ring p.route = some ring → ring.entries = [e1, e2, e3] →
      (e1.day, e1.slot) ≠ (e2.day, e2.slot) → (e1.day, e1.slot) ≠ (e3.day, e3.slot) →
      (e2.day, e2.slot) ≠ (e3.day, e3.slot) →
      let free := fun (e : Entry) => e.held - (e.booked + e.reserved)
      let r := rated.rating
      let asks := s.bus.state = .active ∧ (∃ q ∈ s.peers.peers, q.status = .present) ∧ s.share.openAsk = none
      let quoted := fun (b : Booked) (dispatch : DispatchTable) =>
        let report : Report :=
          .quote p.tag 1 p.service p.route b (r.cs.getD 0) load (r.total.getD 0) (r.price.getD 0) r.flags
        s.measurementHandOver p d = { s with
          summary := summary
          queue := { s.queue with
            parcels := older ++ { p with
              state := .quoted, dims := some d, rating := r, quote := some 1, standing := some true, dispatch := some b,
              holds := true, owed := owed report } :: younger
            nextDue := due }
          dispatch := dispatch
          link := { s.link with reports := reports report } }
      let onEntry := fun (e : Entry) => quoted (.entry e.day e.slot)
        (s.dispatch.updateEntry p.route e.day e.slot (fun e => { e with booked := e.booked + load }))
      (load ≤ free e1 → onEntry e1) ∧
      (free e1 < load → ¬asks →
        (load ≤ free e2 → onEntry e2) ∧ (free e2 < load → load ≤ free e3 → onEntry e3) ∧
        (free e2 < load → free e3 < load → quoted .deferred (s.dispatch.updateRing p.route
          (fun r => { r with deferred := satAdd 65535 r.deferred load })))) ∧
      (free e1 < load → asks →
        let wanted := load - free e1
        s.measurementHandOver p d = { s with
          summary := summary
          queue := { s.queue with
            parcels := older ++ { p with state := .seeking, dims := some d, rating := r } :: younger }
          dispatch := { s.dispatch with
            current := some {
              request := ⟨p.tag, p.route, load, true⟩, trial := some (e1.day, e1.slot), tries := 0, asked := true
              asking := true } }
          share := { s.share with
            openAsk := some {
              askNo := s.share.nextAsk, route := p.route, day := e1.day, slot := e1.slot, wanted := wanted, received := 0
              phase := if s.bus.ask = none then .sending else .waiting, windowEnd := 0 }
            nextAsk := if s.share.nextAsk ≥ 255 then 0 else s.share.nextAsk + 1 }
          bus := if s.bus.ask = none then BusController.waits
              { s.bus with
                ask := some {
                  askNo := s.share.nextAsk, route := p.route, day := e1.day, slot := e1.slot, units := wanted
                  begun := false, fails := 0 } }
              s.bus.waitFrom s.timer.ms
            else s.bus }))

/-- PLATE_TIMEOUT of the WAIT-PLATE record 30 s after its ACCEPT: the record ends VOID, its PARCEL-END placed and the
record gone while the report queue has room, and owed by the record otherwise. A VOID of it that arrived together with the
expiry, and so waits as the next command with none held (log entry 34), is met, and when it is taken it is refused with
NOT-VOIDABLE, whether the record has left or not. Before the 30 s the expiry changes nothing (the model's choice, log entry
7). Marks still absent are sent as clear ones (log entry 5). [sections 4.4, 4.9, 4.11] -/
def Obligations.PlateTimeoutVoids : Prop :=
  ∀ (s : State) (older younger : List Parcel) (p : Parcel) (due : Nat), s.powered = true → s.Holds older p younger →
    p.state = .waitPlate → (∀ q ∈ older, q.state ≠ .waitPlate) → p.plateDue = some due →
    let report : Report :=
      .parcelEnd p.tag .void (some .plateTimeout) p.quote p.dispatch p.tracking p.rating.flags p.marked
    let together := s.pending.find? (fun c => (encodeMessage c).isSome) = some (.void (BitVec.ofNat 8 p.tag)) ∧
      s.link.held = none
    let met := if together then some p.tag else s.link.metVoid
    (s.timer.ms < due → exec .plateTimeout s = .next s) ∧
    (due ≤ s.timer.ms → s.link.reports.length < 16 → exec .plateTimeout s = .next { s with
      queue := { s.queue with parcels := older ++ younger }
      link := { s.link with reports := s.link.reports ++ [report], metVoid := met } }) ∧
    (due ≤ s.timer.ms → 16 ≤ s.link.reports.length → exec .plateTimeout s = .next { s with
      queue := { s.queue with
        parcels := older ++ { p with
          state := .void, outcome := some .void, reason := some .plateTimeout, plateDue := none, holds := false,
          owed := some ⟨s.queue.nextDue, report⟩ } :: younger
        nextDue := s.queue.nextDue + 1 }
      link := { s.link with metVoid := met } }) ∧
    (∀ (tag : Byte) (rest : List Instr), due ≤ s.timer.ms → s.Ready → p.tag = tag.toNat → s.pending = .void tag :: rest →
      ∃ t, exec .plateTimeout s = .next t ∧ step t = .next { t with
        pending := rest, link := { t.link with response := some ⟨3, .notVoidable, []⟩, metVoid := none } })

/-! ### The station clock and the cut-off -/

/-- DAY_CHANGE at the last millisecond of a day: the next day, 366 followed by 1, at 0 ms; a resolved serial becomes 0
under the new day and a cell write of block end 100 begins, or is held behind the write in progress in place of a cell
write held there. At any other time it changes nothing (the model's choice, log entries 7 and 22). [sections 5.1, 10.2,
10.3] -/
def Obligations.DayChangeResetsSerial : Prop :=
  ∀ (s : State) (c : ClockTime), s.powered = true → s.dispatch.clock = some c →
    let day := if c.day ≥ 366 then 1 else c.day + 1
    (c.ms ≠ 86399999 → exec .dayChange s = .next s) ∧
    (c.ms = 86399999 → s.label.serial = none → exec .dayChange s = .next { s with
      dispatch := { s.dispatch with clock := some ⟨day, 0⟩ } }) ∧
    (c.ms = 86399999 → s.label.serial ≠ none → exec .dayChange s = .next { s with
      dispatch := { s.dispatch with clock := some ⟨day, 0⟩ }
      label := { s.label with serial := some (0, day) }
      loader := { s.loader with
        writes := match s.loader.writes with
          | [] => [.cell day 100 true]
          | w :: held => w :: (held.filter (fun x => !x.isCell) ++ [.cell day 100 true]) } })

/-- CUT_OFF of a head that the clock has reached, no standing quote on it: its held units are added to the expired-units
counter, its unbegun GIVEs are withdrawn and a begun one loses its reservation, it leaves the ring, and the slot after the
tail's is appended with its initial share. LABEL-PENDING and ON-BELT records booked on it keep the dispatch and hold no
booking. A booking that asks for another entry goes on. An open ask for the head ends, its ASK frame withdrawn if it has
not begun, and its booking, the closed entry counted as tried, is QUOTED on the entry that follows if that has room, and
on DEFERRED when the closed entry is the third. The clock has reached a cut-off that lies less than 183 days behind it, so
a head is closed late too (log entry 22). Before its cut-off instant nothing closes (the model's choice, log entry 7).
[sections 5.1, 5.2, 5.3, 5.5, 8.5] -/
def Obligations.CutOffClosesHead : Prop :=
  ∀ (s : State) (route : Nat) (c : ClockTime) (ring : Ring) (e : Entry) (rest : List Entry) (g : List Byte)
    (tail : Entry),
    s.powered = true → s.dispatch.clock = some c → s.dispatch.ring route = some ring → ring.entries = e :: rest →
    s.store.image = some g → (e :: rest).getLast? = some tail → (∀ r ∈ s.dispatch.rings, r.route = route → r = ring) →
    (15811200000 ≤ forwardFrom e.instant c.instant → exec (.cutOff route) s = .next s) ∧
    (forwardFrom e.instant c.instant < 15811200000 →
      (∀ p ∈ s.queue.parcels, p.route = route → p.dispatch = some (.entry e.day e.slot) →
        ¬(p.state = .quoted ∧ p.standing = some true)) →
      let next := slotAfter g route tail.day tail.slot
      let kept := fun (p : Parcel) =>
        if p.route = route ∧ p.dispatch = some (.entry e.day e.slot) then { p with holds := false } else p
      let bus := s.bus.withoutGives (fun x => x.live && x.route == route && x.day == e.day && x.slot == e.slot) s.timer.ms
      let closed : DispatchTable := { s.dispatch with
        expired := if 65535 < s.dispatch.expired + e.held then 65535 else s.dispatch.expired + e.held
        rings := s.dispatch.rings.map (fun r => if r.route = route then
          { r with
            entries := r.entries.drop 1 ++ [
              {
                day := next.1, slot := next.2, minute := slotMinute g route next.2, held := slotShare g route next.2
                booked := 0, reserved := 0 }] } else r) }
      let askedFor := fun (a : OpenAsk) => a.route = route ∧ a.day = e.day ∧ a.slot = e.slot
      let onHead := fun (b : Booking) => b.request.route = route ∧ b.trial = some (e.day, e.slot)
      ((∀ a, s.share.openAsk = some a → ¬askedFor a) → (s.dispatch.current = none → s.dispatch.line = []) →
        (∀ b, s.dispatch.current = some b → b.asking = true ∧ ¬onHead b) → exec (.cutOff route) s = .next { s with
          queue := { s.queue with parcels := s.queue.parcels.map kept }
          dispatch := closed
          bus := bus }) ∧
      (∀ a b older p younger, s.share.openAsk = some a → askedFor a → s.dispatch.current = some b → b.asking = true →
        onHead b → s.dispatch.line = [] → s.Holds older p younger → p.tag = b.request.tag → s.link.reports.length < 16 →
        let load := b.request.load
        let n := match p.quote with
          | none => 1
          | some n => if n ≥ 255 then 1 else n + 1
        let quoted := fun (on : Booked) (dispatch : DispatchTable) => exec (.cutOff route) s = .next { s with
          queue := { s.queue with
            parcels := older.map kept ++ { p with
              state := .quoted, standing := some true, quote := some n, dispatch := some on, holds := true
              owed := none } :: younger.map kept }
          dispatch := { dispatch with current := none }
          share := { s.share with openAsk := none }
          bus := if a.phase = .sending then bus.withoutAsk s.timer.ms else bus
          link := { s.link with
            reports := s.link.reports ++ [.quote p.tag n p.service p.route on (p.rating.cs.getD 0)
              (p.rating.load.getD 0) (p.rating.total.getD 0) (p.rating.price.getD 0) p.rating.flags] } }
        (∀ e2 more, b.tries < 2 → rest = e2 :: more → load ≤ e2.held - (e2.booked + e2.reserved) →
          quoted (.entry e2.day e2.slot)
            (closed.updateEntry route e2.day e2.slot (fun x => { x with booked := x.booked + load }))) ∧
        (2 ≤ b.tries → quoted .deferred
          (closed.updateRing route (fun r => { r with deferred := satAdd 65535 r.deferred load })))))

/-- The requote: at the closing of the entry of its standing quote the only record, QUOTED on it, is booked in the same
event on the next entry if that has room, with the quote number after its own and the QUOTE for it; its rating is kept.
The ring, the expired-units counter and the GIVEs of the closed entry are as at any closing, and nothing else changes. A
closing up to 183 days late does so too (log entry 22). With a younger record whose booking asks for the closed entry,
both are booked on the next entry, the current booking first, and their QUOTEs become due in queue order, the older
record's first, in one event. [sections 4.7, 5.2, 5.5] -/
def Obligations.CutOffRequotes : Prop :=
  (∀ (s : State) (route : Nat) (c : ClockTime) (ring : Ring) (e e2 tail : Entry) (rest : List Entry) (p : Parcel)
      (g : List Byte) (n load : Nat),
      s.powered = true → s.dispatch.clock = some c → s.dispatch.rings = [ring] → ring.route = route →
      ring.entries = e :: e2 :: rest → (e2 :: rest).getLast? = some tail →
      forwardFrom e.instant c.instant < 15811200000 → s.store.image = some g → s.queue.parcels = [p] →
      p.state = .quoted → p.standing = some true → p.route = route → p.dispatch = some (.entry e.day e.slot) →
      p.quote = some n → p.rating.load = some load → load ≤ e2.held - (e2.booked + e2.reserved) →
      s.share.openAsk = none → s.dispatch.current = none → s.dispatch.line = [] → s.link.reports.length < 16 →
      let next := slotAfter g route tail.day tail.slot
      let quote := if n ≥ 255 then 1 else n + 1
      let closed : DispatchTable := { s.dispatch with
        expired := satAdd 65535 s.dispatch.expired e.held
        rings := [{ ring with
          entries := e2 :: rest ++ [
            {
              day := next.1, slot := next.2, minute := slotMinute g route next.2, held := slotShare g route next.2
              booked := 0, reserved := 0 }] }] }
      exec (.cutOff route) s = .next { s with
        queue := { s.queue with
          parcels := [{ p with
            standing := some true, dispatch := some (.entry e2.day e2.slot), holds := true, owed := none
            quote := some quote }] }
        dispatch := closed.updateEntry route e2.day e2.slot (fun x => { x with booked := x.booked + load })
        bus := s.bus.withoutGives (fun x => x.live && x.route == route && x.day == e.day && x.slot == e.slot) s.timer.ms
        link := { s.link with
          reports := s.link.reports ++ [.quote p.tag quote p.service p.route (.entry e2.day e2.slot) (p.rating.cs.getD 0)
            load (p.rating.total.getD 0) (p.rating.price.getD 0) p.rating.flags] } }) ∧
  (∀ (s : State) (route : Nat) (c : ClockTime) (ring : Ring) (e e2 tail : Entry) (rest : List Entry) (p q : Parcel)
    (g : List Byte) (load : Nat) (b : Booking) (a : OpenAsk),
    s.powered = true → s.dispatch.clock = some c → s.dispatch.rings = [ring] → ring.route = route →
    ring.entries = e :: e2 :: rest → (e2 :: rest).getLast? = some tail →
    forwardFrom e.instant c.instant < 15811200000 → s.store.image = some g → s.queue.parcels = [p, q] → p.tag ≠ q.tag →
    p.state = .quoted → p.standing = some true → p.route = route → p.dispatch = some (.entry e.day e.slot) →
    p.rating.load = some load → q.state = .seeking → s.dispatch.current = some b → b.request.tag = q.tag →
    b.request.route = route → b.asking = true → b.trial = some (e.day, e.slot) → b.tries < 2 →
    s.dispatch.line = [] → s.share.openAsk = some a → a.route = route → a.day = e.day → a.slot = e.slot →
    load + b.request.load ≤ e2.held - (e2.booked + e2.reserved) → s.link.reports.length < 15 →
    let next := slotAfter g route tail.day tail.slot
    let closed : DispatchTable := { s.dispatch with
      current := none
      expired := satAdd 65535 s.dispatch.expired e.held
      rings := [{ ring with
        entries := e2 :: rest ++ [
          {
            day := next.1, slot := next.2, minute := slotMinute g route next.2, held := slotShare g route next.2
            booked := 0, reserved := 0 }] }] }
    let quoted := fun (x : Parcel) => { x with
      state := .quoted, standing := some true, dispatch := some (.entry e2.day e2.slot), holds := true, owed := none
      quote := some (match x.quote with
        | none => 1
        | some n => if n ≥ 255 then 1 else n + 1) }
    let report := fun (x : Parcel) => Report.quote x.tag (x.quote.getD 0) x.service x.route (.entry e2.day e2.slot)
      (x.rating.cs.getD 0) (x.rating.load.getD 0) (x.rating.total.getD 0) (x.rating.price.getD 0) x.rating.flags
    let bus := s.bus.withoutGives (fun x => x.live && x.route == route && x.day == e.day && x.slot == e.slot) s.timer.ms
    exec (.cutOff route) s = .next { s with
      queue := { s.queue with parcels := [quoted p, quoted q] }
      dispatch := closed.updateEntry route e2.day e2.slot (fun x => { x with booked := x.booked + b.request.load + load })
      share := { s.share with openAsk := none }
      bus := if a.phase = .sending then bus.withoutAsk s.timer.ms else bus
      link := { s.link with reports := s.link.reports ++ [report (quoted p), report (quoted q)] } })

/-! ### The hall bus -/

/-- CONTENTION_POINT: in ACTIVE the oldest pending GIVE begins an attempt, else the ASK, else the PRESENCE, whose payload
is fixed when it begins; in ANNOUNCE the PRESENCE alone. A station in OFF, or already sending, is not changed by it; any
other has then observed an idle gap and receives from here on, whether or not it has a frame to send (log entry 18).
LOST_ARBITRATION stops the attempt and counts nothing, and the station waits anew for a contention point. LOST_ARBITRATION
of a station that sends nothing changes nothing (the model's choice, log entry 7). [sections 6.1, 6.3, 6.5, 6.6] -/
def Obligations.ContentionAndArbitration : Prop :=
  ∀ s : State, s.powered = true →
    (∀ k, s.bus.sending = some k → exec .contentionPoint s = .next s ∧
      exec .lostArbitration s = .next { s with
        bus := BusController.waits { s.bus with sending := none } s.bus.waitFrom s.timer.ms }) ∧
    (s.bus.sending = none → exec .lostArbitration s = .next s ∧
      (s.bus.state = .off → exec .contentionPoint s = .next s) ∧
      (s.bus.state ≠ .off → (s.bus.state ≠ .active ∧ s.bus.state ≠ .announce) ∨
        (s.bus.presence = none ∧ (s.bus.state = .announce ∨ (s.bus.gives = [] ∧ s.bus.ask = none))) →
        exec .contentionPoint s = .next { s with bus := { s.bus with observing := true } }) ∧
      (∀ g rest, s.bus.state = .active → s.bus.gives = g :: rest → exec .contentionPoint s = .next { s with
        bus := { s.bus with
          gives := { g with begun := true } :: rest, sending := some .give, waitFrom := none, observing := true } }) ∧
      (∀ a, s.bus.state = .active → s.bus.gives = [] → s.bus.ask = some a → exec .contentionPoint s = .next { s with
        bus := { s.bus with
          ask := some { a with begun := true }, sending := some .ask, waitFrom := none, observing := true } }) ∧
      (∀ p, (s.bus.state = .active ∧ s.bus.gives = [] ∧ s.bus.ask = none) ∨ s.bus.state = .announce →
        s.bus.presence = some p → exec .contentionPoint s = .next { s with
          bus := { s.bus with
            presence := some { p with fixed := some (p.fixed.getD ⟨s.store.edition, s.bus.state.code, s.store.routeCount⟩) }
            sending := some .presence, waitFrom := none, observing := true } }))

/-- A failed attempt before a frame's eighth, by a bit error, a recessive slot on a GIVE, or the busy limit of 50 ms: the
frame and the station each count one more, the attempt ends, and the frame stays in the queue, the wait for a contention
point beginning again. After a bit error the station receives nothing until the next idle gap ends. Before 50 ms nothing
is counted (the model's choice, log entry 7). [sections 6.5, 6.8] -/
def Obligations.FailedAttemptIsCounted : Prop :=
  ∀ s : State, s.powered = true →
    let counted := fun (b : BusController) (r : Host.Outcome State Fault Refusal) => r = .next { s with
      bus := BusController.waits
        { b with
          sending := none
          failedAttempts := if 255 ≤ s.bus.failedAttempts then 255 else s.bus.failedAttempts + 1 }
        none s.timer.ms }
    let byLimit := fun (k : TxKind) =>
      s.bus.chosen = some k ∧ ∃ w, s.bus.waitFrom = some w ∧ w + 50 ≤ s.timer.ms
    (∀ g rest, s.bus.gives = g :: rest → g.fails < 7 →
      let b := { s.bus with gives := { g with fails := g.fails + 1 } :: rest }
      (s.bus.sending = some .give → counted { b with observing := false } (exec .bitError s) ∧
        counted b (exec (.ackSlot false) s)) ∧
      (byLimit .give → counted b (exec .busyLimit s))) ∧
    (∀ a, s.bus.ask = some a → a.fails < 7 →
      let b := { s.bus with ask := some { a with fails := a.fails + 1 } }
      (s.bus.sending = some .ask → counted { b with observing := false } (exec .bitError s)) ∧
      (byLimit .ask → counted b (exec .busyLimit s))) ∧
    (∀ p, s.bus.presence = some p → p.fails < 7 →
      let b := { s.bus with presence := some { p with fails := p.fails + 1 } }
      (s.bus.sending = some .presence → counted { b with observing := false } (exec .bitError s)) ∧
      (byLimit .presence → counted b (exec .busyLimit s))) ∧
    (∀ w, s.bus.waitFrom = some w → s.timer.ms < w + 50 → exec .busyLimit s = .next s)

/-- The eighth failed attempt of a frame, by a bit error, a recessive slot on a GIVE, or the busy limit of 50 ms, fewer
than four frames abandoned in a row: the frame leaves the queue, and the consecutive-abandoned count and the failed
attempts rise. The units of a GIVE leave held and reserved of its open entry and are counted as stranded. The ASK of an
open ask ends it; behind that of an older ask, the frame of the ask held back is queued. After a join PRESENCE in ANNOUNCE
a new one is queued. A frame that is left to offer waits for a contention point from now on. [sections 6.5, 6.6, 7.1, 8.1,
8.3, 5.4] -/
def Obligations.EighthFailureAbandons : Prop :=
  ∀ s : State, s.powered = true → s.bus.consecutive < 3 →
    let now := s.timer.ms
    let abandoned : BusController := { s.bus with
      sending := none, consecutive := s.bus.consecutive + 1
      failedAttempts := if 255 ≤ s.bus.failedAttempts then 255 else s.bus.failedAttempts + 1 }
    let byLimit := fun (k : TxKind) => s.bus.chosen = some k ∧ ∃ w, s.bus.waitFrom = some w ∧ w + 50 ≤ now
    let fails := fun (k : TxKind) (after : Bool → Host.Outcome State Fault Refusal → Prop) =>
      (s.bus.sending = some k → after false (exec .bitError s)) ∧
      (byLimit k → after s.bus.observing (exec .busyLimit s))
    (∀ g rest, s.bus.gives = g :: rest → g.fails = 7 →
      let after := fun (hears : Bool) (r : Host.Outcome State Fault Refusal) => r = .next { s with
        bus := BusController.waits { abandoned with gives := rest, observing := hears } none now
        dispatch := if g.live then
            { s.dispatch.updateEntry g.route g.day g.slot
                (fun e => { e with reserved := e.reserved - g.units, held := e.held - g.units }) with
              stranded := if 65535 < s.dispatch.stranded + g.units then 65535 else s.dispatch.stranded + g.units }
          else s.dispatch }
      fails .give after ∧ (s.bus.sending = some .give → after s.bus.observing (exec (.ackSlot false) s))) ∧
    (∀ f, s.bus.ask = some f → f.fails = 7 → fails .ask (fun hears r =>
      let left := BusController.waits { abandoned with ask := none, observing := hears } none now
      (s.share.openAsk = none → r = .next { s with bus := left }) ∧
      (∀ a, s.share.openAsk = some a → a.phase = .sending → r = .next (State.endAsk { s with bus := left })) ∧
      (∀ a, s.share.openAsk = some a → a.phase = .waiting → r = .next { s with
        share := { s.share with openAsk := some { a with phase := .sending } }
        bus := BusController.waits
          { left with
            ask := some {
              askNo := a.askNo, route := a.route, day := a.day, slot := a.slot, units := a.wanted, begun := false
              fails := 0 } }
          left.waitFrom now }))) ∧
    (∀ p, s.bus.presence = some p → p.fails = 7 → fails .presence (fun hears r => r = .next { s with
      bus := BusController.waits
        { abandoned with
          presence := if p.join = true ∧ s.bus.state = .announce then some ⟨true, none, 0⟩ else none
          observing := hears }
        none now }))

/-- The fourth frame abandoned in a row. A join PRESENCE in ANNOUNCE with nothing else to send: QUIET for 2 s with the
queue empty, the counts as R122 gives them and BUS-STATE risen, or FAILED when the QUIET history stands at 2. A GIVE in
ACTIVE: its units are written off and stranded, those of the GIVEs behind it return to free, and the station is QUIET.
With an ask open in ACTIVE the ask ends in the same event, and its booking, finding no room on the ring's three entries
and asking for none of them, is QUOTED on DEFERRED. BUS-STATE rises before a QUOTE made due in the event (log entry 19).
Whatever frame the event's failed attempt abandons, with room for all of them the QUOTEs that enter the report queue in the
event are those of the records whose quote number changed, each once and in queue order, also when the abandoned ASK's
booking is quoted before the trigger and another by it. [sections 6.5, 6.7, 4.11, 5.4, 8.1, 8.5] -/
def Obligations.FourthAbandonmentIsQuiet : Prop :=
  ∀ s : State, s.powered = true → s.bus.consecutive = 3 →
    let quiet : BusController := { s.bus with
      state := .quiet, quietHistory := s.bus.quietHistory + 1, quietEntries := satAdd 255 s.bus.quietEntries 1
      changed := true, consecutive := 0, failedAttempts := satAdd 255 s.bus.failedAttempts 1, gives := [], ask := none
      presence := none, sending := none, waitFrom := none, listenDue := none, gatherDue := none, presenceDue := none
      activeDue := none, quietDue := some (s.timer.ms + 2000), observing := false }
    (∀ p : TxPresence, s.bus.state = .announce → s.bus.sending = some .presence → s.bus.presence = some p → p.fails = 7 →
      s.bus.gives = [] → s.bus.ask = none → s.share.openAsk = none →
      (s.bus.quietHistory < 2 → exec .bitError s = .next { s with
        bus := quiet
        link := s.risen s.bus.changed .busState .quiet }) ∧
      (s.bus.quietHistory = 2 → exec .bitError s = .next { s with
        bus := { quiet with state := .failed, quietHistory := 2, quietDue := none }
        link := s.risen s.bus.changed .busState .failed })) ∧
    (∀ (g : TxGive) (rest : List TxGive), s.bus.state = .active → s.bus.sending = some .give → s.bus.gives = g :: rest →
      g.fails = 7 → s.bus.quietHistory < 2 → s.share.openAsk = none → s.dispatch.stranded ≤ 65535 →
      let units := fun (gives : List TxGive) (test : TxGive → Bool) =>
        ((gives.filter (fun x => x.live && test x)).map TxGive.units).sum
      let on := fun (route : Nat) (e : Entry) (x : TxGive) => x.route == route && x.day == e.day && x.slot == e.slot
      let gone := g :: rest.filter TxGive.begun
      exec .bitError s = .next { s with
        bus := quiet
        link := s.risen s.bus.changed .busState .quiet
        dispatch := { s.dispatch with
          stranded := min 65535 (s.dispatch.stranded + units gone (fun _ => true))
          rings := s.dispatch.rings.map (fun r => { r with
            entries := r.entries.map (fun e => { e with
              reserved := e.reserved - units (g :: rest) (on r.route e)
              held := e.held - units gone (on r.route e) }) }) } }) ∧
    (∀ (q : TxPresence) (b : Booking) (ring : Ring) (e1 e2 e3 : Entry) (older younger : List Parcel) (p : Parcel),
      s.bus.state = .active → s.bus.sending = some .presence → s.bus.presence = some q → q.fails = 7 → s.bus.gives = [] →
      s.bus.quietHistory < 2 → s.share.openAsk ≠ none → s.dispatch.current = some b → b.asking = true → b.tries = 0 →
      b.trial = some (e1.day, e1.slot) → s.dispatch.line = [] → s.dispatch.ring b.request.route = some ring →
      ring.entries = [e1, e2, e3] → (e1.day, e1.slot) ≠ (e2.day, e2.slot) → (e1.day, e1.slot) ≠ (e3.day, e3.slot) →
      (e2.day, e2.slot) ≠ (e3.day, e3.slot) →
      (∀ e ∈ ring.entries, e.held - (e.booked + e.reserved) < b.request.load) → s.Holds older p younger →
      p.tag = b.request.tag → s.link.reports.length < 15 →
      let n := match p.quote with
        | none => 1
        | some n => if n ≥ 255 then 1 else n + 1
      let link := s.risen s.bus.changed .busState .quiet
      exec .bitError s = .next { s with
        bus := quiet
        share := { s.share with openAsk := none }
        dispatch := { s.dispatch.updateRing b.request.route
          (fun r => { r with deferred := satAdd 65535 r.deferred b.request.load }) with current := none }
        queue := { s.queue with
          parcels := older ++ { p with
            state := .quoted, standing := some true, quote := some n, dispatch := some .deferred, holds := true
            owed := none } :: younger }
        link := { link with
          reports := link.reports ++ [.quote p.tag n p.service p.route .deferred (p.rating.cs.getD 0)
            (p.rating.load.getD 0) (p.rating.total.getD 0) (p.rating.price.getD 0) p.rating.flags] } }) ∧
    (∀ c ∈ [Instr.bitError, .ackSlot false, .busyLimit], s.queue.parcels.length ≤ 6 → s.link.reports.length ≤ 9 →
      ∃ t new, exec c s = .next t ∧ t.link.reports = s.link.reports ++ new ∧
        new.filterMap (fun | .quote tag n .. => some (tag, some n) | _ => none) =
          ((s.queue.parcels.zip t.queue.parcels).filter (fun x => x.1.quote != x.2.quote)).map
            (fun x => (x.2.tag, x.2.quote)))

/-- ACK_SLOT: an acknowledged GIVE leaves by transfer, if its entry is still open, and raises the target's units given; an
acknowledged ASK opens its window; the end of an older ASK frame queues that of an ask held back behind it; an unheard
PRESENCE is counted; a join PRESENCE that ends acknowledged or unheard in ANNOUNCE leads to GATHER and raises BUS-STATE.
Each zeroes the consecutive-abandoned count, and a frame that is left to offer waits from now on. While nothing is sent it
changes nothing (the model's choice, log entry 7). [sections 6.5, 6.6, 7.1, 8.1, 8.3] -/
def Obligations.AckSlotCompletesFrames : Prop :=
  ∀ s : State, s.powered = true →
    let began := fun (b : BusController) => b.waits none s.timer.ms
    (∀ d, s.bus.sending = none → exec (.ackSlot d) s = .next s) ∧
    (∀ g rest, s.bus.sending = some .give → s.bus.gives = g :: rest →
      exec (.ackSlot true) s = .next { s with
        bus := began { s.bus with gives := rest, sending := none, consecutive := 0 }
        dispatch := if g.live then s.dispatch.updateEntry g.route g.day g.slot
            (fun e => { e with reserved := e.reserved - g.units, held := e.held - g.units })
          else s.dispatch
        peers := { s.peers with
          peers := s.peers.peers.map (fun p => if p.station = g.target then
            { p with given := if 65535 < p.given + g.units then 65535 else p.given + g.units } else p) } }) ∧
    (∀ f a, s.bus.sending = some .ask → s.bus.ask = some f → s.share.openAsk = some a → a.phase = .sending →
      exec (.ackSlot true) s = .next { s with
        bus := began { s.bus with ask := none, sending := none, consecutive := 0 }
        share := { s.share with
          openAsk := some { a with phase := .window, windowEnd := s.timer.ms + s.loader.askWindow } } }) ∧
    (∀ f a d, s.bus.sending = some .ask → s.bus.ask = some f → s.share.openAsk = some a → a.phase = .waiting →
      exec (.ackSlot d) s = .next { s with
        bus := began { s.bus with
          sending := none, consecutive := 0
          ask := some {
            askNo := a.askNo, route := a.route, day := a.day, slot := a.slot, units := a.wanted, begun := false
            fails := 0 } }
        share := { s.share with openAsk := some { a with phase := .sending } } }) ∧
    (∀ p d, s.bus.sending = some .presence → s.bus.presence = some p → (p.join = false ∨ s.bus.state ≠ .announce) →
      exec (.ackSlot d) s = .next { s with
        bus := began { s.bus with
          presence := none, sending := none, consecutive := 0
          unheardPresence := if d then s.bus.unheardPresence else satAdd 255 s.bus.unheardPresence 1 } }) ∧
    (∀ p d, s.bus.sending = some .presence → s.bus.presence = some p → p.join = true → s.bus.state = .announce →
      exec (.ackSlot d) s = .next { s with
        bus := { s.bus with
          state := .gather, changed := true, presence := none, sending := none, consecutive := 0, waitFrom := none
          unheardPresence := if d then s.bus.unheardPresence else satAdd 255 s.bus.unheardPresence 1
          listenDue := none, presenceDue := none, activeDue := none, quietDue := none
          gatherDue := some (s.timer.ms + s.loader.gatherWindow) }
        link := s.risen s.bus.changed .busState .gather })

/-- The bus timers, each at its expiry in its own state: QUIET to LISTEN; LISTEN to HOLD or ANNOUNCE; GATHER to ACTIVE,
each of these raising BUS-STATE; the 60 s of ACTIVE clear the QUIET history; the presence timer queues a PRESENCE. A state
change ends the wait for a contention point, and a PRESENCE that may be sent begins it where none goes on. [sections 6.7,
7.1] -/
def Obligations.BusTimersAtExpiry : Prop :=
  ∀ (s : State) (due : Nat), s.powered = true → due ≤ s.timer.ms →
    let now := s.timer.ms
    let began := fun (b : BusController) => b.waits none now
    let idle : BusController := { s.bus with
      changed := true, listenDue := none, gatherDue := none, presenceDue := none, activeDue := none, quietDue := none }
    (s.bus.state = .quiet → s.bus.quietDue = some due → exec .quietExpiry s = .next { s with
      bus := { idle with
        state := .listen, listenDue := some (now + s.loader.presenceInterval), waitFrom := none }
      link := s.risen s.bus.changed .busState .listen }) ∧
    (s.bus.state = .listen → s.bus.listenDue = some due → exec .listenTimerExpiry s = .next { s with
      bus := began { idle with
        state := if s.loader.holdAtJoin then .hold else .announce
        presence := if s.loader.holdAtJoin then s.bus.presence else some (s.bus.presence.getD ⟨true, none, 0⟩) }
      link := s.risen s.bus.changed .busState (if s.loader.holdAtJoin then .hold else .announce) }) ∧
    (s.bus.state = .gather → s.bus.gatherDue = some due → exec .gatherTimerExpiry s = .next { s with
      bus := began { idle with
        state := .active, presence := some (s.bus.presence.getD ⟨false, none, 0⟩)
        presenceDue := some (now + s.loader.presenceInterval), activeDue := some (now + 60000) }
      link := s.risen s.bus.changed .busState .active }) ∧
    (s.bus.state = .active → s.bus.activeDue = some due → exec .activeTimerExpiry s = .next { s with
      bus := { s.bus with quietHistory := 0, activeDue := none } }) ∧
    (s.bus.state = .active → s.bus.presenceDue = some due → exec .presenceTimerExpiry s = .next { s with
      bus := BusController.waits { s.bus with
        presence := some (s.bus.presence.getD ⟨false, none, 0⟩)
        presenceDue := some (now + s.loader.presenceInterval) } s.bus.waitFrom now })

/-- SILENCE_TIMER_EXPIRY three presence intervals after a peer's last frame makes its entry SILENT and stops its timer,
raising PEER-CHANGE if its status was another; before then it changes nothing (the model's choice, log entry 7). A frame
that is not well-formed is not acknowledged and counts for nothing. A station in OFF, one that sends, and one that has not
observed an idle gap to its end since its start or its last bit error receives no frame at all. [sections 7.2, 6.1, 6.4,
6.8] -/
def Obligations.SilenceAndDiscardedFrames : Prop :=
  ∀ (s : State) (station : Nat) (p : Peer) (bytes : List Byte), s.powered = true →
    (s.peers.peers.find? (fun q => q.station == station) = some p →
      (s.timer.ms < p.heardMs + 3 * s.loader.presenceInterval → exec (.silenceTimerExpiry station) s = .next s) ∧
      (p.heardMs + 3 * s.loader.presenceInterval ≤ s.timer.ms → p.timing = true →
        exec (.silenceTimerExpiry station) s = .next { s with
          peers := { s.peers with
            peers := s.peers.peers.map (fun q => if q.station = station then
              { q with status := .silent, timing := false } else q)
            changed := s.peers.changed || p.status != .silent }
          link := if p.status = .silent then s.link else s.risen s.peers.changed .peerChange s.bus.state })) ∧
    (s.bus.state ≠ .off → s.bus.sending = none → s.bus.observing = true → Frame.parse bytes = none →
      exec (.frameNotWellFormed bytes) s = .next { s with bus := { s.bus with slotDriven := false } }) ∧
    (s.bus.state = .off ∨ s.bus.sending ≠ none ∨ s.bus.observing = false →
      exec (.frameNotWellFormed bytes) s = .next s ∧
      (∀ a b j c d, exec (.presenceReceived a b j c d) s = .next s) ∧
      (∀ a b c d e f, exec (.askReceived a b c d e f) s = .next s) ∧
      (∀ a b c d e f g h, exec (.giveReceived a b c d e f g h) s = .next s))

/-- PRESENCE_RECEIVED from another station: an entry is created, or its reported fields, status and timer are set; a join
PRESENCE forgets the last give number, and an ACTIVE station answers it with a PRESENCE. A new entry and a change of
status raise PEER-CHANGE. Broadcasts are acknowledged in GATHER and ACTIVE alone. [sections 7.1, 7.2, 6.4] -/
def Obligations.PresenceReceivedSetsPeer : Prop :=
  ∀ (s : State) (sender edition : Nat) (join : Bool) (code routes : Nat), s.powered = true → s.bus.state ≠ .off →
    s.bus.sending = none → s.bus.observing = true → 1 ≤ sender → sender ≤ 32 → sender ≠ s.loader.stationNo →
    edition ≤ 65535 → code ≤ 7 → routes ≤ 16 →
    let status : PeerStatus := if edition = s.store.edition ∧ s.store.edition ≠ 0 then .present else .mismatch
    let same := ∃ q, s.peers.peers.find? (fun q => q.station == sender) = some q ∧ q.status = status
    ∃ t, exec (.presenceReceived sender edition join code routes) s = .next t ∧
      ((∀ q ∈ s.peers.peers, q.station ≠ sender) → ∃ before after, s.peers.peers = before ++ after ∧
        (∀ q ∈ before, q.station < sender) ∧ (∀ q ∈ after.head?, sender < q.station) ∧
        t.peers.peers = before ++ {
          station := sender, edition := edition, status := status,
          lastHeard := s.dispatch.clock, heardMs := s.timer.ms, timing := true, routeCount := routes, busCode := code,
          lastGive := none, given := 0, received := 0 } :: after) ∧
      ((∃ q ∈ s.peers.peers, q.station = sender) → t.peers.peers = s.peers.peers.map (fun q => if q.station = sender then
        { q with
          edition := edition, status := status, lastHeard := s.dispatch.clock, heardMs := s.timer.ms, timing := true,
          routeCount := routes, busCode := code, lastGive := if join then none else q.lastGive } else q)) ∧
      (same → t.peers.changed = s.peers.changed ∧ t.link = s.link) ∧
      (¬same → t.peers.changed = true ∧ t.link = s.risen s.peers.changed .peerChange s.bus.state) ∧
      t = { s with
        peers := { s.peers with peers := t.peers.peers, changed := t.peers.changed }
        link := t.link
        bus := if join && s.bus.state == .active then
            BusController.waits
              { s.bus with slotDriven := true, presence := some (s.bus.presence.getD ⟨false, none, 0⟩) }
              s.bus.waitFrom s.timer.ms
          else { s.bus with slotDriven := s.bus.state == .gather || s.bus.state == .active } }

/-- ASK_RECEIVED from a known peer refreshes its entry. In ACTIVE, from a PRESENT peer, for an open dispatch with room to
spare, no own ask for it and fewer than four GIVEs pending, the smaller of the units wanted and the spare is reserved, and
a GIVE with the next give number is queued; otherwise nothing else changes. [sections 8.2, 7.2] -/
def Obligations.AskReceivedIsAnswered : Prop :=
  ∀ (s : State) (p : Peer) (sender askNo route day slot units : Nat), s.powered = true →
    s.bus.state ≠ .off → s.bus.sending = none → s.bus.observing = true → sender ≠ s.loader.stationNo →
    (Frame.ask sender askNo route day slot units).wf = true → s.peers.find sender = some p →
    let keep := (s.store.image.map (fun g => routeKeepBack g route)).getD 0
    let spare := fun (e : Entry) => e.held - (e.booked + e.reserved) - keep
    let ownAsk := ∃ a, s.share.openAsk = some a ∧ a.route = route ∧ a.day = day ∧ a.slot = slot
    let answers := s.bus.state = .active ∧ p.status = .present ∧ ¬ownAsk ∧ s.bus.gives.length < 4
    let heard : PeerTable := { s.peers with
      peers := s.peers.peers.map (fun q => if q.station = sender then
        { q with lastHeard := s.dispatch.clock, heardMs := s.timer.ms, timing := true } else q) }
    (∀ e, s.dispatch.entry route day slot = some e → answers → 0 < spare e →
      let m := min units (spare e)
      exec (.askReceived sender askNo route day slot units) s = .next { s with
        dispatch := s.dispatch.updateEntry route day slot (fun e => { e with reserved := e.reserved + m })
        share := { s.share with nextGive := if s.share.nextGive ≥ 255 then 0 else s.share.nextGive + 1 }
        bus := BusController.waits
          { s.bus with
            slotDriven := true
            gives := s.bus.gives ++ [
              {
                target := sender, askNo := askNo, giveNo := s.share.nextGive, route := route, day := day, slot := slot
                units := m, begun := false, fails := 0, live := true }] }
          s.bus.waitFrom s.timer.ms
        peers := heard }) ∧
    (¬answers ∨ s.dispatch.entry route day slot = none ∨
        (∃ e, s.dispatch.entry route day slot = some e ∧ spare e = 0) →
      exec (.askReceived sender askNo route day slot units) s = .next { s with
        bus := { s.bus with slotDriven := s.bus.state == .gather || s.bus.state == .active }
        peers := heard })

/-- GIVE_RECEIVED: from an unknown sender it is counted alone; one addressed to another station, or met in a state other
than ACTIVE, refreshes its sender's entry alone, and so does a repeat. A new one addressed here in ACTIVE is remembered
and its units are added to the open entry, those above 65,535 and those of a dispatch not open to the expired-units
counter. One that matches the open ask raises its units received, leaving the ask open while they fall short; any other is
a late give. [sections 8.4, 7.2, 5.4] -/
def Obligations.GiveReceivedCases : Prop :=
  ∀ (s : State) (sender target askNo giveNo route day slot units : Nat), s.powered = true → s.bus.state ≠ .off →
    s.bus.sending = none → s.bus.observing = true → sender ≠ s.loader.stationNo →
    (Frame.give sender target askNo giveNo route day slot units).wf = true →
    let event := exec (.giveReceived sender target askNo giveNo route day slot units) s
    let taken := s.bus.state = .active ∧ target = s.loader.stationNo
    let heard := fun (f : Peer → Peer) => { s.peers with
      peers := s.peers.peers.map (fun q => if q.station = sender then
        f { q with lastHeard := s.dispatch.clock, heardMs := s.timer.ms, timing := true } else q) }
    let bus := { s.bus with slotDriven := s.bus.state == .active && target == s.loader.stationNo }
    (s.peers.find sender = none → event = .next { s with
      bus := { bus with unknownSender := satAdd 255 s.bus.unknownSender 1 } }) ∧
    (∀ p, s.peers.find sender = some p → ¬taken ∨ p.lastGive = some giveNo → event = .next { s with
      bus := bus
      peers := heard id }) ∧
    (∀ p, s.peers.find sender = some p → taken → p.lastGive ≠ some giveNo →
      let accepted := fun (share : ShareAgent) (dispatch : DispatchTable) => event = .next { s with
        bus := bus
        peers := heard (fun q => { q with lastGive := some giveNo, received := satAdd 65535 q.received units })
        share := share
        dispatch := dispatch }
      let applied := fun (share : ShareAgent) =>
        (∀ e, s.dispatch.entry route day slot = some e → accepted share
          { s.dispatch.updateEntry route day slot (fun e => { e with held := satAdd 65535 e.held units }) with
            expired := satAdd 65535 s.dispatch.expired (e.held + units - 65535) }) ∧
        (s.dispatch.entry route day slot = none → accepted share
          { s.dispatch with expired := satAdd 65535 s.dispatch.expired units })
      ((∀ a, s.share.openAsk = some a → ¬(a.askNo = askNo ∧ a.route = route ∧ a.day = day ∧ a.slot = slot)) →
        applied { s.share with late := satAdd 255 s.share.late 1 }) ∧
      (∀ a, s.share.openAsk = some a → a.askNo = askNo ∧ a.route = route ∧ a.day = day ∧ a.slot = slot →
        satAdd 65535 a.received units < a.wanted →
        applied { s.share with openAsk := some { a with received := satAdd 65535 a.received units } }))

/-- A well-formed frame with this station's own number, of any kind, received in any state but OFF. DUPLICATE becomes
true, if it was false, with its STATION-EVENT, and no peer entry changes; in FAILED nothing else does. In any other state
the station enters FAILED with its queue empty and its timers stopped: the units of a GIVE whose frame had begun are
written off and stranded, those of the others return to free, the open ask ends and its booking goes on, and BUS-STATE
rises after it (log entry 19). [sections 7.4, 6.7, 8.5] -/
def Obligations.OwnNumberHeardIsDuplicate : Prop :=
  ∀ (s : State) (c : Instr) (f : Frame), s.powered = true → s.bus.state ≠ .off → s.bus.sending = none →
    s.bus.observing = true → f.wf = true → f.sender = s.loader.stationNo →
    (match f with
      | .give a b d e g h i j => c = .giveReceived a b d e g h i j
      | .ask a b d e g h => c = .askReceived a b d e g h
      | .presence a b j d e => c = .presenceReceived a b (j == 1) d e) →
    let drives := match f with
      | .give _ target _ _ _ _ _ _ => s.bus.state == .active && target == s.loader.stationNo
      | .ask .. => s.bus.state == .gather || s.bus.state == .active
      | .presence .. => s.bus.state == .gather || s.bus.state == .active
    let noticed := s.risen s.peers.duplicate .duplicate s.bus.state
    (s.bus.state = .failed → exec c s = .next { s with
      peers := { s.peers with duplicate := true }
      link := noticed
      bus := { s.bus with slotDriven := false } }) ∧
    (s.bus.state ≠ .failed → s.peers.duplicate = false → s.dispatch.stranded ≤ 65535 →
      let units := fun (test : TxGive → Bool) => ((s.bus.gives.filter (fun x => x.live && test x)).map TxGive.units).sum
      let on := fun (route : Nat) (e : Entry) (x : TxGive) => x.route == route && x.day == e.day && x.slot == e.slot
      let emptied : State := { s with
        peers := { s.peers with duplicate := true }
        link := noticed
        bus := { s.bus with
          state := .failed, gives := [], ask := none, presence := none, waitFrom := none, slotDriven := drives
          listenDue := none, gatherDue := none, presenceDue := none, activeDue := none, quietDue := none }
        dispatch := { s.dispatch with
          stranded := min 65535 (s.dispatch.stranded + units TxGive.begun)
          rings := s.dispatch.rings.map (fun r => { r with
            entries := r.entries.map (fun e => { e with
              reserved := e.reserved - units (on r.route e)
              held := e.held - units (fun x => x.begun && on r.route e x) }) }) } }
      let failed := emptied.endAsk
      (s.share.openAsk = none → failed = emptied) ∧
      exec c s = .next { failed with
        bus := { failed.bus with changed := true }
        link := if s.bus.changed then failed.link else failed.link.rise .busState s.dispatch.clock .failed })

/-- What ends an ask, and what its end does. ASK_WINDOW_EXPIRY at the window's end, an ASK frame that ends unheard, and a
GIVE that brings the units received to those wanted each end the open ask; before its end a window's expiry changes
nothing (the model's choice, log entry 7). The ask ceases, its frame withdrawn if it has not begun, and its booking tries
the entry once more. With room there the record is QUOTED on it. Otherwise it rolls: to the next entry, on which it is
QUOTED with room, or which it asks for in its turn while the station is ACTIVE, knows a PRESENT peer and, for a requote,
no other record is in a plate state; and from the last entry of three to DEFERRED. [sections 8.1, 5.3] -/
def Obligations.AskEndsAndBookingRetries : Prop :=
  (∀ (s : State) (a : OpenAsk), s.powered = true → s.share.openAsk = some a →
    (a.phase = .window → s.timer.ms < a.windowEnd → exec .askWindowExpiry s = .next s) ∧
    (a.phase = .window → a.windowEnd ≤ s.timer.ms → exec .askWindowExpiry s = .next s.endAsk) ∧
    (∀ f, a.phase = .sending → s.bus.sending = some .ask → s.bus.ask = some f →
      exec (.ackSlot false) s = .next (State.endAsk { s with
        bus := BusController.waits { s.bus with ask := none, sending := none, consecutive := 0 } none s.timer.ms })) ∧
    (∀ p e sender giveNo units, s.bus.state = .active → s.bus.sending = none → s.bus.observing = true →
      sender ≠ s.loader.stationNo → s.peers.find sender = some p → p.lastGive ≠ some giveNo →
      (Frame.give sender s.loader.stationNo a.askNo giveNo a.route a.day a.slot units).wf = true →
      s.dispatch.entry a.route a.day a.slot = some e → a.wanted ≤ satAdd 65535 a.received units →
      exec (.giveReceived sender s.loader.stationNo a.askNo giveNo a.route a.day a.slot units) s =
        .next (State.endAsk { s with
          bus := { s.bus with slotDriven := true }
          share := { s.share with openAsk := some { a with received := satAdd 65535 a.received units } }
          dispatch := { s.dispatch.updateEntry a.route a.day a.slot
              (fun e => { e with held := satAdd 65535 e.held units }) with
            expired := satAdd 65535 s.dispatch.expired (e.held + units - 65535) }
          peers := { s.peers with
            peers := s.peers.peers.map (fun q => if q.station = sender then
              { q with
                lastHeard := s.dispatch.clock, heardMs := s.timer.ms, timing := true, lastGive := some giveNo
                received := satAdd 65535 q.received units } else q) } }))) ∧
  (∀ (s : State) (a : OpenAsk) (b : Booking) (older younger : List Parcel) (p : Parcel) (ring : Ring)
    (before after : List Entry) (e : Entry), s.share.openAsk = some a →
    s.dispatch.current = some b → b.asking = true → b.asked = true → b.trial = some (e.day, e.slot) → s.dispatch.line = [] →
    s.dispatch.ring b.request.route = some ring → ring.entries = before ++ e :: after →
    ((before ++ e :: after).map (fun x => (x.day, x.slot))).Nodup → s.Holds older p younger → p.tag = b.request.tag →
    s.link.reports.length < 16 →
    let load := b.request.load
    let free := fun (x : Entry) => x.held - (x.booked + x.reserved)
    let n := match p.quote with
      | none => 1
      | some n => if n ≥ 255 then 1 else n + 1
    let asks := s.bus.state = .active ∧ (∃ q ∈ s.peers.peers, q.status = .present) ∧
      (b.request.rated = true ∨ ∀ q ∈ older ++ younger, q.state.onPlate = false)
    let left := if a.phase = .sending then s.bus.withoutAsk s.timer.ms else s.bus
    let quoted := fun (on : Booked) (dispatch : DispatchTable) =>
      s.endAsk = { s with
        share := { s.share with openAsk := none }
        bus := left
        dispatch := { dispatch with current := none }
        queue := { s.queue with
          parcels := older ++ { p with
            state := .quoted, standing := some true, quote := some n, holds := true, owed := none
            dispatch := some on } :: younger }
        link := { s.link with
          reports := s.link.reports ++ [.quote p.tag n p.service p.route on (p.rating.cs.getD 0)
            (p.rating.load.getD 0) (p.rating.total.getD 0) (p.rating.price.getD 0) p.rating.flags] } }
    let onEntry := fun (x : Entry) => quoted (.entry x.day x.slot)
      (s.dispatch.updateEntry b.request.route x.day x.slot (fun x => { x with booked := x.booked + load }))
    (b.tries < 3 → load ≤ free e → onEntry e) ∧
    (∀ e2 rest, b.tries < 2 → free e < load → after = e2 :: rest →
      (load ≤ free e2 → onEntry e2) ∧
      (free e2 < load → asks →
        let wanted := load - free e2
        s.endAsk = { s with
          share := { s.share with
            openAsk := some {
              askNo := s.share.nextAsk, route := b.request.route, day := e2.day, slot := e2.slot, wanted := wanted
              received := 0, phase := if left.ask = none then .sending else .waiting, windowEnd := 0 }
            nextAsk := if s.share.nextAsk ≥ 255 then 0 else s.share.nextAsk + 1 }
          bus := if left.ask = none then BusController.waits
              { left with
                ask := some {
                  askNo := s.share.nextAsk, route := b.request.route, day := e2.day, slot := e2.slot, units := wanted
                  begun := false, fails := 0 } }
              left.waitFrom s.timer.ms
            else left
          dispatch := { s.dispatch with
            current := some { b with
              trial := some (e2.day, e2.slot), tries := b.tries + 1, asked := true, asking := true } }
          queue := { s.queue with parcels := older ++ { p with state := .seeking } :: younger } })) ∧
    (b.tries < 3 → free e < load → after = [] →
      quoted .deferred (s.dispatch.updateRing b.request.route
        (fun r => { r with deferred := satAdd 65535 r.deferred load }))))

/-! ### The outfeed and the printer -/

/-- EDGE_CAPTURE: a change of the beam is captured with the encoder count and capture timer as they stand, and in
CONFIG-FAULT is not. With nothing held and nothing queued it enters the holding record: a BREAK that must wait for room
stays there, and any other edge is taken in the same event, as TAKE_BREAK and TAKE_MAKE take it. Behind a BREAK that waits
for room it joins the tail of the queue; with 8 queued it is dropped, counted, and EDGE-OVERRUN becomes true, its rise
noticed. A MAKE that meets nothing queued and no open parcel is an orphan. An event without a change of the beam changes
nothing (the model's choice, log entry 7). [sections 9.2, 9.3] -/
def Obligations.EdgeCaptureQueues : Prop :=
  ∀ (s : State) (kind : EdgeKind), s.powered = true →
    let beam : Beam := match kind with | .brk => .broken | .make => .made
    (s.outfeed.beam = beam → exec (.edgeCapture kind) s = .next s) ∧
    (s.outfeed.beam ≠ beam → s.loader.station = .configFault →
      exec (.edgeCapture kind) s = .next { s with outfeed := { s.outfeed with beam := beam } }) ∧
    (∀ h, s.outfeed.beam ≠ beam → s.loader.station = .running → s.outfeed.holding = some h → h.kind = .brk →
      s.outfeed.pendingClear ≠ [] ∨ 6 < s.outfeed.actions.length →
      (s.outfeed.edges.length < 8 → exec (.edgeCapture kind) s = .next { s with
        outfeed := { s.outfeed with
          beam := beam, edges := s.outfeed.edges ++ [⟨kind, s.outfeed.encoder, s.outfeed.capture⟩] } }) ∧
      (8 ≤ s.outfeed.edges.length → exec (.edgeCapture kind) s = .next { s with
        outfeed := { s.outfeed with
          beam := beam, overrun := true, dropped := if 255 ≤ s.outfeed.dropped then 255 else s.outfeed.dropped + 1 }
        link := s.risen s.outfeed.overrun .edgeOverrun s.bus.state })) ∧
    (s.outfeed.beam ≠ beam → s.loader.station = .running → s.outfeed.holding = none → s.outfeed.edges = [] →
      let held : State := { s with
        outfeed := { s.outfeed with
          beam := beam, holding := some ⟨kind, s.outfeed.encoder, s.outfeed.capture⟩ } }
      (kind = .brk → s.outfeed.pendingClear ≠ [] ∨ 6 < s.outfeed.actions.length →
        exec (.edgeCapture kind) s = .next held) ∧
      (kind = .brk → s.outfeed.pendingClear = [] → s.outfeed.actions.length ≤ 6 →
        exec (.edgeCapture kind) s = exec .takeBreak held) ∧
      (kind = .make → exec (.edgeCapture kind) s = exec .takeMake held)) ∧
    (kind = .make → s.outfeed.beam = .broken → s.loader.station = .running → s.outfeed.holding = none →
      s.outfeed.edges = [] → s.outfeed.openParcel = none → exec (.edgeCapture kind) s = .next { s with
        outfeed := { s.outfeed with
          beam := .made, orphans := if 255 ≤ s.outfeed.orphans then 255 else s.outfeed.orphans + 1 } })

/-- TAKE_BREAK of a BREAK that can be taken, with nothing queued behind it. The oldest LABEL-PENDING record enters ON-BELT
with the BREAK's position and time, and its APPLY and SET-CHUTE are entered at the configured distances; a label position
already reached marks it LABEL-LATE, its label staying in the print order (log entry 25), a gap below the minimum marks it
GAP-FAULT, and either sends it to chute 0. With no such record the parcel is UNMATCHED; an UNMATCHED parcel still open
before it is an orphan; one too close behind an ON-BELT record's parcel marks that record GAP-FAULT and diverts it, by its
SET-CHUTE still in the table, else by the gate it holds. A record whose parcel is still open has lost its MAKE: it is
closed short, REJECTED with LENGTH-UNKNOWN, its entries gone, a gate it holds at chute 0 and still its own (log entry 25),
its booking released and its label out of the print order; a label of its in the slot is discarded and wasted, and the
printer goes on from IDLE, its STATION-EVENT after the PARCEL-END (the model's choice, log entry 19). A BREAK without room
waits. A record's marks are absent until one is set (log entry 31). [sections 9.2, 9.3, 9.4, 9.5, 10.5, 10.6] -/
def Obligations.TakeBreakMatches : Prop :=
  ∀ (s : State) (e : Edge), s.powered = true → s.outfeed.holding = some e → e.kind = .brk →
    (s.outfeed.pendingClear ≠ [] ∨ 6 < s.outfeed.actions.length → exec .takeBreak s = .next s) ∧
    (s.outfeed.pendingClear = [] → s.outfeed.actions.length ≤ 6 → s.outfeed.edges = [] →
      (∀ older p younger, s.outfeed.openParcel = none → s.Holds older p younger → p.state = .labelPending →
        (∀ q ∈ older, q.state ≠ .labelPending) → p.marks = none →
        let label := e.pos + BitVec.ofNat 16 s.loader.applicator
        let gate := e.pos + BitVec.ofNat 16 s.loader.gate - BitVec.ofNat 16 s.loader.lead
        let late := decide ((s.outfeed.encoder - label).toNat < 32768)
        let short := match s.outfeed.gap with | some g => decide ((e.pos - g.pos).toNat < s.loader.minGap) | none => false
        32768 ≤ (s.outfeed.encoder - gate).toNat →
        exec .takeBreak s = .next { s with
          queue := { s.queue with
            parcels := older ++ { p with
              state := .onBelt, front := some (e.pos, e.time),
              marks := if late || short then some ⟨late, short, false⟩ else none } :: younger }
          outfeed := { s.outfeed with
            holding := none, openParcel := some ⟨e.pos, e.time, some p.tag⟩
            actions := s.outfeed.actions ++ (if late then [] else [⟨label, .apply, p.tag⟩]) ++
              [⟨gate, .setChute (if late || short then 0 else s.store.chute p.route), p.tag⟩] } }) ∧
      ((∀ p ∈ s.queue.parcels, p.state ≠ .labelPending) → s.outfeed.gap = none →
        (∀ x, s.outfeed.openParcel = some x → x.tag = none) → exec .takeBreak s = .next { s with
          outfeed := { s.outfeed with
            holding := none, openParcel := some ⟨e.pos, e.time, none⟩
            unmatched := if 65535 ≤ s.outfeed.unmatched then 65535 else s.outfeed.unmatched + 1
            orphans := if s.outfeed.openParcel = none then s.outfeed.orphans
              else if 255 ≤ s.outfeed.orphans then 255 else s.outfeed.orphans + 1 } }) ∧
      (∀ older p younger gap, (∀ q ∈ s.queue.parcels, q.state ≠ .labelPending) → s.outfeed.openParcel = none →
        s.outfeed.gap = some ⟨gap, some p.tag⟩ → s.Holds older p younger → p.state = .onBelt →
        (e.pos - gap).toNat < s.loader.minGap →
        let inTable := s.outfeed.actions.any (fun a => a.setsFor p.tag)
        exec .takeBreak s = .next { s with
          queue := { s.queue with
            parcels := older ++ { p with marks := some { p.marked with gapFault := true } } :: younger }
          outfeed := { s.outfeed with
            holding := none, openParcel := some ⟨e.pos, e.time, none⟩
            unmatched := if 65535 ≤ s.outfeed.unmatched then 65535 else s.outfeed.unmatched + 1
            actions := s.outfeed.actions.map (fun a => if a.setsFor p.tag then { a with kind := .setChute 0 } else a)
            chute := if inTable = false ∧ s.outfeed.owner = some p.tag then 0 else s.outfeed.chute } }) ∧
      (∀ older p younger pos time, (∀ q ∈ s.queue.parcels, q.state ≠ .labelPending) → s.outfeed.gap = none →
        s.outfeed.openParcel = some ⟨pos, time, some p.tag⟩ → s.Holds older p younger → p.state = .onBelt →
        s.link.reports.length < 16 →
        let order := s.label.printOrder.filter (fun l => l.tag ≠ p.tag)
        let ended : Link := { s.link with
          reports := s.link.reports ++ [.parcelEnd p.tag .rejected (some .lengthUnknown) p.quote p.dispatch p.tracking
            p.rating.flags p.marked] }
        let emptied : LabelUnit := { s.label with
          printOrder := order, slot := none, printer := .idle, eject := true
          wasted := if 65535 ≤ s.label.wasted then 65535 else s.label.wasted + 1 }
        let after := fun (label : LabelUnit) (link : Link) => exec .takeBreak s = .next { s with
          queue := { s.queue with parcels := older ++ younger }
          dispatch := s.dispatch.release p
          outfeed := { s.outfeed with
            holding := none, openParcel := some ⟨e.pos, e.time, none⟩
            unmatched := if 65535 ≤ s.outfeed.unmatched then 65535 else s.outfeed.unmatched + 1
            orphans := if 255 ≤ s.outfeed.orphans then 255 else s.outfeed.orphans + 1
            actions := s.outfeed.actions.filter (fun a => a.tag ≠ p.tag)
            chute := if s.outfeed.owner = some p.tag then 0 else s.outfeed.chute }
          label := label
          link := link }
        ((∀ l, s.label.slot = some l → l.tag ≠ p.tag) → after { s.label with printOrder := order } ended) ∧
        (∀ l, s.label.slot = some l → l.tag = p.tag →
          (s.label.faultLine = true → after { emptied with printer := .fault }
            (ended.rise .printerFault s.dispatch.clock s.bus.state)) ∧
          (s.label.faultLine = false → order = [] → after emptied ended) ∧
          (∀ l' rest, s.label.faultLine = false → order = l' :: rest → after { emptied with
            printOrder := rest, printer := .printing, atPrinter := some l', printDue := some (s.timer.ms + 5000)
            sent := some (l', true), eject := false } ended))))

/-- TAKE_MAKE with nothing queued behind it. An ON-BELT record's length is the belt distance from its BREAK times the
pitch, rounded half up to millimetres; a length off by more than the tolerance from all three dimensions marks it
LENGTH-MISMATCH and diverts it to chute 0, by its SET-CHUTE still in the table, else by the gate it holds; its CLEAR-CHUTE
is entered, or waits when the table is full. The gap memory takes the MAKE. A MAKE of an UNMATCHED parcel, or of one whose
record has ended, sets the gap memory alone; one without an open parcel is an orphan. A record's marks are absent until
one is set (log entry 31). [sections 9.2, 9.3, 9.6] -/
def Obligations.TakeMakeMeasures : Prop :=
  ∀ (s : State) (e : Edge), s.powered = true → s.outfeed.holding = some e → e.kind = .make → s.outfeed.edges = [] →
    (s.outfeed.openParcel = none → exec .takeMake s = .next { s with
      outfeed := { s.outfeed with
        holding := none, orphans := if 255 ≤ s.outfeed.orphans then 255 else s.outfeed.orphans + 1 } }) ∧
    (∀ x, s.outfeed.openParcel = some x → (∀ q ∈ s.queue.parcels, x.tag = some q.tag → q.state ≠ .onBelt) →
      exec .takeMake s = .next { s with
        outfeed := { s.outfeed with holding := none, gap := some ⟨e.pos, x.tag⟩, openParcel := none } }) ∧
    (∀ x older p younger h w l clamped, s.outfeed.openParcel = some x → x.tag = some p.tag → s.Holds older p younger →
      p.state = .onBelt → p.dims = some (.mm h w l clamped) →
      let len := (2 * ((e.pos - x.pos).toNat * s.loader.pitch) + 1000) / 2000
      let far := fun (d : Nat) => d + s.loader.lengthTolerance < len ∨ len + s.loader.lengthTolerance < d
      let bad := decide (far h ∧ far w ∧ far l)
      let inTable := s.outfeed.actions.any (fun a => a.setsFor p.tag)
      let actions := s.outfeed.actions.map (fun a => if bad && a.setsFor p.tag then { a with kind := .setChute 0 } else a)
      let clear := e.pos + BitVec.ofNat 16 s.loader.gate + BitVec.ofNat 16 s.loader.trail
      32768 ≤ (s.outfeed.encoder - clear).toNat →
      exec .takeMake s = .next { s with
        queue := { s.queue with
          parcels := older ++ { p with
            length := some len
            marks := if bad then some { p.marked with lengthMismatch := true } else p.marks } :: younger }
        outfeed := { s.outfeed with
          holding := none, openParcel := none, gap := some ⟨e.pos, some p.tag⟩
          chute := if bad = true ∧ inTable = false ∧ s.outfeed.owner = some p.tag then 0 else s.outfeed.chute
          actions := if s.outfeed.actions.length < 8 ∧ s.outfeed.pendingClear = [] then
            actions ++ [⟨clear, .clearChute, p.tag⟩] else actions
          pendingClear := if s.outfeed.actions.length < 8 ∧ s.outfeed.pendingClear = [] then s.outfeed.pendingClear
            else s.outfeed.pendingClear ++ [(p.tag, clear)] } })

/-- ENCODER_PULSE with no edge waiting: the count advances, 65,535 followed by 0, and every entry that it reaches,
wherever it stands in the table, is carried out and removed, in the order of making: the pulse carries out the first, and
then does what a pulse does with that one gone. An APPLY that finds its own label in the slot fires the strobe and empties
the slot, and the printer goes on from IDLE; one that finds another label or none marks its record LABEL-LATE, diverts it
to chute 0, by its SET-CHUTE still in the table, else by the gate it holds, and takes its label out of the print order. A
SET-CHUTE sets chute and owner. A CLEAR frees its gate, removes its record's entries, an APPLY among them marking it
LABEL-LATE, and ends it: DONE with no mark set, else REJECTED with the reason of the first mark and its booking released;
its label is discarded, and counted as wasted if it was in the slot. The removal lets the oldest pending CLEAR into a full
table. A record's marks are absent until one is set (log entry 31), and sent as clear ones then (log entry 5). [sections
9.1, 9.7, 9.8, 9.5, 10.6, 4.10] -/
def Obligations.EncoderPulseActs : Prop :=
  ∀ s : State, s.powered = true → s.outfeed.holding = none →
    let now := s.outfeed.encoder + 1
    let ahead := fun (others : List Action) => ∀ a ∈ others, 32768 ≤ (now - a.pos).toNat
    let reaches := fun (before : List Action) (a : Action) (after : List Action) =>
      s.outfeed.actions = before ++ a :: after ∧ (now - a.pos).toNat < 32768 ∧ ahead before
    let carried := fun (a : Action) (others : List Action) =>
      State.carry { s with outfeed := { s.outfeed with encoder := now, actions := others } } a
    let becomes := fun (a : Action) (others : List Action) (t : State) =>
      carried a others = t ∧ (ahead others → exec .encoderPulse s = .next t)
    (ahead s.outfeed.actions → exec .encoderPulse s = .next { s with outfeed := { s.outfeed with encoder := now } }) ∧
    (∀ before pos chute tag after tag' pos' more, reaches before ⟨pos, .setChute chute, tag⟩ after →
      ahead (before ++ after) → s.outfeed.actions.length = 8 → s.outfeed.pendingClear = (tag', pos') :: more →
      32768 ≤ (now - pos').toNat → exec .encoderPulse s = .next { s with
        outfeed := { s.outfeed with
          encoder := now, actions := before ++ after ++ [⟨pos', .clearChute, tag'⟩], pendingClear := more, chute := chute
          owner := some tag } }) ∧
    (∀ before a after, s.outfeed.pendingClear = [] → reaches before a after →
      let t := carried a (before ++ after)
      exec .encoderPulse s =
        exec .encoderPulse { t with outfeed := { t.outfeed with encoder := s.outfeed.encoder } }) ∧
    (∀ before pos chute tag after, s.outfeed.pendingClear = [] → reaches before ⟨pos, .setChute chute, tag⟩ after →
      becomes ⟨pos, .setChute chute, tag⟩ (before ++ after) { s with
        outfeed := { s.outfeed with
          encoder := now, actions := before ++ after, chute := chute, owner := some tag } }) ∧
    (∀ before pos l after, s.outfeed.pendingClear = [] → reaches before ⟨pos, .apply, l.tag⟩ after →
      s.label.slot = some l →
      let others := before ++ after
      let ends := fun (label : LabelUnit) (link : Link) => becomes ⟨pos, .apply, l.tag⟩ others { s with
        outfeed := { s.outfeed with encoder := now, actions := others, strobes := s.outfeed.strobes + 1 }
        label := label
        link := link }
      (s.label.faultLine = true → ends { s.label with slot := none, printer := .fault }
        (s.link.rise .printerFault s.dispatch.clock s.bus.state)) ∧
      (s.label.faultLine = false → s.label.printOrder = [] →
        ends { s.label with slot := none, printer := .idle } s.link) ∧
      (∀ l' rest, s.label.faultLine = false → s.label.printOrder = l' :: rest → ends { s.label with
        slot := none, printOrder := rest, printer := .printing, atPrinter := some l'
        printDue := some (s.timer.ms + 5000), sent := some (l', s.label.eject), eject := false } s.link)) ∧
    (∀ before pos older p younger after, s.outfeed.pendingClear = [] → reaches before ⟨pos, .apply, p.tag⟩ after →
      (∀ l, s.label.slot = some l → l.tag ≠ p.tag) → s.Holds older p younger →
      let others := before ++ after
      let inTable := others.any (fun a => a.setsFor p.tag)
      becomes ⟨pos, .apply, p.tag⟩ others { s with
        queue := { s.queue with
          parcels := older ++ { p with marks := some { p.marked with labelLate := true } } :: younger }
        outfeed := { s.outfeed with
          encoder := now
          actions := others.map (fun a => if a.setsFor p.tag then { a with kind := .setChute 0 } else a)
          chute := if inTable = false ∧ s.outfeed.owner = some p.tag then 0 else s.outfeed.chute }
        label := { s.label with printOrder := s.label.printOrder.filter (fun l => l.tag ≠ p.tag) } }) ∧
    (∀ before pos older p younger after, s.outfeed.pendingClear = [] → reaches before ⟨pos, .clearChute, p.tag⟩ after →
      s.Holds older p younger → p.state = .onBelt → s.link.reports.length < 16 →
      let others := before ++ after
      let late := others.any (fun a => a.kind == .apply && a.tag == p.tag)
      let marks : Marks := if late then { p.marked with labelLate := true } else p.marked
      let reason : Option Reason := if marks.labelLate then some .labelLate else if marks.gapFault then some .gapFault
        else if marks.lengthMismatch then some .lengthMismatch else none
      let order := s.label.printOrder.filter (fun l => l.tag ≠ p.tag)
      let ends := fun (label : LabelUnit) => becomes ⟨pos, .clearChute, p.tag⟩ others { s with
        queue := { s.queue with parcels := older ++ younger }
        dispatch := if reason.isNone then s.dispatch else s.dispatch.release p
        outfeed := { s.outfeed with
          encoder := now, actions := others.filter (fun a => a.tag ≠ p.tag)
          chute := if s.outfeed.owner = some p.tag then 0 else s.outfeed.chute
          owner := if s.outfeed.owner = some p.tag then none else s.outfeed.owner }
        label := label
        link := { s.link with
          reports := s.link.reports ++ [.parcelEnd p.tag (if reason.isNone then .done else .rejected) reason p.quote
            p.dispatch p.tracking p.rating.flags marks] } }
      ((∀ l, s.label.slot = some l → l.tag ≠ p.tag) → ends { s.label with printOrder := order }) ∧
      (∀ l, s.label.slot = some l → l.tag = p.tag → s.label.faultLine = false → order = [] → ends { s.label with
        printOrder := [], slot := none, printer := .idle, eject := true
        wasted := if 65535 ≤ s.label.wasted then 65535 else s.label.wasted + 1 }))

/-- JAM: a record in ON-BELT whose belt timeout has run out since its BREAK ends REJECTED with reason JAM: its entries and
its waiting CLEAR leave, a gate it holds goes to chute 0 and is freed, an open parcel of its becomes UNMATCHED, the jam
counter rises, JAM becomes true and its rise is noticed after the PARCEL-END, its booking is released and its label leaves
the print order. Marks still absent are sent as clear ones (log entry 5). Before the timeout nothing changes (the model's
choice, log entry 7). [sections 9.8, 9.6, 4.10] -/
def Obligations.JamEndsRecord : Prop :=
  ∀ (s : State) (older younger : List Parcel) (p : Parcel) (pos : Count) (time : Micros), s.powered = true →
    s.Holds older p younger → p.state = .onBelt → p.front = some (pos, time) →
    ((s.outfeed.capture - time).toNat < s.loader.beltTimeout * 1000000 → exec (.jam p.tag) s = .next s) ∧
    (s.loader.beltTimeout * 1000000 ≤ (s.outfeed.capture - time).toNat → s.outfeed.holding = none →
      (∀ x ∈ s.outfeed.pendingClear, x.1 ≠ p.tag → 32768 ≤ (s.outfeed.encoder - x.2).toNat) →
      (∀ l, s.label.slot = some l → l.tag ≠ p.tag) → s.link.reports.length < 16 →
      let kept := s.outfeed.actions.filter (fun a => a.tag ≠ p.tag)
      let waiting := s.outfeed.pendingClear.filter (fun x => x.1 ≠ p.tag)
      let ended : Link := { s.link with
        reports := s.link.reports ++ [.parcelEnd p.tag .rejected (some .jam) p.quote p.dispatch p.tracking p.rating.flags
          p.marked] }
      exec (.jam p.tag) s = .next { s with
        queue := { s.queue with parcels := older ++ younger }
        dispatch := s.dispatch.release p
        outfeed := { s.outfeed with
          actions := kept ++ (waiting.take (8 - kept.length)).map (fun x => ⟨x.2, .clearChute, x.1⟩)
          pendingClear := waiting.drop (8 - kept.length)
          chute := if s.outfeed.owner = some p.tag then 0 else s.outfeed.chute
          owner := if s.outfeed.owner = some p.tag then none else s.outfeed.owner
          openParcel := s.outfeed.openParcel.map (fun x => if x.tag = some p.tag then { x with tag := none } else x)
          jams := if 255 ≤ s.outfeed.jams then 255 else s.outfeed.jams + 1
          jammed := true }
        label := { s.label with printOrder := s.label.printOrder.filter (fun l => l.tag ≠ p.tag) }
        link := if s.outfeed.jammed then ended else ended.rise .jam s.dispatch.clock s.bus.state })

/-- PRINTER_DONE presents the label at the printer while its record, the one it was composed for, is LABEL-PENDING or
ON-BELT, and otherwise discards it, counted as wasted; outside PRINTING it is ignored. PRINT_TIMEOUT after 5 s, or the
fault line becoming asserted, in PRINTING leads to FAULT: the label is counted as wasted and returns to the head of the
print order, where its tag then stands once, unless its record is gone or LABEL-LATE (that a label is known by tag and
tracking number is the model's choice, log entry 33). The line alone leads to FAULT in IDLE, and changes no printer state
in PRESENTED or when it becomes clear. A PRINT_TIMEOUT before its time changes nothing (the model's choice, log entry 7).
[sections 10.5, 10.6] -/
def Obligations.PrinterEvents : Prop :=
  ∀ s : State, s.powered = true →
    let its := fun (p : Parcel) (l : Label) => p.tag = l.tag ∧ p.tracking = some l.tracking
    let carried := fun (l : Label) => ∃ p ∈ s.queue.parcels, its p l ∧ (p.state = .labelPending ∨ p.state = .onBelt)
    let late := fun (l : Label) => ∃ p ∈ s.queue.parcels, its p l ∧ p.marked.labelLate = true
    let wasted := if 65535 ≤ s.label.wasted then 65535 else s.label.wasted + 1
    let noticed := s.link.rise .printerFault s.dispatch.clock s.bus.state
    let failed := fun (r : Host.Outcome State Fault Refusal) (line : Bool) (l : Label) =>
      ∃ t, r = .next t ∧
        (carried l → ¬late l → t.label.printOrder = l :: s.label.printOrder.filter (fun x => x.tag ≠ l.tag)) ∧
        (¬carried l ∨ late l → t.label.printOrder = s.label.printOrder) ∧
        t = { s with
          link := noticed
          label := { s.label with
            printer := .fault, atPrinter := none, printDue := none, wasted := wasted, eject := true, faultLine := line
            printOrder := t.label.printOrder } }
    (s.label.printer ≠ .printing → exec .printerDone s = .next s) ∧
    (∀ l, s.label.printer = .printing → s.label.atPrinter = some l →
      (carried l → exec .printerDone s = .next { s with
        label := { s.label with printer := .presented, slot := some l, atPrinter := none, printDue := none } }) ∧
      (¬carried l → s.label.faultLine = false → s.label.printOrder = [] → exec .printerDone s = .next { s with
        label := { s.label with
          printer := .idle, atPrinter := none, printDue := none, wasted := wasted, eject := true } }) ∧
      (∀ due, s.label.printDue = some due →
        (s.timer.ms < due → exec .printTimeout s = .next s) ∧
        (due ≤ s.timer.ms → failed (exec .printTimeout s) s.label.faultLine l)) ∧
      (s.label.faultLine = false → failed (exec (.printerFault true) s) true l)) ∧
    (s.label.printer = .idle → s.label.faultLine = false → exec (.printerFault true) s = .next { s with
      link := noticed
      label := { s.label with printer := .fault, faultLine := true } }) ∧
    (s.label.printer = .presented → exec (.printerFault true) s = .next { s with
      label := { s.label with faultLine := true } }) ∧
    exec (.printerFault false) s = .next { s with label := { s.label with faultLine := false } }

/-- A tracking number: sixteen digits, in order the office in four, the issue day in three, the station in two, the serial
in six, and the check digit that the weights 3, 7, 1, repeated from the left, give the first fifteen. [R176] -/
def Obligations.TrackingNumberDigits : Prop :=
  ∀ office day station serial : Nat, office ≤ 9999 → day ≤ 366 → station ≤ 32 → serial ≤ 999999 →
    let ds := trackingNumber office day station serial
    let spells := fun (xs : List Nat) => xs.foldl (fun n d => 10 * n + d) 0
    let sum := ((List.range 15).map (fun i => ([3, 7, 1].getD (i % 3) 0) * ds.getD i 0)).sum
    ds.length = 16 ∧ (∀ d ∈ ds, d ≤ 9) ∧ spells (ds.take 4) = office ∧ spells ((ds.drop 4).take 3) = day ∧
      spells ((ds.drop 7).take 2) = station ∧ spells ((ds.drop 9).take 6) = serial ∧
      ds.getD 15 0 = (10 - sum % 10) % 10

/-! ### Encodings -/

/-- Decode and encode agree. The message of every well-formed command of the terminal link, with any operands, is read
back as that command; how far the configuration memory answers a RESTART's read, which the message does not carry, is
given to the decoder. The bytes of every frame of the hall bus whose fields are in range are read back as that frame, and
bytes that are read as a frame are the bytes of that frame, every field in range and the CRC good. [sections 11.1, 6.2,
6.4] -/
def Obligations.EncodingsRoundTrip : Prop :=
  (∀ (c : Instr) (m : List Byte) (answered : Nat), c.wf = true → encodeMessage c = some m →
    (∀ n, c = .restart n → n = answered) → decodeMessage answered m = some c) ∧
  (∀ f : Frame, f.wf = true → Frame.parse f.bytes = some f) ∧
  (∀ (bs : List Byte) (f : Frame), Frame.parse bs = some f → f.wf = true ∧ f.bytes = bs)

/-! ### What every step keeps -/

/-- Every step keeps, each on its own: the board memories in their canonical form (the model's form, log entry 1); the
printer state and the labels in accord, a label at the printer with its timer in PRINTING alone and one in the slot in
PRESENTED alone; and the hall in order, a station sending in ACTIVE and ANNOUNCE alone, the peer entries ascending, each
of another station of the hall, and none in OFF. [sections 11.5, 2.4, 10.5, 10.6, 6.3, 7.2, 7.4] -/
def Obligations.StepKeepsBlocks : Prop :=
  ∀ s t : State, step s = .next t →
    (s.MemoriesOk → t.MemoriesOk) ∧ (s.PrinterOk → t.PrinterOk) ∧ (s.HallOk → t.HallOk)

/-- Every step keeps the tags: no two records hold the same tag, every tag and the cursor stay from 1 to 255, and there
are at most six records. With that, it keeps at most one record in a plate state, the requests of the line and the current
booking those of records that wait for them, and the action entries, the waiting CLEARs and the labels of the print order
those of records on the way to the gate. [sections 4.1, 4.7, 5.3, 9.3, 9.6, 9.7, 10.4] -/
def Obligations.StepKeepsRecords : Prop :=
  ∀ s t : State, step s = .next t →
    (s.TagsOk → t.TagsOk) ∧ (s.TagsOk → s.PlateOk → s.BeltOk → t.PlateOk ∧ t.BeltOk)

/-- Every step keeps every queue and list within its size, and every saturating counter at or below its maximum: with the
records, the bookings and the hall in order, whose lists are bounded by their records and their stations. [sections 1.5,
4.1, 5.6, 6.6, 6.8, 7.2, 8.4, 9.2, 9.7, 10.4, 10.7, 11.2] -/
def Obligations.StepKeepsBounds : Prop :=
  ∀ s t : State, s.TagsOk → s.PlateOk → s.BeltOk → s.HallOk → s.Bounded → s.CountersOk → step s = .next t →
    t.Bounded ∧ t.CountersOk

/-- Every step keeps the units of the hall in order: the active image valid, the clock in range, a ring for each used
route at most, with three dispatches that follow one another, on every open entry booked and reserved units together at
most those held, and the units of the GIVEs reserved on an entry within its reserved units. [sections 2.3, 5.1, 5.2, 5.4,
8.2, 8.3] -/
def Obligations.StepKeepsUnits : Prop :=
  ∀ s t : State, s.UnitsOk → step s = .next t → t.UnitsOk

/-- The state at reset meets every invariant that the steps keep, without power and with no command waiting. [section
11.6] -/
def Obligations.ResetMeetsInvariants : Prop :=
  State.reset.MemoriesOk ∧ State.reset.PrinterOk ∧ State.reset.HallOk ∧ State.reset.TagsOk ∧ State.reset.PlateOk ∧
    State.reset.BeltOk ∧ State.reset.Bounded ∧ State.reset.CountersOk ∧ State.reset.UnitsOk ∧
    State.reset.pending = [] ∧ State.reset.powered = false
end

