-- ==== Sys2Proof/Laws/State.lean ====
section
/-! SUPPORT. One lemma per field for each update of a block: what the update sets and what it leaves. -/

namespace Sys2Proof.Machine

/-! ### setPending -/

@[simp] theorem State.setPending_pending (s : State) (x : List Instr) : (s.setPending x).pending = x := rfl
@[simp] theorem State.setPending_powered (s : State) (x : List Instr) : (s.setPending x).powered = s.powered := rfl
@[simp] theorem State.setPending_freeNo (s : State) (x : List Instr) : (s.setPending x).freeNo = s.freeNo := rfl
@[simp] theorem State.setPending_timer (s : State) (x : List Instr) : (s.setPending x).timer = s.timer := rfl
@[simp] theorem State.setPending_loader (s : State) (x : List Instr) : (s.setPending x).loader = s.loader := rfl
@[simp] theorem State.setPending_plate (s : State) (x : List Instr) : (s.setPending x).plate = s.plate := rfl
@[simp] theorem State.setPending_summary (s : State) (x : List Instr) : (s.setPending x).summary = s.summary := rfl
@[simp] theorem State.setPending_store (s : State) (x : List Instr) : (s.setPending x).store = s.store := rfl
@[simp] theorem State.setPending_queue (s : State) (x : List Instr) : (s.setPending x).queue = s.queue := rfl
@[simp] theorem State.setPending_dispatch (s : State) (x : List Instr) : (s.setPending x).dispatch = s.dispatch := rfl
@[simp] theorem State.setPending_share (s : State) (x : List Instr) : (s.setPending x).share = s.share := rfl
@[simp] theorem State.setPending_bus (s : State) (x : List Instr) : (s.setPending x).bus = s.bus := rfl
@[simp] theorem State.setPending_peers (s : State) (x : List Instr) : (s.setPending x).peers = s.peers := rfl
@[simp] theorem State.setPending_outfeed (s : State) (x : List Instr) : (s.setPending x).outfeed = s.outfeed := rfl
@[simp] theorem State.setPending_label (s : State) (x : List Instr) : (s.setPending x).label = s.label := rfl
@[simp] theorem State.setPending_link (s : State) (x : List Instr) : (s.setPending x).link = s.link := rfl

/-! ### setLoader -/

@[simp] theorem State.setLoader_pending (s : State) (x : Loader) : (s.setLoader x).pending = s.pending := rfl
@[simp] theorem State.setLoader_powered (s : State) (x : Loader) : (s.setLoader x).powered = s.powered := rfl
@[simp] theorem State.setLoader_freeNo (s : State) (x : Loader) : (s.setLoader x).freeNo = s.freeNo := rfl
@[simp] theorem State.setLoader_timer (s : State) (x : Loader) : (s.setLoader x).timer = s.timer := rfl
@[simp] theorem State.setLoader_loader (s : State) (x : Loader) : (s.setLoader x).loader = x := rfl
@[simp] theorem State.setLoader_plate (s : State) (x : Loader) : (s.setLoader x).plate = s.plate := rfl
@[simp] theorem State.setLoader_summary (s : State) (x : Loader) : (s.setLoader x).summary = s.summary := rfl
@[simp] theorem State.setLoader_store (s : State) (x : Loader) : (s.setLoader x).store = s.store := rfl
@[simp] theorem State.setLoader_queue (s : State) (x : Loader) : (s.setLoader x).queue = s.queue := rfl
@[simp] theorem State.setLoader_dispatch (s : State) (x : Loader) : (s.setLoader x).dispatch = s.dispatch := rfl
@[simp] theorem State.setLoader_share (s : State) (x : Loader) : (s.setLoader x).share = s.share := rfl
@[simp] theorem State.setLoader_bus (s : State) (x : Loader) : (s.setLoader x).bus = s.bus := rfl
@[simp] theorem State.setLoader_peers (s : State) (x : Loader) : (s.setLoader x).peers = s.peers := rfl
@[simp] theorem State.setLoader_outfeed (s : State) (x : Loader) : (s.setLoader x).outfeed = s.outfeed := rfl
@[simp] theorem State.setLoader_label (s : State) (x : Loader) : (s.setLoader x).label = s.label := rfl
@[simp] theorem State.setLoader_link (s : State) (x : Loader) : (s.setLoader x).link = s.link := rfl

/-! ### setPlate -/

@[simp] theorem State.setPlate_pending (s : State) (x : Plate) : (s.setPlate x).pending = s.pending := rfl
@[simp] theorem State.setPlate_powered (s : State) (x : Plate) : (s.setPlate x).powered = s.powered := rfl
@[simp] theorem State.setPlate_freeNo (s : State) (x : Plate) : (s.setPlate x).freeNo = s.freeNo := rfl
@[simp] theorem State.setPlate_timer (s : State) (x : Plate) : (s.setPlate x).timer = s.timer := rfl
@[simp] theorem State.setPlate_loader (s : State) (x : Plate) : (s.setPlate x).loader = s.loader := rfl
@[simp] theorem State.setPlate_plate (s : State) (x : Plate) : (s.setPlate x).plate = x := rfl
@[simp] theorem State.setPlate_summary (s : State) (x : Plate) : (s.setPlate x).summary = s.summary := rfl
@[simp] theorem State.setPlate_store (s : State) (x : Plate) : (s.setPlate x).store = s.store := rfl
@[simp] theorem State.setPlate_queue (s : State) (x : Plate) : (s.setPlate x).queue = s.queue := rfl
@[simp] theorem State.setPlate_dispatch (s : State) (x : Plate) : (s.setPlate x).dispatch = s.dispatch := rfl
@[simp] theorem State.setPlate_share (s : State) (x : Plate) : (s.setPlate x).share = s.share := rfl
@[simp] theorem State.setPlate_bus (s : State) (x : Plate) : (s.setPlate x).bus = s.bus := rfl
@[simp] theorem State.setPlate_peers (s : State) (x : Plate) : (s.setPlate x).peers = s.peers := rfl
@[simp] theorem State.setPlate_outfeed (s : State) (x : Plate) : (s.setPlate x).outfeed = s.outfeed := rfl
@[simp] theorem State.setPlate_label (s : State) (x : Plate) : (s.setPlate x).label = s.label := rfl
@[simp] theorem State.setPlate_link (s : State) (x : Plate) : (s.setPlate x).link = s.link := rfl

/-! ### setSummary -/

@[simp] theorem State.setSummary_pending (s : State) (x : Summary) : (s.setSummary x).pending = s.pending := rfl
@[simp] theorem State.setSummary_powered (s : State) (x : Summary) : (s.setSummary x).powered = s.powered := rfl
@[simp] theorem State.setSummary_freeNo (s : State) (x : Summary) : (s.setSummary x).freeNo = s.freeNo := rfl
@[simp] theorem State.setSummary_timer (s : State) (x : Summary) : (s.setSummary x).timer = s.timer := rfl
@[simp] theorem State.setSummary_loader (s : State) (x : Summary) : (s.setSummary x).loader = s.loader := rfl
@[simp] theorem State.setSummary_plate (s : State) (x : Summary) : (s.setSummary x).plate = s.plate := rfl
@[simp] theorem State.setSummary_summary (s : State) (x : Summary) : (s.setSummary x).summary = x := rfl
@[simp] theorem State.setSummary_store (s : State) (x : Summary) : (s.setSummary x).store = s.store := rfl
@[simp] theorem State.setSummary_queue (s : State) (x : Summary) : (s.setSummary x).queue = s.queue := rfl
@[simp] theorem State.setSummary_dispatch (s : State) (x : Summary) : (s.setSummary x).dispatch = s.dispatch := rfl
@[simp] theorem State.setSummary_share (s : State) (x : Summary) : (s.setSummary x).share = s.share := rfl
@[simp] theorem State.setSummary_bus (s : State) (x : Summary) : (s.setSummary x).bus = s.bus := rfl
@[simp] theorem State.setSummary_peers (s : State) (x : Summary) : (s.setSummary x).peers = s.peers := rfl
@[simp] theorem State.setSummary_outfeed (s : State) (x : Summary) : (s.setSummary x).outfeed = s.outfeed := rfl
@[simp] theorem State.setSummary_label (s : State) (x : Summary) : (s.setSummary x).label = s.label := rfl
@[simp] theorem State.setSummary_link (s : State) (x : Summary) : (s.setSummary x).link = s.link := rfl

/-! ### setStore -/

@[simp] theorem State.setStore_pending (s : State) (x : ImageStore) : (s.setStore x).pending = s.pending := rfl
@[simp] theorem State.setStore_powered (s : State) (x : ImageStore) : (s.setStore x).powered = s.powered := rfl
@[simp] theorem State.setStore_freeNo (s : State) (x : ImageStore) : (s.setStore x).freeNo = s.freeNo := rfl
@[simp] theorem State.setStore_timer (s : State) (x : ImageStore) : (s.setStore x).timer = s.timer := rfl
@[simp] theorem State.setStore_loader (s : State) (x : ImageStore) : (s.setStore x).loader = s.loader := rfl
@[simp] theorem State.setStore_plate (s : State) (x : ImageStore) : (s.setStore x).plate = s.plate := rfl
@[simp] theorem State.setStore_summary (s : State) (x : ImageStore) : (s.setStore x).summary = s.summary := rfl
@[simp] theorem State.setStore_store (s : State) (x : ImageStore) : (s.setStore x).store = x := rfl
@[simp] theorem State.setStore_queue (s : State) (x : ImageStore) : (s.setStore x).queue = s.queue := rfl
@[simp] theorem State.setStore_dispatch (s : State) (x : ImageStore) : (s.setStore x).dispatch = s.dispatch := rfl
@[simp] theorem State.setStore_share (s : State) (x : ImageStore) : (s.setStore x).share = s.share := rfl
@[simp] theorem State.setStore_bus (s : State) (x : ImageStore) : (s.setStore x).bus = s.bus := rfl
@[simp] theorem State.setStore_peers (s : State) (x : ImageStore) : (s.setStore x).peers = s.peers := rfl
@[simp] theorem State.setStore_outfeed (s : State) (x : ImageStore) : (s.setStore x).outfeed = s.outfeed := rfl
@[simp] theorem State.setStore_label (s : State) (x : ImageStore) : (s.setStore x).label = s.label := rfl
@[simp] theorem State.setStore_link (s : State) (x : ImageStore) : (s.setStore x).link = s.link := rfl

/-! ### setQueue -/

@[simp] theorem State.setQueue_pending (s : State) (x : ParcelQueue) : (s.setQueue x).pending = s.pending := rfl
@[simp] theorem State.setQueue_powered (s : State) (x : ParcelQueue) : (s.setQueue x).powered = s.powered := rfl
@[simp] theorem State.setQueue_freeNo (s : State) (x : ParcelQueue) : (s.setQueue x).freeNo = s.freeNo := rfl
@[simp] theorem State.setQueue_timer (s : State) (x : ParcelQueue) : (s.setQueue x).timer = s.timer := rfl
@[simp] theorem State.setQueue_loader (s : State) (x : ParcelQueue) : (s.setQueue x).loader = s.loader := rfl
@[simp] theorem State.setQueue_plate (s : State) (x : ParcelQueue) : (s.setQueue x).plate = s.plate := rfl
@[simp] theorem State.setQueue_summary (s : State) (x : ParcelQueue) : (s.setQueue x).summary = s.summary := rfl
@[simp] theorem State.setQueue_store (s : State) (x : ParcelQueue) : (s.setQueue x).store = s.store := rfl
@[simp] theorem State.setQueue_queue (s : State) (x : ParcelQueue) : (s.setQueue x).queue = x := rfl
@[simp] theorem State.setQueue_dispatch (s : State) (x : ParcelQueue) : (s.setQueue x).dispatch = s.dispatch := rfl
@[simp] theorem State.setQueue_share (s : State) (x : ParcelQueue) : (s.setQueue x).share = s.share := rfl
@[simp] theorem State.setQueue_bus (s : State) (x : ParcelQueue) : (s.setQueue x).bus = s.bus := rfl
@[simp] theorem State.setQueue_peers (s : State) (x : ParcelQueue) : (s.setQueue x).peers = s.peers := rfl
@[simp] theorem State.setQueue_outfeed (s : State) (x : ParcelQueue) : (s.setQueue x).outfeed = s.outfeed := rfl
@[simp] theorem State.setQueue_label (s : State) (x : ParcelQueue) : (s.setQueue x).label = s.label := rfl
@[simp] theorem State.setQueue_link (s : State) (x : ParcelQueue) : (s.setQueue x).link = s.link := rfl

/-! ### setDispatch -/

@[simp] theorem State.setDispatch_pending (s : State) (x : DispatchTable) : (s.setDispatch x).pending = s.pending := rfl
@[simp] theorem State.setDispatch_powered (s : State) (x : DispatchTable) : (s.setDispatch x).powered = s.powered := rfl
@[simp] theorem State.setDispatch_freeNo (s : State) (x : DispatchTable) : (s.setDispatch x).freeNo = s.freeNo := rfl
@[simp] theorem State.setDispatch_timer (s : State) (x : DispatchTable) : (s.setDispatch x).timer = s.timer := rfl
@[simp] theorem State.setDispatch_loader (s : State) (x : DispatchTable) : (s.setDispatch x).loader = s.loader := rfl
@[simp] theorem State.setDispatch_plate (s : State) (x : DispatchTable) : (s.setDispatch x).plate = s.plate := rfl
@[simp] theorem State.setDispatch_summary (s : State) (x : DispatchTable) : (s.setDispatch x).summary = s.summary := rfl
@[simp] theorem State.setDispatch_store (s : State) (x : DispatchTable) : (s.setDispatch x).store = s.store := rfl
@[simp] theorem State.setDispatch_queue (s : State) (x : DispatchTable) : (s.setDispatch x).queue = s.queue := rfl
@[simp] theorem State.setDispatch_dispatch (s : State) (x : DispatchTable) : (s.setDispatch x).dispatch = x := rfl
@[simp] theorem State.setDispatch_share (s : State) (x : DispatchTable) : (s.setDispatch x).share = s.share := rfl
@[simp] theorem State.setDispatch_bus (s : State) (x : DispatchTable) : (s.setDispatch x).bus = s.bus := rfl
@[simp] theorem State.setDispatch_peers (s : State) (x : DispatchTable) : (s.setDispatch x).peers = s.peers := rfl
@[simp] theorem State.setDispatch_outfeed (s : State) (x : DispatchTable) : (s.setDispatch x).outfeed = s.outfeed := rfl
@[simp] theorem State.setDispatch_label (s : State) (x : DispatchTable) : (s.setDispatch x).label = s.label := rfl
@[simp] theorem State.setDispatch_link (s : State) (x : DispatchTable) : (s.setDispatch x).link = s.link := rfl

/-! ### setShare -/

@[simp] theorem State.setShare_pending (s : State) (x : ShareAgent) : (s.setShare x).pending = s.pending := rfl
@[simp] theorem State.setShare_powered (s : State) (x : ShareAgent) : (s.setShare x).powered = s.powered := rfl
@[simp] theorem State.setShare_freeNo (s : State) (x : ShareAgent) : (s.setShare x).freeNo = s.freeNo := rfl
@[simp] theorem State.setShare_timer (s : State) (x : ShareAgent) : (s.setShare x).timer = s.timer := rfl
@[simp] theorem State.setShare_loader (s : State) (x : ShareAgent) : (s.setShare x).loader = s.loader := rfl
@[simp] theorem State.setShare_plate (s : State) (x : ShareAgent) : (s.setShare x).plate = s.plate := rfl
@[simp] theorem State.setShare_summary (s : State) (x : ShareAgent) : (s.setShare x).summary = s.summary := rfl
@[simp] theorem State.setShare_store (s : State) (x : ShareAgent) : (s.setShare x).store = s.store := rfl
@[simp] theorem State.setShare_queue (s : State) (x : ShareAgent) : (s.setShare x).queue = s.queue := rfl
@[simp] theorem State.setShare_dispatch (s : State) (x : ShareAgent) : (s.setShare x).dispatch = s.dispatch := rfl
@[simp] theorem State.setShare_share (s : State) (x : ShareAgent) : (s.setShare x).share = x := rfl
@[simp] theorem State.setShare_bus (s : State) (x : ShareAgent) : (s.setShare x).bus = s.bus := rfl
@[simp] theorem State.setShare_peers (s : State) (x : ShareAgent) : (s.setShare x).peers = s.peers := rfl
@[simp] theorem State.setShare_outfeed (s : State) (x : ShareAgent) : (s.setShare x).outfeed = s.outfeed := rfl
@[simp] theorem State.setShare_label (s : State) (x : ShareAgent) : (s.setShare x).label = s.label := rfl
@[simp] theorem State.setShare_link (s : State) (x : ShareAgent) : (s.setShare x).link = s.link := rfl

/-! ### setBus -/

@[simp] theorem State.setBus_pending (s : State) (x : BusController) : (s.setBus x).pending = s.pending := rfl
@[simp] theorem State.setBus_powered (s : State) (x : BusController) : (s.setBus x).powered = s.powered := rfl
@[simp] theorem State.setBus_freeNo (s : State) (x : BusController) : (s.setBus x).freeNo = s.freeNo := rfl
@[simp] theorem State.setBus_timer (s : State) (x : BusController) : (s.setBus x).timer = s.timer := rfl
@[simp] theorem State.setBus_loader (s : State) (x : BusController) : (s.setBus x).loader = s.loader := rfl
@[simp] theorem State.setBus_plate (s : State) (x : BusController) : (s.setBus x).plate = s.plate := rfl
@[simp] theorem State.setBus_summary (s : State) (x : BusController) : (s.setBus x).summary = s.summary := rfl
@[simp] theorem State.setBus_store (s : State) (x : BusController) : (s.setBus x).store = s.store := rfl
@[simp] theorem State.setBus_queue (s : State) (x : BusController) : (s.setBus x).queue = s.queue := rfl
@[simp] theorem State.setBus_dispatch (s : State) (x : BusController) : (s.setBus x).dispatch = s.dispatch := rfl
@[simp] theorem State.setBus_share (s : State) (x : BusController) : (s.setBus x).share = s.share := rfl
@[simp] theorem State.setBus_bus (s : State) (x : BusController) : (s.setBus x).bus = x := rfl
@[simp] theorem State.setBus_peers (s : State) (x : BusController) : (s.setBus x).peers = s.peers := rfl
@[simp] theorem State.setBus_outfeed (s : State) (x : BusController) : (s.setBus x).outfeed = s.outfeed := rfl
@[simp] theorem State.setBus_label (s : State) (x : BusController) : (s.setBus x).label = s.label := rfl
@[simp] theorem State.setBus_link (s : State) (x : BusController) : (s.setBus x).link = s.link := rfl

/-! ### setPeers -/

@[simp] theorem State.setPeers_pending (s : State) (x : PeerTable) : (s.setPeers x).pending = s.pending := rfl
@[simp] theorem State.setPeers_powered (s : State) (x : PeerTable) : (s.setPeers x).powered = s.powered := rfl
@[simp] theorem State.setPeers_freeNo (s : State) (x : PeerTable) : (s.setPeers x).freeNo = s.freeNo := rfl
@[simp] theorem State.setPeers_timer (s : State) (x : PeerTable) : (s.setPeers x).timer = s.timer := rfl
@[simp] theorem State.setPeers_loader (s : State) (x : PeerTable) : (s.setPeers x).loader = s.loader := rfl
@[simp] theorem State.setPeers_plate (s : State) (x : PeerTable) : (s.setPeers x).plate = s.plate := rfl
@[simp] theorem State.setPeers_summary (s : State) (x : PeerTable) : (s.setPeers x).summary = s.summary := rfl
@[simp] theorem State.setPeers_store (s : State) (x : PeerTable) : (s.setPeers x).store = s.store := rfl
@[simp] theorem State.setPeers_queue (s : State) (x : PeerTable) : (s.setPeers x).queue = s.queue := rfl
@[simp] theorem State.setPeers_dispatch (s : State) (x : PeerTable) : (s.setPeers x).dispatch = s.dispatch := rfl
@[simp] theorem State.setPeers_share (s : State) (x : PeerTable) : (s.setPeers x).share = s.share := rfl
@[simp] theorem State.setPeers_bus (s : State) (x : PeerTable) : (s.setPeers x).bus = s.bus := rfl
@[simp] theorem State.setPeers_peers (s : State) (x : PeerTable) : (s.setPeers x).peers = x := rfl
@[simp] theorem State.setPeers_outfeed (s : State) (x : PeerTable) : (s.setPeers x).outfeed = s.outfeed := rfl
@[simp] theorem State.setPeers_label (s : State) (x : PeerTable) : (s.setPeers x).label = s.label := rfl
@[simp] theorem State.setPeers_link (s : State) (x : PeerTable) : (s.setPeers x).link = s.link := rfl

/-! ### setOutfeed -/

@[simp] theorem State.setOutfeed_pending (s : State) (x : Outfeed) : (s.setOutfeed x).pending = s.pending := rfl
@[simp] theorem State.setOutfeed_powered (s : State) (x : Outfeed) : (s.setOutfeed x).powered = s.powered := rfl
@[simp] theorem State.setOutfeed_freeNo (s : State) (x : Outfeed) : (s.setOutfeed x).freeNo = s.freeNo := rfl
@[simp] theorem State.setOutfeed_timer (s : State) (x : Outfeed) : (s.setOutfeed x).timer = s.timer := rfl
@[simp] theorem State.setOutfeed_loader (s : State) (x : Outfeed) : (s.setOutfeed x).loader = s.loader := rfl
@[simp] theorem State.setOutfeed_plate (s : State) (x : Outfeed) : (s.setOutfeed x).plate = s.plate := rfl
@[simp] theorem State.setOutfeed_summary (s : State) (x : Outfeed) : (s.setOutfeed x).summary = s.summary := rfl
@[simp] theorem State.setOutfeed_store (s : State) (x : Outfeed) : (s.setOutfeed x).store = s.store := rfl
@[simp] theorem State.setOutfeed_queue (s : State) (x : Outfeed) : (s.setOutfeed x).queue = s.queue := rfl
@[simp] theorem State.setOutfeed_dispatch (s : State) (x : Outfeed) : (s.setOutfeed x).dispatch = s.dispatch := rfl
@[simp] theorem State.setOutfeed_share (s : State) (x : Outfeed) : (s.setOutfeed x).share = s.share := rfl
@[simp] theorem State.setOutfeed_bus (s : State) (x : Outfeed) : (s.setOutfeed x).bus = s.bus := rfl
@[simp] theorem State.setOutfeed_peers (s : State) (x : Outfeed) : (s.setOutfeed x).peers = s.peers := rfl
@[simp] theorem State.setOutfeed_outfeed (s : State) (x : Outfeed) : (s.setOutfeed x).outfeed = x := rfl
@[simp] theorem State.setOutfeed_label (s : State) (x : Outfeed) : (s.setOutfeed x).label = s.label := rfl
@[simp] theorem State.setOutfeed_link (s : State) (x : Outfeed) : (s.setOutfeed x).link = s.link := rfl

/-! ### setLabel -/

@[simp] theorem State.setLabel_pending (s : State) (x : LabelUnit) : (s.setLabel x).pending = s.pending := rfl
@[simp] theorem State.setLabel_powered (s : State) (x : LabelUnit) : (s.setLabel x).powered = s.powered := rfl
@[simp] theorem State.setLabel_freeNo (s : State) (x : LabelUnit) : (s.setLabel x).freeNo = s.freeNo := rfl
@[simp] theorem State.setLabel_timer (s : State) (x : LabelUnit) : (s.setLabel x).timer = s.timer := rfl
@[simp] theorem State.setLabel_loader (s : State) (x : LabelUnit) : (s.setLabel x).loader = s.loader := rfl
@[simp] theorem State.setLabel_plate (s : State) (x : LabelUnit) : (s.setLabel x).plate = s.plate := rfl
@[simp] theorem State.setLabel_summary (s : State) (x : LabelUnit) : (s.setLabel x).summary = s.summary := rfl
@[simp] theorem State.setLabel_store (s : State) (x : LabelUnit) : (s.setLabel x).store = s.store := rfl
@[simp] theorem State.setLabel_queue (s : State) (x : LabelUnit) : (s.setLabel x).queue = s.queue := rfl
@[simp] theorem State.setLabel_dispatch (s : State) (x : LabelUnit) : (s.setLabel x).dispatch = s.dispatch := rfl
@[simp] theorem State.setLabel_share (s : State) (x : LabelUnit) : (s.setLabel x).share = s.share := rfl
@[simp] theorem State.setLabel_bus (s : State) (x : LabelUnit) : (s.setLabel x).bus = s.bus := rfl
@[simp] theorem State.setLabel_peers (s : State) (x : LabelUnit) : (s.setLabel x).peers = s.peers := rfl
@[simp] theorem State.setLabel_outfeed (s : State) (x : LabelUnit) : (s.setLabel x).outfeed = s.outfeed := rfl
@[simp] theorem State.setLabel_label (s : State) (x : LabelUnit) : (s.setLabel x).label = x := rfl
@[simp] theorem State.setLabel_link (s : State) (x : LabelUnit) : (s.setLabel x).link = s.link := rfl

/-! ### setLink -/

@[simp] theorem State.setLink_pending (s : State) (x : Link) : (s.setLink x).pending = s.pending := rfl
@[simp] theorem State.setLink_powered (s : State) (x : Link) : (s.setLink x).powered = s.powered := rfl
@[simp] theorem State.setLink_freeNo (s : State) (x : Link) : (s.setLink x).freeNo = s.freeNo := rfl
@[simp] theorem State.setLink_timer (s : State) (x : Link) : (s.setLink x).timer = s.timer := rfl
@[simp] theorem State.setLink_loader (s : State) (x : Link) : (s.setLink x).loader = s.loader := rfl
@[simp] theorem State.setLink_plate (s : State) (x : Link) : (s.setLink x).plate = s.plate := rfl
@[simp] theorem State.setLink_summary (s : State) (x : Link) : (s.setLink x).summary = s.summary := rfl
@[simp] theorem State.setLink_store (s : State) (x : Link) : (s.setLink x).store = s.store := rfl
@[simp] theorem State.setLink_queue (s : State) (x : Link) : (s.setLink x).queue = s.queue := rfl
@[simp] theorem State.setLink_dispatch (s : State) (x : Link) : (s.setLink x).dispatch = s.dispatch := rfl
@[simp] theorem State.setLink_share (s : State) (x : Link) : (s.setLink x).share = s.share := rfl
@[simp] theorem State.setLink_bus (s : State) (x : Link) : (s.setLink x).bus = s.bus := rfl
@[simp] theorem State.setLink_peers (s : State) (x : Link) : (s.setLink x).peers = s.peers := rfl
@[simp] theorem State.setLink_outfeed (s : State) (x : Link) : (s.setLink x).outfeed = s.outfeed := rfl
@[simp] theorem State.setLink_label (s : State) (x : Link) : (s.setLink x).label = s.label := rfl
@[simp] theorem State.setLink_link (s : State) (x : Link) : (s.setLink x).link = x := rfl

/-! ### setTimer -/

@[simp] theorem State.setTimer_pending (s : State) (x : Timer) : (s.setTimer x).pending = s.pending := rfl
@[simp] theorem State.setTimer_powered (s : State) (x : Timer) : (s.setTimer x).powered = s.powered := rfl
@[simp] theorem State.setTimer_freeNo (s : State) (x : Timer) : (s.setTimer x).freeNo = s.freeNo := rfl
@[simp] theorem State.setTimer_timer (s : State) (x : Timer) : (s.setTimer x).timer = x := rfl
@[simp] theorem State.setTimer_loader (s : State) (x : Timer) : (s.setTimer x).loader = s.loader := rfl
@[simp] theorem State.setTimer_plate (s : State) (x : Timer) : (s.setTimer x).plate = s.plate := rfl
@[simp] theorem State.setTimer_summary (s : State) (x : Timer) : (s.setTimer x).summary = s.summary := rfl
@[simp] theorem State.setTimer_store (s : State) (x : Timer) : (s.setTimer x).store = s.store := rfl
@[simp] theorem State.setTimer_queue (s : State) (x : Timer) : (s.setTimer x).queue = s.queue := rfl
@[simp] theorem State.setTimer_dispatch (s : State) (x : Timer) : (s.setTimer x).dispatch = s.dispatch := rfl
@[simp] theorem State.setTimer_share (s : State) (x : Timer) : (s.setTimer x).share = s.share := rfl
@[simp] theorem State.setTimer_bus (s : State) (x : Timer) : (s.setTimer x).bus = s.bus := rfl
@[simp] theorem State.setTimer_peers (s : State) (x : Timer) : (s.setTimer x).peers = s.peers := rfl
@[simp] theorem State.setTimer_outfeed (s : State) (x : Timer) : (s.setTimer x).outfeed = s.outfeed := rfl
@[simp] theorem State.setTimer_label (s : State) (x : Timer) : (s.setTimer x).label = s.label := rfl
@[simp] theorem State.setTimer_link (s : State) (x : Timer) : (s.setTimer x).link = s.link := rfl

/-! ### setFreeNo -/

@[simp] theorem State.setFreeNo_pending (s : State) (x : Nat) : (s.setFreeNo x).pending = s.pending := rfl
@[simp] theorem State.setFreeNo_powered (s : State) (x : Nat) : (s.setFreeNo x).powered = s.powered := rfl
@[simp] theorem State.setFreeNo_freeNo (s : State) (x : Nat) : (s.setFreeNo x).freeNo = x := rfl
@[simp] theorem State.setFreeNo_timer (s : State) (x : Nat) : (s.setFreeNo x).timer = s.timer := rfl
@[simp] theorem State.setFreeNo_loader (s : State) (x : Nat) : (s.setFreeNo x).loader = s.loader := rfl
@[simp] theorem State.setFreeNo_plate (s : State) (x : Nat) : (s.setFreeNo x).plate = s.plate := rfl
@[simp] theorem State.setFreeNo_summary (s : State) (x : Nat) : (s.setFreeNo x).summary = s.summary := rfl
@[simp] theorem State.setFreeNo_store (s : State) (x : Nat) : (s.setFreeNo x).store = s.store := rfl
@[simp] theorem State.setFreeNo_queue (s : State) (x : Nat) : (s.setFreeNo x).queue = s.queue := rfl
@[simp] theorem State.setFreeNo_dispatch (s : State) (x : Nat) : (s.setFreeNo x).dispatch = s.dispatch := rfl
@[simp] theorem State.setFreeNo_share (s : State) (x : Nat) : (s.setFreeNo x).share = s.share := rfl
@[simp] theorem State.setFreeNo_bus (s : State) (x : Nat) : (s.setFreeNo x).bus = s.bus := rfl
@[simp] theorem State.setFreeNo_peers (s : State) (x : Nat) : (s.setFreeNo x).peers = s.peers := rfl
@[simp] theorem State.setFreeNo_outfeed (s : State) (x : Nat) : (s.setFreeNo x).outfeed = s.outfeed := rfl
@[simp] theorem State.setFreeNo_label (s : State) (x : Nat) : (s.setFreeNo x).label = s.label := rfl
@[simp] theorem State.setFreeNo_link (s : State) (x : Nat) : (s.setFreeNo x).link = s.link := rfl

/-! ### setPowered -/

@[simp] theorem State.setPowered_pending (s : State) (x : Bool) : (s.setPowered x).pending = s.pending := rfl
@[simp] theorem State.setPowered_powered (s : State) (x : Bool) : (s.setPowered x).powered = x := rfl
@[simp] theorem State.setPowered_freeNo (s : State) (x : Bool) : (s.setPowered x).freeNo = s.freeNo := rfl
@[simp] theorem State.setPowered_timer (s : State) (x : Bool) : (s.setPowered x).timer = s.timer := rfl
@[simp] theorem State.setPowered_loader (s : State) (x : Bool) : (s.setPowered x).loader = s.loader := rfl
@[simp] theorem State.setPowered_plate (s : State) (x : Bool) : (s.setPowered x).plate = s.plate := rfl
@[simp] theorem State.setPowered_summary (s : State) (x : Bool) : (s.setPowered x).summary = s.summary := rfl
@[simp] theorem State.setPowered_store (s : State) (x : Bool) : (s.setPowered x).store = s.store := rfl
@[simp] theorem State.setPowered_queue (s : State) (x : Bool) : (s.setPowered x).queue = s.queue := rfl
@[simp] theorem State.setPowered_dispatch (s : State) (x : Bool) : (s.setPowered x).dispatch = s.dispatch := rfl
@[simp] theorem State.setPowered_share (s : State) (x : Bool) : (s.setPowered x).share = s.share := rfl
@[simp] theorem State.setPowered_bus (s : State) (x : Bool) : (s.setPowered x).bus = s.bus := rfl
@[simp] theorem State.setPowered_peers (s : State) (x : Bool) : (s.setPowered x).peers = s.peers := rfl
@[simp] theorem State.setPowered_outfeed (s : State) (x : Bool) : (s.setPowered x).outfeed = s.outfeed := rfl
@[simp] theorem State.setPowered_label (s : State) (x : Bool) : (s.setPowered x).label = s.label := rfl
@[simp] theorem State.setPowered_link (s : State) (x : Bool) : (s.setPowered x).link = s.link := rfl

end Sys2Proof.Machine
end

