-- ==== Sys2Proof/Laws/Parcels.lean ====
section
/-! SUPPORT. What the operations on the parcel queue do to the record of a tag that stands alone among the others, and
what ends, owes, quotes and places a report can change. -/

namespace Sys2Proof.Machine

/-! ### The record of a tag -/

variable {s : State} {older younger : List Parcel} {p : Parcel}

/-- The record that holds a tag is found by it. -/
theorem State.Holds.find (h : s.Holds older p younger) : s.queue.find p.tag = some p := by
  have h1 : older.find? (fun q => q.tag == p.tag) = none := by
    simp only [List.find?_eq_none, beq_iff_eq]
    exact fun q hq => h.2 q (List.mem_append_left _ hq)
  simp [ParcelQueue.find, h.1, List.find?_append, h1]

/-- A change of the record of a tag changes that record alone. -/
theorem State.Holds.update (h : s.Holds older p younger) (f : Parcel → Parcel) :
    s.queue.update p.tag f = { s.queue with parcels := older ++ f p :: younger } := by
  have h1 : older.map (fun q => if q.tag = p.tag then f q else q) = older :=
    (List.map_congr_left (fun q hq => if_neg (h.2 q (List.mem_append_left _ hq)))).trans (List.map_id _)
  have h2 : younger.map (fun q => if q.tag = p.tag then f q else q) = younger :=
    (List.map_congr_left (fun q hq => if_neg (h.2 q (List.mem_append_right _ hq)))).trans (List.map_id _)
  simp [ParcelQueue.update, h.1, h1, h2]

/-- The removal of the record of a tag leaves the others in their order. -/
theorem State.Holds.remove (h : s.Holds older p younger) :
    s.queue.remove p.tag = { s.queue with parcels := older ++ younger } := by
  have h1 : older.filter (fun q => q.tag != p.tag) = older := by
    simp only [List.filter_eq_self, bne_iff_ne]
    exact fun q hq => h.2 q (List.mem_append_left _ hq)
  have h2 : younger.filter (fun q => q.tag != p.tag) = younger := by
    simp only [List.filter_eq_self, bne_iff_ne]
    exact fun q hq => h.2 q (List.mem_append_right _ hq)
  simp [ParcelQueue.remove, h.1, h1, h2]

/-- A record in ON-BELT is found on the belt by its tag. -/
theorem State.Holds.beltRecord (h : s.Holds older p younger) (hb : p.state = .onBelt) :
    s.queue.beltRecord p.tag = some p := by
  have h1 : older.find? (fun q => q.tag == p.tag && q.state == .onBelt) = none := by
    simp only [List.find?_eq_none, Bool.and_eq_true, beq_iff_eq, not_and]
    exact fun q hq ht => absurd ht (h.2 q (List.mem_append_left _ hq))
  simp [ParcelQueue.beltRecord, h.1, List.find?_append, h1, hb]

/-- A state with the same parcels holds the same record. -/
theorem State.Holds.congr {t : State} (h : s.Holds older p younger) (ht : t.queue.parcels = s.queue.parcels) :
    t.Holds older p younger := ⟨ht.trans h.1, h.2⟩

/-- No record of the tag: none is found. -/
theorem ParcelQueue.find_none {q : ParcelQueue} {tag : Nat} (h : ∀ p ∈ q.parcels, p.tag ≠ tag) : q.find tag = none := by
  simpa [ParcelQueue.find, List.find?_eq_none] using h

/-! ### What an operation on records and reports can change -/

/-- The end of a record: its report is placed and it leaves, or it stays in its final state owing the report. -/
theorem State.endParcel_cases (s : State) (p : Parcel) (o : EndOutcome) (r : Option Reason) :
    (s.link.reports.length < 16 ∧ s.endParcel p o r = { s with
      queue := s.queue.remove p.tag, link := { s.link with reports := s.link.reports ++ [p.endReport o r] } }) ∨
    (16 ≤ s.link.reports.length ∧ s.endParcel p o r = { s with
      queue := (s.queue.update p.tag (fun p => p.ended o r)).owe p.tag (p.endReport o r) }) := by
  by_cases h : s.link.reports.length < 16
  · exact .inl ⟨h, by simp [State.endParcel, Link.hasRoom, Config.reportLen, h, State.setQueue, State.setLink, Link.put]⟩
  · exact .inr ⟨by omega, by simp [State.endParcel, Link.hasRoom, Config.reportLen, h, State.setQueue]⟩

/-- A row is a command of the terminal exactly when a message spells it. -/
theorem isCommand_eq_encodes (c : Instr) : isCommand c = (encodeMessage c).isSome := by cases c <;> rfl

/-- The command that waits is the first row of the queue that a message spells. -/
theorem State.nextCommand_eq (s : State) : s.nextCommand = s.pending.find? (fun c => (encodeMessage c).isSome) :=
  congrArg (s.pending.find? ·) (funext isCommand_eq_encodes)

/-- An event and a VOID of the record meet: the VOID waits as the next command and the link notes it, or nothing
changes. -/
theorem State.meetVoid_cases (s : State) (tag : Nat) :
    (s.nextCommand = some (.void (byteOf tag)) ∧ s.link.held = none ∧
      s.meetVoid tag = { s with link := { s.link with metVoid := some tag } }) ∨
    (¬(s.nextCommand = some (.void (byteOf tag)) ∧ s.link.held = none) ∧ s.meetVoid tag = s) := by
  by_cases h : s.nextCommand = some (.void (byteOf tag)) ∧ s.link.held = none
  · exact .inl ⟨h.1, h.2, if_pos h⟩
  · exact .inr ⟨h, if_neg h⟩

/-- A VOID that was met is refused with NOT-VOIDABLE, and changes nothing else (R16, R65). -/
theorem State.void_met (s : State) (tag : Nat) (h : s.link.metVoid = some tag) : s.void tag =
    { s with link := { s.link with response := some ⟨3, .notVoidable, []⟩, metVoid := none } } := if_pos h

/-- The QUOTEs that become due change the parcel queue and the reports alone. -/
theorem State.quotesDue_frame (s was : State) :
    ∃ q rs, s.quotesDue was = { s with queue := q, link := { s.link with reports := rs } } := by
  suffices ∀ ps : List Parcel, ∀ s : State, ∃ q rs, ps.foldl State.quoteDue s =
      { s with queue := q, link := { s.link with reports := rs } } from this _ s
  intro ps
  induction ps with
  | nil => exact fun s => ⟨s.queue, s.link.reports, rfl⟩
  | cons p ps ih =>
    intro s
    obtain ⟨q, rs, h⟩ := ih (s.quoteDue p)
    refine ⟨q, rs, h.trans ?_⟩
    unfold State.quoteDue
    split <;> rfl

/-- The QUOTEs that become due enter the report queue in queue order while it has room, each record's once; those left are
owed (R83). -/
theorem State.quotesDue_reports (s was : State) :
    (s.quotesDue was).link.reports = s.link.reports ++
      ((s.queue.newlyQuoted was.queue).take (16 - s.link.reports.length)).map Parcel.quoteReport := by
  suffices ∀ (ps : List Parcel) (s : State), (ps.foldl State.quoteDue s).link.reports = s.link.reports ++
      (ps.take (16 - s.link.reports.length)).map Parcel.quoteReport from this _ s
  intro ps
  induction ps with
  | nil => exact fun s => by simp
  | cons p ps ih =>
    intro s
    rw [List.foldl_cons, ih]
    by_cases h : s.link.reports.length < 16
    · have room : (s.quoteDue p).link.reports = s.link.reports ++ [p.quoteReport] := by
        simp [State.quoteDue, Link.hasRoom, Config.reportLen, h, State.setLink, Link.put]
      obtain ⟨n, hn⟩ : ∃ n, 16 - s.link.reports.length = n + 1 := ⟨15 - s.link.reports.length, by omega⟩
      rw [room, List.length_append, List.length_singleton, hn, List.take_succ_cons, List.map_cons,
        List.append_assoc, List.singleton_append, show 16 - (s.link.reports.length + 1) = n by omega]
    · have full : (s.quoteDue p).link.reports = s.link.reports := by
        simp [State.quoteDue, Link.hasRoom, Config.reportLen, h, State.setQueue]
      rw [full, show 16 - s.link.reports.length = 0 by omega, List.take_zero, List.take_zero]

/-- The record of a tag alone has a new quote number: it alone is newly quoted. -/
theorem ParcelQueue.newlyQuoted_one {q was : ParcelQueue} {older younger : List Parcel} {p p' : Parcel}
    (hw : was.parcels = older ++ p :: younger) (hq : q.parcels = older ++ p' :: younger) (h : p.quote ≠ p'.quote) :
    q.newlyQuoted was = [p'] := by
  have same : ∀ ps : List Parcel, (ps.zip ps).filter (fun x => x.1.quote != x.2.quote) = [] := by
    intro ps
    induction ps with
    | nil => rfl
    | cons a ps ih => simpa using ih
  simp [ParcelQueue.newlyQuoted, hw, hq, List.zip_append, same, h]

/-- No quote number changed: no record is newly quoted. -/
theorem ParcelQueue.newlyQuoted_none {q was : ParcelQueue}
    (h : q.parcels.map Parcel.quote = was.parcels.map Parcel.quote) : q.newlyQuoted was = [] := by
  have none : ∀ ps qs : List Parcel, qs.map Parcel.quote = ps.map Parcel.quote →
      (ps.zip qs).filter (fun x => x.1.quote != x.2.quote) = [] := by
    intro ps
    induction ps with
    | nil => intro qs _; rfl
    | cons a ps ih =>
      rintro (_ | ⟨b, qs⟩) h
      · rfl
      · simp only [List.map_cons, List.cons.injEq] at h
        simp [h.1, ih qs h.2]
  rw [ParcelQueue.newlyQuoted, none _ _ h, List.map_nil]

/-- No quote number changed: no QUOTE becomes due. -/
theorem State.quotesDue_none {s was : State}
    (h : s.queue.parcels.map Parcel.quote = was.queue.parcels.map Parcel.quote) : s.quotesDue was = s := by
  rw [State.quotesDue, ParcelQueue.newlyQuoted_none h, List.foldl_nil]

/-- A free place offered to the owed reports changes the parcel queue and the reports alone. -/
theorem State.placeOwed_frame (s : State) :
    ∃ q rs, s.placeOwed = { s with queue := q, link := { s.link with reports := rs } } := by
  unfold State.placeOwed
  split
  · split
    · exact ⟨s.queue, s.link.reports, rfl⟩
    · split
      · exact ⟨s.queue, s.link.reports, rfl⟩
      · exact ⟨_, _, rfl⟩
  · exact ⟨s.queue, s.link.reports, rfl⟩

/-- A rise of a source's condition changes the link's reports, its lost count, REPORT-LOST and the latches alone. -/
theorem State.rise_frame (s : State) (src : Source) :
    ∃ rs lost rl latch, s.rise src = { s with
      link := { s.link with reports := rs, lost := lost, reportLost := rl, latch := latch } } := by
  unfold State.rise Link.rise Link.putEvent Link.loseReport Link.latchRise State.setLink
  dsimp only
  repeat' split
  all_goals exact ⟨_, _, _, _, rfl⟩

end Sys2Proof.Machine
end

