-- ==== Sys2Proof/Laws/Frames.lean ====
section
/-! SUPPORT. Frames of the shared operations: for each, the blocks that it can change, every other block standing as it
was. -/

namespace Sys2Proof.Machine

/-! ### The frames -/

/-- The link keeps all but its reports, its lost count, REPORT-LOST and its latches. -/
structure NotesFrame (k k' : Link) : Prop where
  mask : k'.mask = k.mask
  edge : k'.edge = k.edge
  held : k'.held = k.held
  response : k'.response = k.response
  metVoid : k'.metVoid = k.metVoid

@[refl] theorem NotesFrame.refl (k : Link) : NotesFrame k k := ⟨rfl, rfl, rfl, rfl, rfl⟩

theorem NotesFrame.trans {a b c : Link} (h : NotesFrame a b) (h' : NotesFrame b c) : NotesFrame a c :=
  ⟨h'.mask.trans h.mask, h'.edge.trans h.edge, h'.held.trans h.held, h'.response.trans h.response,
   h'.metVoid.trans h.metVoid⟩

/-- What booking keeps: all but the dispatch table, whose clock it keeps, the parcel queue, the share agent, the bus
and the reports. -/
structure BooksFrame (s t : State) : Prop where
  pending : t.pending = s.pending
  powered : t.powered = s.powered
  freeNo : t.freeNo = s.freeNo
  timer : t.timer = s.timer
  loader : t.loader = s.loader
  plate : t.plate = s.plate
  summary : t.summary = s.summary
  store : t.store = s.store
  peers : t.peers = s.peers
  outfeed : t.outfeed = s.outfeed
  label : t.label = s.label
  clock : t.dispatch.clock = s.dispatch.clock
  lost : t.link.lost = s.link.lost
  reportLost : t.link.reportLost = s.link.reportLost
  mask : t.link.mask = s.link.mask
  edge : t.link.edge = s.link.edge
  latch : t.link.latch = s.link.latch
  held : t.link.held = s.link.held
  response : t.link.response = s.link.response
  metVoid : t.link.metVoid = s.link.metVoid

theorem BooksFrame.refl (s : State) : BooksFrame s s :=
  ⟨rfl, rfl, rfl, rfl, rfl, rfl, rfl, rfl, rfl, rfl, rfl, rfl, rfl, rfl, rfl, rfl, rfl, rfl, rfl, rfl⟩

theorem BooksFrame.trans {a b c : State} (h : BooksFrame a b) (h' : BooksFrame b c) : BooksFrame a c :=
  ⟨h'.pending.trans h.pending, h'.powered.trans h.powered, h'.freeNo.trans h.freeNo, h'.timer.trans h.timer,
   h'.loader.trans h.loader, h'.plate.trans h.plate, h'.summary.trans h.summary, h'.store.trans h.store,
   h'.peers.trans h.peers, h'.outfeed.trans h.outfeed, h'.label.trans h.label, h'.clock.trans h.clock,
   h'.lost.trans h.lost, h'.reportLost.trans h.reportLost, h'.mask.trans h.mask, h'.edge.trans h.edge,
   h'.latch.trans h.latch, h'.held.trans h.held, h'.response.trans h.response,
   h'.metVoid.trans h.metVoid⟩

/-- What the printer keeps: all but the label unit and what the link notes. -/
structure PrintsFrame (s t : State) : Prop where
  pending : t.pending = s.pending
  powered : t.powered = s.powered
  freeNo : t.freeNo = s.freeNo
  timer : t.timer = s.timer
  loader : t.loader = s.loader
  plate : t.plate = s.plate
  summary : t.summary = s.summary
  store : t.store = s.store
  queue : t.queue = s.queue
  dispatch : t.dispatch = s.dispatch
  share : t.share = s.share
  bus : t.bus = s.bus
  peers : t.peers = s.peers
  outfeed : t.outfeed = s.outfeed
  link : NotesFrame s.link t.link

theorem PrintsFrame.refl (s : State) : PrintsFrame s s :=
  ⟨rfl, rfl, rfl, rfl, rfl, rfl, rfl, rfl, rfl, rfl, rfl, rfl, rfl, rfl, .refl _⟩

theorem PrintsFrame.trans {a b c : State} (h : PrintsFrame a b) (h' : PrintsFrame b c) : PrintsFrame a c :=
  ⟨h'.pending.trans h.pending, h'.powered.trans h.powered, h'.freeNo.trans h.freeNo, h'.timer.trans h.timer,
   h'.loader.trans h.loader, h'.plate.trans h.plate, h'.summary.trans h.summary, h'.store.trans h.store,
   h'.queue.trans h.queue, h'.dispatch.trans h.dispatch, h'.share.trans h.share, h'.bus.trans h.bus,
   h'.peers.trans h.peers, h'.outfeed.trans h.outfeed, h.link.trans h'.link⟩

/-- What the belt keeps: all but the parcel queue, the dispatch table, whose clock it keeps, the outfeed, the label
unit and what the link notes. -/
structure BeltFrame (s t : State) : Prop where
  pending : t.pending = s.pending
  powered : t.powered = s.powered
  freeNo : t.freeNo = s.freeNo
  timer : t.timer = s.timer
  loader : t.loader = s.loader
  plate : t.plate = s.plate
  summary : t.summary = s.summary
  store : t.store = s.store
  share : t.share = s.share
  bus : t.bus = s.bus
  peers : t.peers = s.peers
  clock : t.dispatch.clock = s.dispatch.clock
  link : NotesFrame s.link t.link

theorem BeltFrame.refl (s : State) : BeltFrame s s :=
  ⟨rfl, rfl, rfl, rfl, rfl, rfl, rfl, rfl, rfl, rfl, rfl, rfl, .refl _⟩

theorem BeltFrame.trans {a b c : State} (h : BeltFrame a b) (h' : BeltFrame b c) : BeltFrame a c :=
  ⟨h'.pending.trans h.pending, h'.powered.trans h.powered, h'.freeNo.trans h.freeNo, h'.timer.trans h.timer,
   h'.loader.trans h.loader, h'.plate.trans h.plate, h'.summary.trans h.summary, h'.store.trans h.store,
   h'.share.trans h.share, h'.bus.trans h.bus, h'.peers.trans h.peers, h'.clock.trans h.clock, h.link.trans h'.link⟩

/-- What the hall keeps: all but the dispatch table, whose clock it keeps, the parcel queue, the share agent, the
bus, the peer table and what the link notes. -/
structure HallFrame (s t : State) : Prop where
  pending : t.pending = s.pending
  powered : t.powered = s.powered
  freeNo : t.freeNo = s.freeNo
  timer : t.timer = s.timer
  loader : t.loader = s.loader
  plate : t.plate = s.plate
  summary : t.summary = s.summary
  store : t.store = s.store
  outfeed : t.outfeed = s.outfeed
  label : t.label = s.label
  clock : t.dispatch.clock = s.dispatch.clock
  link : NotesFrame s.link t.link

theorem HallFrame.refl (s : State) : HallFrame s s :=
  ⟨rfl, rfl, rfl, rfl, rfl, rfl, rfl, rfl, rfl, rfl, rfl, .refl _⟩

theorem HallFrame.trans {a b c : State} (h : HallFrame a b) (h' : HallFrame b c) : HallFrame a c :=
  ⟨h'.pending.trans h.pending, h'.powered.trans h.powered, h'.freeNo.trans h.freeNo, h'.timer.trans h.timer,
   h'.loader.trans h.loader, h'.plate.trans h.plate, h'.summary.trans h.summary, h'.store.trans h.store,
   h'.outfeed.trans h.outfeed, h'.label.trans h.label, h'.clock.trans h.clock, h.link.trans h'.link⟩

theorem PrintsFrame.belt {s t : State} (h : PrintsFrame s t) : BeltFrame s t :=
  ⟨h.pending, h.powered, h.freeNo, h.timer, h.loader, h.plate, h.summary, h.store, h.share, h.bus, h.peers,
   congrArg _ h.dispatch, h.link⟩

theorem BooksFrame.hall {s t : State} (h : BooksFrame s t) : HallFrame s t :=
  ⟨h.pending, h.powered, h.freeNo, h.timer, h.loader, h.plate, h.summary, h.store, h.outfeed, h.label, h.clock,
   ⟨h.mask, h.edge, h.held, h.response, h.metVoid⟩⟩

/-! ### Raised conditions -/

/-- A rise changes what the link notes alone. -/
theorem State.rise_notes (s : State) (src : Source) : ∃ k, NotesFrame s.link k ∧ s.rise src = { s with link := k } := by
  obtain ⟨rs, lost, rl, latch, h⟩ := s.rise_frame src
  exact ⟨{ s.link with reports := rs, lost := lost, reportLost := rl, latch := latch }, ⟨rfl, rfl, rfl, rfl, rfl⟩, h⟩

/-- BUS-STATE raised: true, and nothing else but the notes. -/
theorem State.raiseBus_frame (s : State) :
    ∃ k, NotesFrame s.link k ∧ s.raiseBus = { s with bus := { s.bus with changed := true }, link := k } := by
  unfold State.raiseBus
  split
  next h =>
    have same : { s.bus with changed := true } = s.bus := by rw [← h]
    exact ⟨_, .refl _, by rw [same]⟩
  next => exact State.rise_notes (s.setBus { s.bus with changed := true }) .busState

/-- PEER-CHANGE raised: true, and nothing else but the notes. -/
theorem State.raisePeer_frame (s : State) :
    ∃ k, NotesFrame s.link k ∧ s.raisePeer = { s with peers := { s.peers with changed := true }, link := k } := by
  unfold State.raisePeer
  split
  next h =>
    have same : { s.peers with changed := true } = s.peers := by rw [← h]
    exact ⟨_, .refl _, by rw [same]⟩
  next => exact State.rise_notes (s.setPeers { s.peers with changed := true }) .peerChange

/-- DUPLICATE raised: true, and nothing else but the notes. -/
theorem State.raiseDuplicate_frame (s : State) :
    ∃ k, NotesFrame s.link k ∧
      s.raiseDuplicate = { s with peers := { s.peers with duplicate := true }, link := k } := by
  unfold State.raiseDuplicate
  split
  next h =>
    have same : { s.peers with duplicate := true } = s.peers := by rw [← h]
    exact ⟨_, .refl _, by rw [same]⟩
  next => exact State.rise_notes (s.setPeers { s.peers with duplicate := true }) .duplicate

/-- JAM raised: true, and nothing else but the notes. -/
theorem State.raiseJam_frame (s : State) :
    ∃ k, NotesFrame s.link k ∧ s.raiseJam = { s with outfeed := { s.outfeed with jammed := true }, link := k } := by
  unfold State.raiseJam
  split
  next h =>
    have same : { s.outfeed with jammed := true } = s.outfeed := by rw [← h]
    exact ⟨_, .refl _, by rw [same]⟩
  next => exact State.rise_notes (s.setOutfeed { s.outfeed with jammed := true }) .jam

/-- EDGE-OVERRUN raised: true, and nothing else but the notes. -/
theorem State.raiseOverrun_frame (s : State) :
    ∃ k, NotesFrame s.link k ∧
      s.raiseOverrun = { s with outfeed := { s.outfeed with overrun := true }, link := k } := by
  unfold State.raiseOverrun
  split
  next h =>
    have same : { s.outfeed with overrun := true } = s.outfeed := by rw [← h]
    exact ⟨_, .refl _, by rw [same]⟩
  next => exact State.rise_notes (s.setOutfeed { s.outfeed with overrun := true }) .edgeOverrun

/-- SENSOR-FAULT takes a value, and nothing else changes but the notes. -/
theorem State.setSensorFault_frame (s : State) (v : Bool) :
    ∃ k, NotesFrame s.link k ∧
      s.setSensorFault v = { s with plate := { s.plate with sensorFault := v }, link := k } := by
  unfold State.setSensorFault
  dsimp only
  split
  · exact State.rise_notes (s.setPlate { s.plate with sensorFault := v }) .sensorFault
  · exact ⟨s.link, .refl _, rfl⟩

/-! ### The printer -/

/-- The printer goes to FAULT within its frame. -/
theorem State.printerToFault_prints (s : State) : PrintsFrame s s.printerToFault := by
  unfold State.printerToFault
  dsimp only
  split
  · constructor <;> rfl
  · obtain ⟨k, hk, h⟩ := State.rise_notes (s.setLabel { s.label with printer := .fault }) .printerFault
    rw [show (s.setLabel { s.label with printer := .fault }).rise .printerFault = _ from h]
    constructor <;> first | rfl | exact hk

/-- An idle printer goes on within its frame. -/
theorem State.printerSettle_prints (s : State) : PrintsFrame s s.printerSettle := by
  unfold State.printerSettle
  split
  · split
    · exact s.printerToFault_prints
    · split
      · constructor <;> rfl
      · exact .refl s
  · exact .refl s

/-- The slot empties within the printer's frame. -/
theorem State.slotEmptied_prints (s : State) : PrintsFrame s s.slotEmptied :=
  PrintsFrame.trans (by constructor <;> rfl) (State.printerSettle_prints _)

/-- A label is discarded within the printer's frame. -/
theorem State.discardLabel_prints (s : State) (tag : Nat) : PrintsFrame s (s.discardLabel tag) := by
  unfold State.discardLabel
  dsimp only
  split
  · split
    · exact PrintsFrame.trans (by constructor <;> rfl) (State.slotEmptied_prints _)
    · constructor <;> rfl
  · constructor <;> rfl

/-- The printer's done event stays within its frame. -/
theorem State.labelDone_prints (s : State) : PrintsFrame s s.labelDone := by
  unfold State.labelDone
  split
  · split
    · constructor <;> rfl
    · exact PrintsFrame.trans (by constructor <;> rfl) (State.printerSettle_prints _)
  · exact .refl s

/-- A failed print stays within the printer's frame. -/
theorem State.printFailed_prints (s : State) : PrintsFrame s s.printFailed := by
  unfold State.printFailed
  split
  · exact PrintsFrame.trans (by constructor <;> rfl) (State.printerToFault_prints _)
  · exact .refl s

/-! ### Bookings -/

/-- A quote placed stays within the frame of booking. -/
theorem State.placeQuote_books (s : State) (tag : Nat) (b : Booked) : BooksFrame s (s.placeQuote tag b) := by
  constructor <;> rfl

/-- The QUOTEs that become due stay within the frame of booking. -/
theorem State.quotesDue_books (s was : State) : BooksFrame s (s.quotesDue was) := by
  obtain ⟨q, rs, h⟩ := s.quotesDue_frame was
  rw [h]
  constructor <;> rfl

/-- The end of a booking on a dispatch stays within the frame. -/
theorem State.bookOn_books (s : State) (b : Booking) (day slot : Nat) : BooksFrame s (s.bookOn b day slot) :=
  BooksFrame.trans (by constructor <;> rfl) (State.placeQuote_books _ _ _)

/-- The end of a booking DEFERRED stays within the frame. -/
theorem State.bookDeferred_books (s : State) (b : Booking) : BooksFrame s (s.bookDeferred b) :=
  BooksFrame.trans (by constructor <;> rfl) (State.placeQuote_books _ _ _)

/-- The opening of an ask stays within the frame. -/
theorem State.openAsk_books (s : State) (route day slot wanted : Nat) : BooksFrame s (s.openAsk route day slot
  wanted) := by
  unfold State.openAsk
  dsimp only
  split
  · constructor <;> rfl
  · constructor <;> rfl

/-- A booking that asks stays within the frame. -/
theorem State.askFor_books (s : State) (b : Booking) (e : Entry) : BooksFrame s (s.askFor b e) :=
  BooksFrame.trans (by constructor <;> rfl) (State.openAsk_books _ _ _ _ _)

/-- A booking's trials stay within the frame. -/
theorem State.tryEntries_books (n : Nat) (s : State) (b : Booking) : BooksFrame s (State.tryEntries n s b) := by
  induction n generalizing s b with
  | zero => exact s.bookDeferred_books b
  | succ n ih =>
    unfold State.tryEntries
    split
    · exact s.bookDeferred_books b
    · split
      · exact s.bookOn_books _ _ _
      · split
        · exact s.askFor_books _ _
        · exact BooksFrame.trans (by constructor <;> rfl) (ih _ _)

/-- The current booking is tried within the frame. -/
theorem State.tryCurrent_books (s : State) : BooksFrame s s.tryCurrent := by
  unfold State.tryCurrent
  split
  · split
    · exact .refl s
    · exact State.tryEntries_books _ s _
  · exact .refl s

/-- The line is served within the frame. -/
theorem State.serveFor_books (n : Nat) (s : State) : BooksFrame s (State.serveFor n s) := by
  induction n generalizing s with
  | zero => exact .refl s
  | succ n ih =>
    unfold State.serveFor
    split
    · exact (BooksFrame.trans (by constructor <;> rfl) (State.tryCurrent_books _)).trans (ih _)
    · exact .refl s

/-- The bookings go on within the frame. -/
theorem State.bookings_books (s : State) : BooksFrame s s.bookings :=
  s.tryCurrent_books.trans (State.serveFor_books _ _)

/-- An open ask closes within the frame. -/
theorem State.closeAsk_books (s : State) : BooksFrame s s.closeAsk := by
  unfold State.closeAsk
  split
  · exact .refl s
  · dsimp only
    split
    · constructor <;> rfl
    · constructor <;> rfl

/-- The end of an ask is reported within the frame. -/
theorem State.reportAskEnd_books (s : State) : BooksFrame s s.reportAskEnd := by
  unfold State.reportAskEnd
  split
  · split
    · exact BooksFrame.trans (by constructor <;> rfl) (State.bookings_books _)
    · exact .refl s
  · exact .refl s

/-- An ask ends, and the QUOTEs of its event become due, within the frame of booking. -/
theorem State.endAskSince_books (s was : State) : BooksFrame s (s.endAskSince was) := by
  unfold State.endAskSince
  split
  · exact (s.closeAsk_books.trans (State.reportAskEnd_books _)).trans (State.quotesDue_books _ _)
  · exact .refl s

/-- The ending of an ASK frame is taken within the frame of booking. -/
theorem State.askEnding_books (s : State) (e : Ending) : BooksFrame s (s.askEnding e) := by
  unfold State.askEnding
  split
  · exact .refl s
  · split
    · constructor <;> rfl
    · constructor <;> rfl
    · exact s.closeAsk_books.trans (State.reportAskEnd_books _)
    · exact s.closeAsk_books.trans (State.reportAskEnd_books _)
    · exact .refl s
    · exact .refl s
    · exact .refl s

/-! ### Closings -/

/-- Step 3 of a closing stays within the frame of booking. -/
theorem State.closeAskFor_books (s : State) (route day slot : Nat) : BooksFrame s (s.closeAskFor route day slot) := by
  have roll : ∀ t : State, BooksFrame t (t.rollClosed route day slot) := by
    intro t
    unfold State.rollClosed
    split
    · split
      · dsimp only
        split
        · constructor <;> rfl
        · exact t.bookDeferred_books _
      · exact .refl t
    · exact .refl t
  unfold State.closeAskFor
  split
  · exact s.closeAsk_books.trans (roll _)
  · exact roll s

/-- The head entry of a ring closes within the frame of booking. -/
theorem State.closeHead_books (s : State) (route : Nat) (e : Entry) : BooksFrame s (s.closeHead route e) := by
  have h1 : BooksFrame s ((s.setDispatch (s.dispatch.expire e.held)).putBus
      (s.bus.withdrawGives (fun g => g.names route e.day e.slot))) := by constructor <;> rfl
  have h2 := h1.trans (State.closeAskFor_books _ route e.day e.slot)
  have last : ∀ t : State, BooksFrame t
      (let s4 := t.setDispatch (t.dispatch.updateRing route (fun r => r.refill s.store))
       let s5 := s4.setDispatch
         { s4.dispatch with line := s4.dispatch.line ++ requotes s4.queue.parcels route e.day e.slot }
       s5.setQueue { s5.queue with parcels := s5.queue.parcels.map (fun p => p.entryClosed route e.day e.slot) }) :=
    fun t => by constructor <;> rfl
  exact h2.trans (last _)

/-- The closings of a forward step stay within the frame of booking. -/
theorem State.closeSpan_books (n : Nat) (s : State) (c : ClockTime) (d : Nat) : BooksFrame s (State.closeSpan n s c
  d) := by
  induction n generalizing s with
  | zero => exact .refl s
  | succ n ih =>
    unfold State.closeSpan
    split
    · exact (s.closeHead_books _ _).trans (ih _)
    · exact .refl s

/-! ### The hall -/

/-- The ending of a GIVE stays within the frame of the hall. -/
theorem State.giveEnding_halls (s : State) (g : TxGive) (e : Ending) : HallFrame s (s.giveEnding g e) := by
  have ends : s.dispatch.clock = (s.dispatch.giveEnds g e).clock := by cases e <;> rfl
  have h1 : ∀ b : Bool, HallFrame s (if b then s.setDispatch (s.dispatch.giveEnds g e) else s) := by
    intro b
    cases b
    · exact .refl s
    · constructor <;> first | rfl | exact ends.symm
  unfold State.giveEnding
  dsimp only
  split
  · exact (h1 g.live).trans (by constructor <;> rfl)
  · exact h1 g.live

/-- The emptying of the transmit queue stays within the frame of the hall. -/
theorem State.emptyQueue_halls (s : State) : HallFrame s s.emptyQueue := by
  have drop : ∀ (gs : List TxGive) (t : State), HallFrame t (State.dropGives gs t) := by
    intro gs
    induction gs with
    | nil => exact fun t => .refl t
    | cons g rest ih => exact fun t => (t.giveEnding_halls g _).trans (ih _)
  exact HallFrame.trans (by constructor <;> rfl) (drop _ _)

/-- A change of bus state: the state is the new one with BUS-STATE true, within the frame of the hall. -/
theorem State.changeBus_halls (s : State) (st : BusState) : HallFrame s (s.changeBus st) := by
  obtain ⟨k, hk, h⟩ := State.raiseBus_frame (s.enterBus st)
  rw [show s.changeBus st = _ from h]
  constructor <;> first | rfl | exact hk

/-- The bus controller entered in a state is in it. -/
theorem BusController.enter_state (b : BusController) (l : Loader) (now : Nat) (st : BusState) :
    (b.enter l now st).state = st := by
  unfold BusController.enter
  cases st <;> simp only [BusController.queuePresence] <;> split <;> rfl

/-- Entry to FAILED stays within the frame of the hall. -/
theorem State.enterFailed_halls (s was : State) : HallFrame s (s.enterFailed was) := by
  have h0 : HallFrame s (s.enterBus .failed) := (by constructor <;> rfl)
  have h1 := (h0.trans (State.emptyQueue_halls _)).trans (State.endAskSince_books _ was).hall
  obtain ⟨k, hk, h⟩ := State.raiseBus_frame ((s.enterBus .failed).emptyQueue.endAskSince was)
  rw [show s.enterFailed was = _ from h]
  exact h1.trans (by constructor <;> first | rfl | exact hk)

/-- The QUIET trigger stays within the frame of the hall. -/
theorem State.quietTrigger_halls (s was : State) : HallFrame s (s.quietTrigger was) := by
  have bus : ∀ b, HallFrame s (s.setBus b) := fun b => (by constructor <;> rfl)
  unfold State.quietTrigger
  dsimp only
  split
  · exact (((bus _).trans (State.changeBus_halls _ _)).trans (State.emptyQueue_halls _)).trans
      (State.endAskSince_books _ _).hall
  · exact (bus _).trans (State.enterFailed_halls _ _)

/-- An ending handed back stays within the frame of the hall. -/
theorem State.handBack_halls (s : State) (was : BusController) (k : TxKind) (e : Ending) :
    HallFrame s (s.handBack was k e) := by
  unfold State.handBack
  repeat' split
  all_goals first
    | exact s.giveEnding_halls _ _
    | exact (s.askEnding_books _).hall
    | exact s.changeBus_halls _
    | exact .refl s
    | constructor <;> rfl

/-- A frame leaves the queue within the frame of the hall. -/
theorem State.endFrame_halls (s : State) (k : TxKind) (e : Ending) : HallFrame s (s.endFrame k e) :=
  (HallFrame.trans (by constructor <;> rfl) (State.handBack_halls _ _ _ _)).trans (State.quotesDue_books _ _).hall

/-- A failed attempt stays within the frame of the hall. -/
theorem State.failAttempt_halls (s : State) (k : TxKind) : HallFrame s (s.failAttempt k) := by
  have bus : ∀ (t : State) (b : BusController), HallFrame t (t.setBus b) :=
    fun t b => (by constructor <;> rfl)
  have abandoned : ∀ t : State, HallFrame t (t.abandon k) := by
    intro t
    have due : ∀ (b : Bool) (u was : State), HallFrame t u → HallFrame t (if b then u else u.quotesDue was)
      | true, _, _, h => h
      | false, _, _, h => h.trans (State.quotesDue_books _ _).hall
    unfold State.abandon
    dsimp only
    split
    · exact (bus _ _).trans (State.endFrame_halls _ _ _)
    · exact (due _ _ _ (((bus _ _).trans (bus _ _)).trans (State.handBack_halls _ _ _ _))).trans
        (State.quietTrigger_halls _ _)
  unfold State.failAttempt
  dsimp only
  split
  · exact bus _ _
  · exact (bus _ _).trans (abandoned _)

/-- What the sender sees of its acknowledgement slot stays within the frame of the hall. -/
theorem State.slotSeen_halls (s : State) (k : TxKind) (dominant : Bool) : HallFrame s (s.slotSeen k dominant) := by
  have complete : ∀ e, HallFrame s (s.complete k e) := fun e =>
    HallFrame.trans (by constructor <;> rfl) (State.endFrame_halls _ _ _)
  unfold State.slotSeen
  cases dominant <;> cases k <;> first | exact complete _ | exact s.failAttempt_halls _

/-! ### The belt -/

/-- The end of a record stays within the frame of the belt. -/
theorem State.endParcel_belts (s : State) (p : Parcel) (o : EndOutcome) (r : Option Reason) :
    BeltFrame s (s.endParcel p o r) := by
  obtain ⟨-, h⟩ | ⟨-, h⟩ := s.endParcel_cases p o r
  · rw [h]
    constructor <;> first | rfl | exact ⟨rfl, rfl, rfl, rfl, rfl⟩
  · rw [h]
    constructor <;> rfl

/-- The release of a booking changes rings alone. -/
theorem DispatchTable.release_frame (d : DispatchTable) (p : Parcel) : ∃ rs, d.release p = { d with rings := rs } := by
  unfold DispatchTable.release
  dsimp only
  repeat' split
  all_goals exact ⟨_, rfl⟩

/-- A rejected record leaves the belt within its frame. -/
theorem State.rejectOnBelt_belts (s : State) (p : Parcel) (r : Reason) : BeltFrame s (s.rejectOnBelt p r) := by
  obtain ⟨rs, h⟩ := DispatchTable.release_frame (s.endParcel p .rejected (some r)).dispatch p
  have h2 : BeltFrame (s.endParcel p .rejected (some r)) ((s.endParcel p .rejected (some r)).release p) := by
    rw [State.release, h]
    constructor <;> rfl
  exact ((s.endParcel_belts p .rejected (some r)).trans h2).trans (State.discardLabel_prints _ _).belt

/-- A marked and diverted record stays within the frame of the belt. -/
theorem State.markAndDivert_belts (s : State) (tag : Nat) (f : Marks → Marks) : BeltFrame s (s.markAndDivert tag f) :=
  by constructor <;> rfl

/-- An action carried out stays within the frame of the belt. -/
theorem State.carry_belts (s : State) (a : Action) : BeltFrame s (s.carry a) := by
  have out : ∀ (t : State) (o : Outfeed), BeltFrame t (t.setOutfeed o) :=
    fun t o => (by constructor <;> rfl)
  have late : ∀ (t : State) (tag : Nat), BeltFrame t
      ((t.markAndDivert tag (fun m => { m with labelLate := true })).leavePrintOrder tag) :=
    fun t tag => by constructor <;> rfl
  have ends : ∀ (t : State) (p : Parcel), BeltFrame t (t.endOnBelt p) := by
    intro t p
    unfold State.endOnBelt
    split
    · exact t.rejectOnBelt_belts _ _
    · exact (t.endParcel_belts _ _ _).trans (State.discardLabel_prints _ _).belt
  unfold State.carry
  split
  · unfold State.carryApply
    split
    · split
      · exact (out s _).trans (State.slotEmptied_prints _).belt
      · exact late s _
    · exact late s _
  · exact out s _
  · unfold State.carryClear
    have h : BeltFrame s (let s1 := s.setOutfeed (s.outfeed.carryClear a.tag)
        if s1.outfeed.hasApply a.tag then s1.mark a.tag (fun m => { m with labelLate := true }) else s1) := by
      dsimp only
      split
      · constructor <;> rfl
      · exact out s _
    dsimp only at h ⊢
    split
    · exact (h.trans (out _ _)).trans (ends _ _)
    · exact h.trans (out _ _)

/-- An action made stays within the frame of the belt. -/
theorem State.makeAction_belts (s : State) (a : Action) : BeltFrame s (s.makeAction a) := by
  unfold State.makeAction
  split
  · exact s.carry_belts a
  · constructor <;> rfl

/-- Pending CLEARs enter the table within the frame of the belt. -/
theorem State.fillClears_belts (n : Nat) (s : State) : BeltFrame s (State.fillClears n s) := by
  induction n generalizing s with
  | zero => exact .refl s
  | succ n ih =>
    unfold State.fillClears
    split
    · split
      · exact (BeltFrame.trans (by constructor <;> rfl) (State.makeAction_belts _ _)).trans (ih _)
      · exact .refl s
    · exact .refl s

/-- The entries reached are carried out within the frame of the belt. -/
theorem State.runActions_belts (n : Nat) (s : State) : BeltFrame s (State.runActions n s) := by
  induction n generalizing s with
  | zero => exact .refl s
  | succ n ih =>
    unfold State.runActions
    split
    · refine ((BeltFrame.trans ?_ (State.carry_belts _ _)).trans (State.fillClears_belts _ _)).trans (ih _)
      constructor <;> rfl
    · exact .refl s

/-- A BREAK taken stays within the frame of the belt. -/
theorem State.breakTaken_belts (s : State) (e : Edge) : BeltFrame s (s.breakTaken e) := by
  have here : ∀ t u : State, ∀ q o, u = { t with queue := q, outfeed := o } → BeltFrame t u :=
    fun t u q o h => by rw [h]; constructor <;> rfl
  have out : ∀ (t : State) (o : Outfeed), BeltFrame t (t.setOutfeed o) := fun t o => by constructor <;> rfl
  have short : ∀ (t : State) (p : Parcel), BeltFrame t (t.closeShort p) := fun t p =>
    (out t _).trans (State.rejectOnBelt_belts _ _ _)
  have orphan : BeltFrame s s.orphanBreak := by
    unfold State.orphanBreak
    split
    · exact .refl s
    · dsimp only
      split
      · exact (out s _).trans (short _ _)
      · exact out s _
  have found : ∀ (t : State) (p : Parcel), BeltFrame t (t.matchBreak p e) := by
    intro t p
    unfold State.matchBreak
    refine BeltFrame.trans ?_ (State.makeAction_belts _ _)
    unfold State.enterApply
    dsimp only
    repeat' split
    all_goals exact here _ _ _ _ rfl
  have unmatched : ∀ t : State, BeltFrame t (t.unmatchedBreak e) := by
    intro t
    unfold State.unmatchedBreak
    dsimp only
    repeat' split
    all_goals exact here _ _ _ _ rfl
  unfold State.breakTaken
  dsimp only
  split
  · exact orphan.trans (found _ _)
  · exact orphan.trans (unmatched _)

/-- A MAKE taken stays within the frame of the belt. -/
theorem State.makeTaken_belts (s : State) (e : Edge) : BeltFrame s (s.makeTaken e) := by
  have here : ∀ t u : State, ∀ q o, u = { t with queue := q, outfeed := o } → BeltFrame t u :=
    fun t u q o h => by rw [h]; constructor <;> rfl
  have measured : ∀ (p : Parcel) (p0 p1 : Count), BeltFrame s (s.measureBelt p p0 p1) := by
    intro p p0 p1
    unfold State.measureBelt
    have h : ∀ b : Bool, BeltFrame s
        (let s1 := s.updateParcel p.tag (fun q => { q with length := some (outfeedLength s.loader p0 p1) })
         if b then s1.markAndDivert p.tag (fun m => { m with lengthMismatch := true }) else s1) := by
      intro b
      cases b
      · exact here _ _ _ _ rfl
      · exact here _ _ _ _ rfl
    have h2 : ∀ t : State, BeltFrame t
        (if t.outfeed.actions.length < Config.actionLen ∧ t.outfeed.pendingClear = [] then
          (t.makeAction ⟨p1 + offset s.loader.gate + offset s.loader.trail, .clearChute, p.tag⟩).freed
        else t.setOutfeed { t.outfeed with
          pendingClear := t.outfeed.pendingClear ++
            [(p.tag, p1 + offset s.loader.gate + offset s.loader.trail)] }) := by
      intro t
      split
      · exact (t.makeAction_belts _).trans (State.fillClears_belts _ _)
      · exact here _ _ _ _ rfl
    exact (h _).trans (h2 _)
  unfold State.makeTaken
  split
  · exact here _ _ _ _ rfl
  · dsimp only
    refine BeltFrame.trans ?_ (here _ _ _ _ rfl)
    split
    · exact measured _ _ _
    · exact .refl s

/-- The tracker stays within the frame of the belt. -/
theorem State.track_belts (s : State) : BeltFrame s s.track := by
  have take : ∀ (t : State) (e : Edge), BeltFrame t (t.takeEdge e) := by
    intro t e
    have h : BeltFrame t (t.setOutfeed t.outfeed.nextEdge) := (by constructor <;> rfl)
    unfold State.takeEdge
    dsimp only
    split
    · exact h.trans (State.breakTaken_belts _ _)
    · exact h.trans (State.makeTaken_belts _ _)
  have loop : ∀ (n : Nat) (t : State), BeltFrame t (State.trackFor n t) := by
    intro n
    induction n with
    | zero => exact fun t => .refl t
    | succ n ih =>
      intro t
      unfold State.trackFor
      split
      · exact (take t _).trans (ih _)
      · exact .refl t
  exact loop _ s

end Sys2Proof.Machine
end

