-- ==== Sys2Proof/Laws/Memory.lean ====
section
/-! SUPPORT. The board memories: a read after a write, the canonical form kept by every operation, and the bytes that a
write of several bytes, whole or mixed, leaves as they were. -/

namespace Sys2Proof.Machine

/-! ### One byte -/

/-- A write leaves every other byte alone. -/
theorem Memory.read_write_other (m : Memory) (a x : Nat) (b : Byte) (h : x ≠ a) : (m.write a b).read x = m.read x := by
  induction m with
  | nil => unfold Memory.write; split <;> simp [Memory.read, h]
  | cons c rest ih =>
    obtain ⟨k, d⟩ := c
    unfold Memory.write
    split
    · split <;> simp [Memory.read, h]
    · split
      · subst_vars; split <;> simp [Memory.read, h]
      · simp [Memory.read, ih]

/-- An address at or below the bound of a canonical tail is not listed. -/
theorem Memory.read_below {m : Memory} {lo a : Nat} (hw : Memory.wfAbove lo m = true) (h : a ≤ lo) :
    m.read a = blankByte := by
  induction m generalizing lo with
  | nil => rfl
  | cons c rest ih =>
    obtain ⟨k, d⟩ := c
    simp only [Memory.wfAbove, Bool.and_eq_true, decide_eq_true_eq] at hw
    rw [Memory.read, if_neg (by omega), ih hw.2 (by omega)]

/-- A canonical tail is canonical as a whole. -/
theorem Memory.wf_of_wfAbove {m : Memory} {lo : Nat} (h : Memory.wfAbove lo m = true) : m.wf = true := by
  cases m with
  | nil => rfl
  | cons c rest =>
    simp only [Memory.wfAbove, Bool.and_eq_true] at h
    simp [Memory.wf, h.1.2, h.2]

/-- The written byte is read back above a bound. -/
theorem Memory.read_write_above {m : Memory} {lo : Nat} (a : Nat) (b : Byte) (hw : Memory.wfAbove lo m = true) :
    (m.write a b).read a = b := by
  induction m generalizing lo with
  | nil => unfold Memory.write; split <;> simp_all [Memory.read]
  | cons c rest ih =>
    obtain ⟨k, d⟩ := c
    simp only [Memory.wfAbove, Bool.and_eq_true, decide_eq_true_eq] at hw
    unfold Memory.write
    split
    · split
      · rw [Memory.read, if_neg (by omega), Memory.read_below hw.2 (by omega)]; simp_all
      · simp [Memory.read]
    · split
      · split
        · rw [Memory.read_below hw.2 (by omega)]; simp_all
        · simp [Memory.read]
      · rw [Memory.read, if_neg (by omega), ih hw.2]

/-- The written byte is read back from a canonical memory. -/
theorem Memory.read_write_same {m : Memory} (a : Nat) (b : Byte) (hw : m.wf = true) : (m.write a b).read a = b := by
  cases m with
  | nil => unfold Memory.write; split <;> simp_all [Memory.read]
  | cons c rest =>
    obtain ⟨k, d⟩ := c
    simp only [Memory.wf, Bool.and_eq_true] at hw
    by_cases hk : k = 0
    · subst hk
      unfold Memory.write
      split
      · omega
      · split
        · split
          · rw [Memory.read_below hw.2 (by omega)]; simp_all
          · simp [Memory.read]
        · rw [Memory.read, if_neg (by omega), Memory.read_write_above a b hw.2]
    · exact Memory.read_write_above (lo := 0) a b (by simp [Memory.wfAbove, hw.1, hw.2]; omega)

/-- A write above a bound keeps a tail canonical. -/
theorem Memory.wfAbove_write {m : Memory} {lo : Nat} (a : Nat) (b : Byte) (hw : Memory.wfAbove lo m = true) (h : lo < a) :
    Memory.wfAbove lo (m.write a b) = true := by
  induction m generalizing lo with
  | nil => unfold Memory.write; split <;> simp_all [Memory.wfAbove]
  | cons c rest ih =>
    obtain ⟨k, d⟩ := c
    have hw' := hw
    simp only [Memory.wfAbove, Bool.and_eq_true, decide_eq_true_eq] at hw
    unfold Memory.write
    split
    · split <;> simp_all [Memory.wfAbove]
    · split
      · split
        · cases rest with
          | nil => rfl
          | cons c rest =>
            obtain ⟨j, f⟩ := c
            simp only [Memory.wfAbove, Bool.and_eq_true, decide_eq_true_eq] at hw ⊢
            exact ⟨⟨by omega, hw.2.1.2⟩, hw.2.2⟩
        · subst_vars
          simp_all [Memory.wfAbove]
      · simp [Memory.wfAbove, hw.1.1, hw.1.2, ih hw.2 (by omega)]

/-- A write keeps the canonical form. -/
theorem Memory.wf_write {m : Memory} (a : Nat) (b : Byte) (hw : m.wf = true) : (m.write a b).wf = true := by
  cases m with
  | nil => unfold Memory.write; split <;> simp_all [Memory.wf, Memory.wfAbove]
  | cons c rest =>
    obtain ⟨k, d⟩ := c
    have hw' := hw
    simp only [Memory.wf, Bool.and_eq_true, decide_eq_true_eq] at hw
    unfold Memory.write
    split
    · split
      · exact hw'
      · simp_all [Memory.wf, Memory.wfAbove]
    · split
      · split
        · exact Memory.wf_of_wfAbove hw.2
        · subst_vars; simp_all [Memory.wf]
      · simp [Memory.wf, hw.1, Memory.wfAbove_write a b hw.2 (by omega)]

/-! ### Several bytes -/

/-- A write of several bytes keeps the canonical form. -/
theorem Memory.wf_writeBytes {m : Memory} (a : Nat) (bs : List Byte) (hw : m.wf = true) : (m.writeBytes a bs).wf = true := by
  induction bs generalizing m a with
  | nil => exact hw
  | cons b bs ih => exact ih (a + 1) (Memory.wf_write a b hw)

/-- A write of several bytes leaves every byte outside them alone. -/
theorem Memory.read_writeBytes_outside (m : Memory) (a x : Nat) (bs : List Byte) (h : x < a ∨ a + bs.length ≤ x) :
    (m.writeBytes a bs).read x = m.read x := by
  induction bs generalizing m a with
  | nil => rfl
  | cons b bs ih =>
    simp only [List.length_cons] at h
    rw [Memory.writeBytes, ih _ _ (by omega), Memory.read_write_other _ _ _ _ (by omega)]

/-- Every byte written is read back. -/
theorem Memory.read_writeBytes_inside {m : Memory} (a i : Nat) (bs : List Byte) (b : Byte) (hw : m.wf = true)
    (h : bs[i]? = some b) : (m.writeBytes a bs).read (a + i) = b := by
  induction bs generalizing m a i with
  | nil => simp at h
  | cons c bs ih =>
    cases i with
    | zero =>
      simp only [List.getElem?_cons_zero, Option.some.injEq] at h
      subst h
      rw [Memory.writeBytes, Memory.read_writeBytes_outside _ _ _ _ (.inl (by omega))]
      exact Memory.read_write_same _ _ hw
    | succ i =>
      rw [List.getElem?_cons_succ] at h
      have := ih (a + 1) i (Memory.wf_write a c hw) h
      rwa [show a + 1 + i = a + (i + 1) by omega] at this

/-- The bytes written are read back as a block. -/
theorem Memory.readBytes_writeBytes {m : Memory} (a : Nat) (bs : List Byte) (hw : m.wf = true) :
    (m.writeBytes a bs).readBytes a bs.length = bs := by
  apply List.ext_getElem
  · simp [Memory.readBytes]
  · intro i h1 h2
    simp only [Memory.readBytes, List.getElem_map, List.getElem_range]
    exact Memory.read_writeBytes_inside a i bs _ hw (List.getElem?_eq_getElem h2)

/-- A mixture is as long as the new bytes. -/
theorem mixture_length (no : Nat) (old new : List Byte) : (mixture no old new).length = new.length := by simp [mixture]

/-- A write cut short keeps the canonical form. -/
theorem Memory.wf_writeMixed {m : Memory} (no a : Nat) (bs : List Byte) (hw : m.wf = true) :
    (m.writeMixed no a bs).wf = true := Memory.wf_writeBytes _ _ hw

/-- A write cut short leaves every byte outside it alone. -/
theorem Memory.read_writeMixed_outside (m : Memory) (no a x : Nat) (bs : List Byte) (h : x < a ∨ a + bs.length ≤ x) :
    (m.writeMixed no a bs).read x = m.read x :=
  Memory.read_writeBytes_outside _ _ _ _ (by rwa [mixture_length])

end Sys2Proof.Machine
end

