-- ==== Sys2Proof/Tests/Slice0.lean ====
section
/-! SUPPORT. The model's own tests: the checks of WellFormed with an ill-formed term each, messages and frames
written out from the spec, worked cases of the chapters, and for every statement a state and operands that meet its
hypotheses. -/

namespace Sys2Proof.Tests

set_option Elab.async false

open Sys2Proof Sys2Proof.Machine

/-! ### Builders -/

/-- A configuration record: station 7 of office 4417, bus enabled, the distances of chapter 9, section 9.11. -/
def record : List Byte :=
  ([1, 7, 17, 65, 1, 0, 0, 4] ++ [0, 1, 1, 1, 1, 1, 2, 1, 1, 3, 1, 1, 4, 0, 1, 5, 0, 1, 6, 0, 1, 7, 0, 1] ++
    [29, 78, 0, 30, 0, 160, 4, 40, 117, 48, 132, 208] ++ [3, 132, 2, 188, 3, 232, 0, 25, 0, 25, 0, 25] ++
    [7, 208, 1, 44, 3, 132, 0, 40, 0, 60, 0, 50, 0, 15, 8] ++ [3, 232, 0, 200, 40, 0, 0, 0, 114, 49]).map (BitVec.ofNat 8)

/-- A band record: its bound, and one base price and add-on at a zone. -/
def bandOf (bound zone price addOn : Nat) : List Byte :=
  be16 bound ++ (List.range 8).flatMap (fun z => be24 (if z = zone then price else 0)) ++
    (List.range 8).flatMap (fun z => be24 (if z = zone then addOn else 0))

/-- The rates of the example image of chapter 3, section 3.10, and a zone map entry for prefix 000 (zone 3, route 6,
remote). -/
def image : List Byte :=
  be16 311 ++ be16 1500 ++ be16 1500 ++ be16 3000 ++ be16 31500 ++ [12, 5, 0] ++ be24 5000 ++ be16 8 ++ be24 100000 ++
    (be16 100 ++ be16 5000 ++ be24 400 ++ [5] ++ bandOf 2000 0 0 0 ++ bandOf 5000 0 0 0 ++ bandOf 10000 3 1150 35 ++
      bandOf 20000 0 0 0 ++ bandOf 31500 0 0 0 ++ List.replicate 350 0) ++
    (be16 250 ++ be16 0 ++ be24 600 ++ [5] ++ bandOf 1000 0 0 0 ++ bandOf 2050 0 0 0 ++ bandOf 5000 5 2400 120 ++
      bandOf 12000 0 0 0 ++ bandOf 31500 0 0 0 ++ List.replicate 350 0) ++ [3, 6, 1]

/-- A route schedule entry for route 0 at its place: chute 4, three daily slots (chapter 5). -/
def schedule : List Byte :=
  List.replicate 4237 0 ++ [4, 3] ++ be16 100 ++ be16 540 ++ be16 1200 ++ be16 960 ++ be16 1200 ++ be16 1140 ++ be16 1150

/-- A powered station, RUNNING, its clock set and its zero captured. -/
def ready : State :=
  { State.reset with
    powered := true
    loader := { State.reset.loader with station := .running, active := record }
    plate := { Plate.powerOn with zero := some 1239, lo := -40 }
    store := { State.reset.store with image := some image }
    dispatch := { State.reset.dispatch with clock := some ⟨83, 42120000⟩ }
    label := { LabelUnit.powerOn with serial := some (151, 83) } }

/-- Postcode 00044. -/
def postcode : List Byte := [0x30#8, 0x30#8, 0x30#8, 0x34#8, 0x34#8]

/-- A record of a tag in a state, for route 6. -/
def parcel (tag : Nat) (st : PState) : Parcel :=
  { newParcel image tag postcode .standard 25000 30000 with state := st }

/-- The record with quote 1 standing on a dispatch, a load of 68 units booked. -/
def quotedParcel (tag : Nat) : Parcel :=
  { parcel tag .quoted with
    quote := some 1, standing := some true, dispatch := some (.entry 83 2), holds := true
    rating := { Rating.empty with load := some 68 }, cleared := some true }

/-- The queue with these records. -/
def holding (ps : List Parcel) : ParcelQueue := ⟨ps, 18, 0⟩

/-- The station with these records. -/
def station (ps : List Parcel) : State := { ready with queue := holding ps }

/-- A label of a tag. -/
def labelOf (tag : Nat) : Label := ⟨tag, [], 6, 4, .deferred, .standard, 0, 0, []⟩

/-- A ring of route 6 with two entries of day 83. -/
def ring : Ring := ⟨6, [⟨83, 2, 960, 1200, 68, 0⟩, ⟨83, 3, 1140, 1150, 0, 0⟩], 0⟩

/-- The ring of route 6 filled: two cut-offs left on day 83, and the first of day 84. -/
def ring3 : Ring := ⟨6, [⟨83, 2, 960, 1200, 68, 0⟩, ⟨83, 3, 1140, 1150, 0, 0⟩, ⟨84, 1, 540, 1100, 0, 0⟩], 0⟩

/-- A report. -/
def report : Report := .event .jam none none

/-! ### A state and operands for the hypotheses of each statement -/

/-- StepRunsFrontCommand. -/
theorem witness_StepRunsFrontCommand :
    ({ ready with pending := [.fetch, .zero] } : State).pending = .fetch :: [.zero] := by decide +kernel

/-- EmptyQueueIsOneMicrosecond: without power; within a millisecond; at its end with no clock, within a day, and at the
last millisecond of a day. -/
theorem witness_EmptyQueueIsOneMicrosecond :
    (State.reset.pending = [] ∧ State.reset.timer.us < 1000 ∧ State.reset.powered = false) ∧
    (ready.pending = [] ∧ ready.timer.us ≠ 999 ∧ ready.powered = true) ∧
    (let s := { ready with timer := ⟨0, 999⟩, dispatch := State.reset.dispatch };
      s.timer.us = 999 ∧ s.dispatch.clock = none) ∧
    (let s := { ready with timer := ⟨0, 999⟩, dispatch := { ready.dispatch with clock := some ⟨83, 86399998⟩ } };
      s.timer.us = 999 ∧ s.dispatch.clock = some ⟨83, 86399998⟩ ∧ 86399998 + 1 < 86400000) ∧
    (let s := { ready with timer := ⟨0, 999⟩, dispatch := { ready.dispatch with clock := some ⟨83, 86399999⟩ } };
      s.dispatch.clock = some ⟨83, 86399999⟩ ∧ 86400000 ≤ 86399999 + 1) := by decide +kernel

/-- LinkGate: an event without power; a command while one is held; a command and a malformed message in CONFIG-FAULT. -/
theorem witness_LinkGate :
    (State.reset.powered = false ∧ ∀ n a b r e f, Instr.fetch ≠ .powerOn n a b r e f) ∧
    (let s := { ready with link := { ready.link with held := some .loadEnd } };
      encodeMessage .fetch = some [4, 0] ∧ s.link.held ≠ none) ∧
    (let s := { ready with loader := State.reset.loader };
      s.powered = true ∧ s.link.held = none ∧ s.loader.station = .configFault ∧
        encodeMessage .loadEnd = some [17, 0] ∧ (17 : Byte) ≠ 6 ∧ (17 : Byte) ≠ 21 ∧ (17 : Byte) ≠ 22 ∧ (17 : Byte) ≠ 23 ∧
        malformed 24 0 = true ∧ malformed 4 1 = true) := by
  refine ⟨⟨rfl, by simp⟩, by decide, by decide⟩

set_option maxRecDepth 100000 in
/-- PowerOnRunning: the record in the configuration memory. -/
theorem witness_PowerOnRunning :
    let s := { State.reset with loader := { State.reset.loader with mem := (List.range 81).zip record } }
    s.powered = false ∧ recordFault (s.loader.mem.readBytes 0 (min 81 81)) = none := by decide +kernel

/-- PowerOnFaultAndImage: a memory that answers 80 bytes; a blank image memory. -/
theorem witness_PowerOnFaultAndImage :
    State.reset.powered = false ∧
      recordFault (State.reset.loader.mem.readBytes 0 (min 80 81)) = some ⟨.missing, none⟩ := by decide +kernel

/-- RestartKeepsAndEmpties: stranded units at their greatest; a write of copy A, at the byte before it and the byte after
it. -/
theorem witness_RestartKeepsAndEmpties :
    (let s := { ready with dispatch := { ready.dispatch with stranded := 65535 } };
      s.powered = true ∧ s.dispatch.stranded ≤ 65535 ∧ s.link.held = none ∧ s.loader.writes = [] ∧
        s.store.staging ≠ .storing ∧ s.store.staged.length ≤ 0) ∧
    (let w : MemWrite := .cell 83 200 false;
      let s := { ready with loader := { ready.loader with writes := [w] } };
      s.loader.writes = w :: [] ∧ 127 < (w.target s.label.nextCopy).1 ∧
        (w.target s.label.nextCopy).1 + (w.target s.label.nextCopy).2.length ≤ 135) := by decide +kernel

/-- PowerLossCutsWritesShort: no write, and a write of copy A, at the byte before it and the byte after it. -/
theorem witness_PowerLossCutsWritesShort :
    (ready.powered = true ∧ ready.store.staging ≠ .storing ∧ ready.loader.writes = []) ∧
    (let w : MemWrite := .cell 83 200 false;
      let s := { ready with loader := { ready.loader with writes := [w] } };
      s.powered = true ∧ s.loader.writes = w :: [] ∧ 127 < (w.target s.label.nextCopy).1 ∧
        (w.target s.label.nextCopy).1 + (w.target s.label.nextCopy).2.length ≤ 135) := by decide +kernel

/-- AcceptRefusalsInOrder: a state for each refusal, in the order of chapter 4, Table 3. -/
theorem witness_AcceptRefusalsInOrder :
    (let s := { ready with loader := State.reset.loader };
      s.Listening ∧ s.loader.station = .configFault) ∧
    (let s := { ready with plate := Plate.powerOn };
      s.Listening ∧ s.plate.zero = none) ∧
    (let s := { ready with dispatch := State.reset.dispatch };
      s.Listening ∧ s.loader.station = .running ∧ s.plate.zero ≠ none ∧ s.dispatch.clock = none) ∧
    (let s := { ready with store := State.reset.store };
      s.plate.zero ≠ none ∧ s.dispatch.clock ≠ none ∧ s.store.edition = 0) ∧
    (let s := { ready with store := { ready.store with staging := .staging } };
      s.store.edition ≠ 0 ∧ s.store.staging ≠ .idle) ∧
    (let s := { ready with queue := holding (List.replicate 6 (parcel 1 .done)) };
      s.store.edition ≠ 0 ∧ s.store.staging = .idle ∧ 6 ≤ s.queue.parcels.length) ∧
    (let s := { ready with queue := holding [parcel 17 .seeking] };
      s.queue.parcels.length < 6 ∧ s.queue.plateBusy = true) ∧
    (let s := { ready with queue := holding [{ quotedParcel 17 with cleared := some false }] };
      s.queue.plateBusy = false ∧ ∃ p ∈ s.queue.parcels, p.state = .quoted ∧ p.cleared = some false) ∧
    (ready.Ready ∧ ready.queue.plateBusy = false ∧
      (∀ p ∈ ready.queue.parcels, ¬(p.state = .quoted ∧ p.cleared = some false)) ∧ postcodeOk [] = false ∧
      postcodeOk postcode = true ∧ (2 : Byte) ≠ 0 ∧ (2 : Byte) ≠ 1 ∧ unserved (List.replicate 1237 0 ++ [255]) 0 = true ∧
      unserved image (prefixOf postcode) = false ∧ imageMaxInsurable image < (100001#24).toNat) := by decide +kernel

/-- AcceptTaken: a declared value at the maximum insurable value; the cursor at 255 with that tag held, and at 1. -/
theorem witness_AcceptTaken :
    let s := { ready with queue := ⟨[quotedParcel 255], 255, 0⟩ }
    s.Ready ∧ s.plate.zero ≠ none ∧ s.dispatch.clock ≠ none ∧ s.store.image = some image ∧ imageEdition image ≠ 0 ∧
      s.store.staging = .idle ∧ s.queue.parcels.length < 6 ∧ s.queue.plateBusy = false ∧
      (∀ p ∈ s.queue.parcels, ¬(p.state = .quoted ∧ p.cleared = some false)) ∧ postcodeOk postcode = true ∧
      ((0 : Byte) = 0 ∨ (0 : Byte) = 1) ∧ unserved image (prefixOf postcode) = false ∧
      (100000#24).toNat ≤ imageMaxInsurable image ∧ 1 ≤ s.queue.cursor ∧ s.queue.cursor ≤ 255 ∧
      1 ≤ ready.queue.cursor := by decide +kernel

/-- ConfirmHeldOrRefused: a cell write under way, and a record for each refusal. -/
theorem witness_ConfirmHeldOrRefused :
    ({ ready with loader := { ready.loader with writes := [.cell 83 200 true] } } : State).loader.cellWriting = true ∧
    (ready.Ready ∧ ready.loader.cellWriting = false ∧ ∀ p ∈ ready.queue.parcels, p.tag ≠ (17#8).toNat) ∧
    (let p := { parcel 17 .seeking with standing := some false };
      (station [p]).Holds [] p [] ∧ p.tag = (17#8).toNat ∧ p.standing = some false) ∧
    (let p := quotedParcel 17;
      (station [p]).Holds [] p [] ∧ p.standing = some true ∧ p.quote ≠ some (2#8).toNat) ∧
    (let p := parcel 17 .onBelt;
      (station [p]).Holds [] p [] ∧ p.state ≠ .quoted ∧ ¬(p.state = .seeking ∧ p.standing = some false)) ∧
    (let p := quotedParcel 17;
      let q := parcel 18 .onBelt;
      (station [p, q]).Holds [] p [q] ∧ p.quote = some (1#8).toNat ∧
        q.state = .onBelt) ∧
    (let p := quotedParcel 17;
      let s := { ready with
        queue := holding [p]
        label := { LabelUnit.powerOn with serial := some (999999, 83) } };
      s.Holds [] p [] ∧ p.quote = some (1#8).toNat ∧ s.label.serial = some (999999, 83)) := by decide +kernel

/-- ConfirmTaken: an idle printer, the serial before a multiple of 100, and a busy printer. -/
theorem witness_ConfirmTaken :
    let p := quotedParcel 17
    let s := { ready with
      queue := holding [p]
      label := { LabelUnit.powerOn with serial := some (199, 83) } }
    s.Ready ∧ s.loader.cellWriting = false ∧ s.Holds [] p [] ∧ p.tag = (17#8).toNat ∧ p.state = .quoted ∧
      p.standing = some true ∧ p.quote = some (1#8).toNat ∧ s.label.serial = some (199, 83) ∧ s.label.printer = .idle ∧
      s.label.faultLine = false ∧ s.label.slot = none ∧ s.label.printOrder = [] ∧
      ({ s.label with printer := .printing } : LabelUnit).printer ≠ .idle := by decide +kernel

/-- VoidAtTheCounter: a VOID that arrived together with an event that puts its record past voiding; no such tag, a record past voiding, and one of
each state it voids; the report queue with room, and full. -/
theorem witness_VoidAtTheCounter :
    ({ ready with link := { ready.link with metVoid := some 17 } } : State).link.metVoid = some (17#8).toNat ∧
    (ready.Ready ∧ ready.link.metVoid ≠ some (17#8).toNat ∧ ∀ p ∈ ready.queue.parcels, p.tag ≠ (17#8).toNat) ∧
    (let p := parcel 17 .onBelt;
      (station [p]).Holds [] p [] ∧ p.tag = (17#8).toNat ∧ p.state = .onBelt) ∧
    (∀ n ∈ [15, 16], let p := parcel 17 .waitPlate;
      let s := { ready with
        queue := holding [p]
        link := { ready.link with reports := List.replicate n report } };
      s.Ready ∧ s.Holds [] p [] ∧ s.link.reports.length = n) ∧
    (let p := parcel 17 .measuring;
      (station [p]).Holds [] p []) ∧
    (let p := quotedParcel 17;
      (station [p]).Holds [] p [] ∧ p.standing = some true ∧ p.holds = true ∧
        p.dispatch = some (.entry 83 2)) ∧
    (let p := { quotedParcel 17 with dispatch := some .deferred };
      (station [p]).Holds [] p [] ∧ p.dispatch = some .deferred) ∧
    (let p := (quotedParcel 17).withdrawn;
      (station [p]).Holds [] p [] ∧ p.standing = some false) := by decide +kernel

/-- The record of a tag as LABEL-PENDING, the one that `labelOf` was composed for. -/
def pendingParcel (tag : Nat) : Parcel := { quotedParcel tag with state := .labelPending, tracking := some [] }

/-- The bus controller in ACTIVE, having observed an idle gap. -/
def active : BusController := { BusController.powerOn with state := .active, observing := true }

/-- The station with this bus controller. -/
def onBus (b : BusController) : State := { ready with bus := b }

/-- A GIVE of 20 units to station 4 with some failed attempts. -/
def giveOf (fails : Nat) : TxGive := ⟨4, 9, 33, 6, 83, 2, 20, true, fails, true⟩

/-- An ASK of 38 units. -/
def askOf (fails : Nat) : TxAsk := ⟨41, 6, 83, 2, 38, true, fails⟩

/-- The open ask of those 38 units. -/
def openAskIn (ph : AskPhase) : OpenAsk := ⟨41, 6, 83, 2, 38, 0, ph, 50⟩

/-- Tag 17 in SEEKING, its booking asking for the head of the ring in a phase, with an ASK frame. -/
def seeking (ph : AskPhase) (f : Option TxAsk) : State :=
  { station [parcel 17 .seeking] with
    share := { ready.share with openAsk := some (openAskIn ph) }
    bus := { active with ask := f }
    dispatch := { ready.dispatch with
      rings := [ring3], current := some ⟨⟨17, 6, 68, true⟩, some (83, 2), 0, true, true⟩ } }

/-- VoidPendingAndSeeking: no label; a label in the slot with the line asserted, and with another waiting or not; no
booking, one on an entry and one on DEFERRED; a booking that asks, in each phase, the frame begun and not. The report
queue with room, and full. -/
theorem witness_VoidPendingAndSeeking :
    (∀ n ∈ [15, 16], let p := pendingParcel 17;
      let s := { station [p] with
        label := { ready.label with printOrder := [labelOf 17], printer := .fault }
        link := { ready.link with reports := List.replicate n report } };
      s.Ready ∧ s.link.metVoid ≠ some (17#8).toNat ∧ s.Holds [] p [] ∧ p.tag = (17#8).toNat ∧
        p.state = .labelPending ∧ p.holds = true ∧
        p.dispatch = some (.entry 83 2) ∧ { p with dispatch := some .deferred }.dispatch = some .deferred ∧
        (parcel 17 .labelPending).holds = false ∧ s.label.slot = none ∧ s.link.reports.length = n) ∧
    (∀ line ∈ [true, false], ∀ order ∈ [[], [labelOf 18]], let s := { station [pendingParcel 17] with
        label := { ready.label with
          printer := .presented, slot := some (labelOf 17), printOrder := order, faultLine := line } };
      s.label.slot = some (labelOf 17) ∧ (labelOf 17).tag = 17 ∧ s.label.faultLine = line ∧
        s.label.printOrder.filter (fun l => l.tag ≠ 17) = order) ∧
    (∀ n ∈ [15, 16], ∀ ph ∈ [AskPhase.waiting, .sending, .window],
      ∀ f ∈ [some (askOf 0), some { askOf 0 with begun := false }],
      let s := { seeking ph f with link := { ready.link with reports := List.replicate n report } };
      s.Ready ∧ s.Holds [] (parcel 17 .seeking) [] ∧ s.dispatch.line = [] ∧ s.share.openAsk = some (openAskIn ph) ∧
        (openAskIn ph).phase = ph ∧ s.bus.ask = f ∧ s.link.reports.length = n ∧
        s.link.metVoid ≠ some (17#8).toNat) := by decide +kernel

/-- FetchReturnsOldest: no report; a report and nothing owed; a full queue and two records owing. -/
theorem witness_FetchReturnsOldest :
    (ready.Ready ∧ ready.link.reports = []) ∧
    (let s := { ready with link := { ready.link with reports := [report] } };
      s.link.reports = report :: [] ∧ ∀ p ∈ s.queue.parcels, p.owed = none) ∧
    (let p := { parcel 17 .void with owed := some ⟨4, report⟩ };
      let q := { quotedParcel 18 with owed := some ⟨5, report⟩ };
      let s := { ready with
        queue := holding [p, q]
        link := { ready.link with reports := List.replicate 16 report } };
      s.link.reports = report :: List.replicate 15 report ∧ (List.replicate 15 report).length < 16 ∧ s.Holds [] p [q] ∧
        p.owed = some ⟨4, report⟩ ∧ q.owed = some ⟨5, report⟩ ∧ 4 < 5) := by decide +kernel

/-- QueriesAndReads: a known and an unknown tag, routes 15 and 16, the image's last byte and the byte past it, and the
copies. -/
theorem witness_QueriesAndReads :
    (ready.Ready ∧ ready.Listening ∧ ∀ p ∈ ready.queue.parcels, p.tag ≠ (17#8).toNat) ∧
    (let p := quotedParcel 17;
      (station [p]).Holds [] p [] ∧ p.tag = (17#8).toNat) ∧
    (15 < (16#8).toNat ∧ (15#8).toNat ≤ 15) ∧
    (ready.loader.lockLevel ≠ 2 ∧ ready.store.image = some image ∧ imageEdition image ≠ 0 ∧ State.reset.store.edition = 0 ∧
      { ready.loader with active := [1, 7, 17, 65, 1, 0, 2] }.lockLevel = 2 ∧ (4558#16).toNat + (1#8).toNat ≤ 4559 ∧
      4559 < (4559#16).toNat + (1#8).toNat ∧ 128 < (129#8).toNat) ∧
    (ready.loader.next = none ∧ (1#8 : Byte) ≠ 0 ∧ (2#8 : Byte) ≠ 0 ∧ (2#8 : Byte) ≠ 1) := by decide +kernel

/-- FirstSetClockResolves: copies of another day; equal block ends, from A; a greater one, from B. -/
theorem witness_FirstSetClockResolves :
    let first := fun (a b : Option Cell) => ({ ready with
      dispatch := State.reset.dispatch
      label := { LabelUnit.powerOn with cellA := a, cellB := b } } : State)
    (let s := first (some ⟨82, 5100⟩) none;
      s.Ready ∧ 1 ≤ (83#16).toNat ∧ (366#16).toNat ≤ 366 ∧ (86399999#32).toNat < 86400000 ∧ s.dispatch.clock = none ∧
        s.label.serial = none ∧ s.loader.writes = [] ∧ ∀ c ∈ [s.label.cellA, s.label.cellB].reduceOption, c.day ≠ 83) ∧
    (let s := first (some ⟨83, 200⟩) (some ⟨83, 200⟩);
      s.label.cellA = some ⟨(83#16).toNat, 200⟩ ∧ 100 ≤ 200 ∧ ∀ c ∈ s.label.cellB, c.day = 83 → c.blockEnd ≤ 200) ∧
    (let s := first (some ⟨83, 100⟩) (some ⟨83, 200⟩);
      s.label.cellB = some ⟨(83#16).toNat, 200⟩ ∧ ∀ c ∈ s.label.cellA, c.day = 83 → c.blockEnd < 200) := by decide +kernel

set_option maxRecDepth 100000 in
/-- RingFillTakesNextThreeSlots: three daily slots at 09:00, 16:00 and 19:00, before and at the last cut-off. -/
theorem witness_RingFillTakesNextThreeSlots :
    routeSlots schedule 0 = 3 ∧ 1 ≤ 366 ∧ slotMinute schedule 0 1 < slotMinute schedule 0 2 ∧
      slotMinute schedule 0 2 < slotMinute schedule 0 3 ∧ 68399999 / 60000 < slotMinute schedule 0 3 ∧
      slotMinute schedule 0 3 ≤ 68400000 / 60000 := by decide +kernel

/-- SetClockSteps: fields out of range, the same time, backward by a minute and by a millisecond more, backward over
midnight, and forward by 183 days less a millisecond; the millisecond before the head's cut-off and the cut-off; that of
the next head and midnight, before the third. -/
theorem witness_SetClockSteps :
    let from83 := fun (day ms : Nat) => forwardFrom (ClockTime.instant ⟨83, 42120000⟩) (ClockTime.instant ⟨day, ms⟩)
    let s := { ready with dispatch := { ready.dispatch with rings := [ring3] } }
    let ahead := fun (e : Entry) => forwardFrom (ClockTime.instant ⟨83, 42120000⟩) e.instant
    let e1 : Entry := ⟨83, 2, 960, 1200, 68, 0⟩
    let e2 : Entry := ⟨83, 3, 1140, 1150, 0, 0⟩
    let e3 : Entry := ⟨84, 1, 540, 1100, 0, 0⟩
    s.Ready ∧ s.dispatch.clock = some ⟨83, 42120000⟩ ∧ (0#16).toNat < 1 ∧ 366 < (367#16).toNat ∧
      86400000 ≤ (86400000#32).toNat ∧ from83 83 42120000 = 0 ∧ 15811200000 ≤ from83 83 42060000 ∧
      31622400000 - from83 83 42060000 ≤ 60000 ∧ 15811200000 ≤ from83 83 42059999 ∧
      60000 < 31622400000 - from83 83 42059999 ∧ 15811200000 ≤ from83 82 86399999 ∧ 82 ≠ 83 ∧
      from83 266 42119999 = 15811199999 ∧ from83 266 42120000 = 15811200000 ∧ 0 < from83 83 57599999 ∧
      s.dispatch.line = [] ∧ s.dispatch.current = none ∧ s.share.openAsk = none ∧ s.bus.gives = [] ∧
      s.queue.parcels = [] ∧ s.dispatch.rings = [] ++ ring3 :: [] ∧ ring3.entries = [e1, e2, e3] ∧
      s.store.image = some image ∧ from83 83 57599999 < ahead e1 ∧ ahead e1 ≤ from83 83 57600000 ∧
      from83 83 57600000 < ahead e2 ∧ ahead e2 ≤ from83 84 0 ∧ from83 84 0 < ahead e3 ∧ (84#16).toNat ≠ 83 ∧
      s.label.serial ≠ none ∧ s.loader.writes = [] ∧
      { s.loader with writes := [.cell 83 200 false] }.writes = MemWrite.cell 83 200 false :: [] := by decide +kernel

/-- TareZeroAndFlags: a record in a plate state, and none. -/
theorem witness_TareZeroAndFlags :
    (station [parcel 17 .waitPlate]).Ready ∧ (∃ p ∈ (station [parcel 17 .waitPlate]).queue.parcels, p.state = .waitPlate) ∧
    (station [quotedParcel 17]).Ready ∧ (∀ p ∈ (station [quotedParcel 17]).queue.parcels,
      p.state ≠ .waitPlate ∧ p.state ≠ .measuring ∧ p.state ≠ .rating ∧ p.state ≠ .seeking) := by decide +kernel

/-- AttentionSettingsAndLine: a line that is asserted and one that is not; 15 reports waiting, and 16. -/
theorem witness_AttentionSettingsAndLine :
    ready.Ready ∧ ready.attentionLine = false ∧
      ({ ready with peers := ⟨[], false, true⟩ } : State).attentionLine = true ∧ Source.jam ≠ .reportPending ∧
      Source.jam ≠ .reportLost ∧ (List.replicate 15 report).length < 16 ∧ 16 ≤ (List.replicate 16 report).length := by
  decide +kernel

/-- LoadTariffCommands: a lock level, a record in the queue, an empty queue, a chunk of 128 bytes, one of 129, and a
staged image that is too short. -/
theorem witness_LoadTariffCommands :
    (let s := { ready with loader := { ready.loader with active := [1, 7, 17, 65, 1, 0, 1] } };
      s.Ready ∧ s.loader.lockLevel ≠ 0) ∧
    (ready.Ready ∧ ready.loader.lockLevel = 0 ∧ ready.queue.parcels = [] ∧ (station [parcel 17 .done]).queue.parcels ≠ [] ∧
      ready.store.staging = .idle) ∧
    (let s := { ready with store := { ready.store with staging := .staging } };
      s.store.staging = .staging ∧ (List.replicate 128 (0 : Byte)).length ≤ 128 ∧
        128 < (List.replicate 129 (0 : Byte)).length ∧ imageFault s.store.staged = some ⟨.length, none⟩) := by decide +kernel

/-- ImageStoreEnds: no store under way, and a staged image in STORING with the clock set, a GIVE begun and one not. -/
theorem witness_ImageStoreEnds :
    (ready.powered = true ∧ ready.MemoriesOk ∧ ready.store.staging ≠ .storing) ∧
    (let s := { onBus { active with gives := [giveOf 0, { giveOf 1 with begun := false }] } with
        store := { ready.store with staging := .storing, staged := image } };
      s.powered = true ∧ s.MemoriesOk ∧ s.store.staging = .storing ∧ s.dispatch.clock = some ⟨83, 42120000⟩ ∧
        s.bus.gives.map TxGive.live = [true, true]) := by decide +kernel

/-- ReleaseJoinAndPrinterRetry: HOLD and not HOLD; a printer in FAULT with the line asserted, and clear, with and without
a label. -/
theorem witness_ReleaseJoinAndPrinterRetry :
    (ready.Ready ∧ ready.bus.state ≠ .hold ∧ ready.label.printer ≠ .fault) ∧
    (let s := { ready with bus := { ready.bus with state := .hold } };
      s.Ready ∧ s.bus.state = .hold ∧ s.bus.changed = false) ∧
    (let s := { ready with label := { ready.label with printer := .fault, faultLine := true } };
      s.Ready ∧ s.label.faultLine = true) ∧
    (let s := { ready with label := { ready.label with printer := .fault, printOrder := [labelOf 17] } };
      s.Ready ∧ s.label.printer = .fault ∧ s.label.faultLine = false ∧ s.label.slot = none ∧
        s.label.printOrder = labelOf 17 :: []) := by decide +kernel

set_option maxRecDepth 100000 in
/-- NextConfigWrites: a record too short, one that passes, and its write in progress. -/
theorem witness_NextConfigWrites :
    (ready.Listening ∧ recordFault [] = some ⟨.missing, none⟩ ∧ recordFault record = none) ∧
    (ready.powered = true ∧ ready.loader.writes = []) ∧
    (let s := { ready with loader := { ready.loader with writes := [.record record] } };
      s.powered = true ∧ s.MemoriesOk ∧ s.loader.writes = .record record :: []) := by decide +kernel

/-- CellWriteEnds: a day change's cell write in progress with no command held, and another's with a CONFIRM held. -/
theorem witness_CellWriteEnds :
    (let s := { ready with loader := { ready.loader with writes := [.cell 83 200 true] } };
      s.powered = true ∧ s.MemoriesOk ∧ s.loader.writes = .cell 83 200 true :: [] ∧ s.link.held = none) ∧
    (let s := { ready with
        loader := { ready.loader with writes := [.cell 83 200 false] }
        link := { ready.link with held := some (.confirm 17 1) } };
      s.loader.station = .running ∧ s.link.held = some (.confirm (17#8).toNat (1#8).toNat)) := by decide +kernel

/-- ScanStepWithinRound: an expiry a microsecond early, and one due, at entry 6. -/
theorem witness_ScanStepWithinRound :
    let s := { ready with plate := { ready.plate with running := true, cur := 6, stepDue := 1000 } }
    s.powered = true ∧ s.plate.running = true ∧ s.plate.cur < 7 ∧ 0 * 1000 + 999 < s.plate.stepDue ∧
      s.plate.stepDue ≤ ({ s with timer := ⟨1, 0⟩ } : State).timer.ms * 1000 + 0 := by decide +kernel

/-- The plate at the step of entry 7, every channel good, with this settled weight in its history and a quiet count. -/
def closing (w quiet : Nat) : Plate :=
  { ready.plate with
    running := true, cur := 7, results := [1239, 0, 0, 0, 36000, 28000, 40000, 32000].map (fun c => some ⟨c, false⟩)
    history := List.replicate 4 w, quiet := quiet }

/-- ScanStepClosesRound: no record on the plate; one in WAIT-PLATE, one round short of settled, settled below the presence
threshold and at it; one in MEASURING before its seventh round and its eighth; a channel at each clamp and one absent; a
measurement that is valid and one that is spoiled. -/
theorem witness_ScanStepClosesRound :
    let l := ready.loader
    let on := fun (p : Plate) (ps : List Parcel) => ({ station ps with plate := p } : State)
    let w := parcel 17 .waitPlate
    let m := parcel 17 .measuring
    let rounds := fun (n : Nat) => Measurement.mk 0 0 0 false false false n true
    (let s := on (closing 0 4) [quotedParcel 16];
      s.powered = true ∧ s.plate.running = true ∧ s.plate.stepDue ≤ s.timer.ms * 1000 + s.timer.us ∧ s.plate.cur = 7 ∧
        s.plate.meas = none ∧ ∀ p ∈ s.queue.parcels, p.state ≠ .waitPlate) ∧
    ((on (closing 0 4) [w]).Holds [] w [] ∧ w.state = .waitPlate ∧ 2 < l.settleRounds ∧ l.settleRounds ≤ 4 ∧
      (closing 159 4).settledWeight l < l.presenceThreshold ∧ l.presenceThreshold ≤ (closing 160 4).settledWeight l) ∧
    (∀ n ∈ [6, 7], let s := on { closing 0 4 with meas := some (rounds n) } [m];
      s.plate.meas = some (rounds n) ∧ s.Holds [] m [] ∧ m.state = .measuring ∧ (rounds 6).rounds + 1 < 8 ∧
        8 ≤ (rounds 7).rounds + 1) ∧
    (let p := closing 0 4;
      p.refPasses l = true ∧ p.zero = some 1239 ∧ Plate.powerOn.zero = none ∧ l.entryOf .dh ≠ none ∧
        { l with active := record.set 22 0 }.entryOf .dh = none ∧ p.roundReadings l false ≠ none ∧
        (closing 0 4).reading { l with active := record.set 44 0 } .dh 0 = some (0, true)) ∧
    (1 ≤ l.settleRounds ∧ (rounds 8).valid = true ∧ ((rounds 7).add none).valid = false) := by decide +kernel

/-- BandFollowsWeight: weights at the bounds of the band and one beyond each; a history of 64 weights. -/
theorem witness_BandFollowsWeight :
    1 ≤ ready.loader.halfWidth ∧ ready.plate.quiet ≤ 255 ∧
      ({ ready.plate with history := List.replicate 64 0 } : Plate).history.length ≤ 64 ∧ ready.plate.lo ≤ (0 : Nat) ∧
      ((40 : Nat) : Int) ≤ ready.plate.lo + 2 * ready.loader.halfWidth ∧
      ready.plate.lo + 2 * ready.loader.halfWidth < (41 : Nat) ∧
      ((0 : Nat) : Int) < ({ ready.plate with lo := 1 } : Plate).lo := by decide +kernel

/-- A plate whose sum is 1,239 in every round, with a zero capture of `n` sums under way. -/
def capturing (n : Nat) (first : Int) : Plate :=
  { Plate.powerOn with
    results := [1239, 0, 0, 0, 36000, 28000, 40000, 32000].map (fun c => some ⟨c, false⟩), capRun := n, capFirst := first,
    capTotal := 0 }

/-- ZeroCaptureRuns: no sum; a run's first sum; a sum at the window's edge and one beyond; the eighth. -/
theorem witness_ZeroCaptureRuns :
    Plate.powerOn.zero = none ∧ Plate.powerOn.sum ready.loader = none ∧
      (capturing 0 0).sum ready.loader = some 1239 ∧ (capturing 0 0).capRun = 0 ∧
      (1239 - (capturing 6 1269).capFirst).natAbs ≤ ready.loader.zeroWindow ∧ (capturing 6 1269).capRun < 7 ∧
      ready.loader.zeroWindow < (1239 - (capturing 6 1270).capFirst).natAbs ∧ (capturing 7 1239).capRun = 7 := by
  decide +kernel

/-- The measured parcel of chapter 3's first worked case. -/
def tag17 : RatingInput := ⟨4180, .mm 260 310 420 false, .standard, 25000, 3, true⟩

/-- RatingOfMeasuredParcel: an INVALID measurement; tag 17; a weight above the limit; a side above it; and tag 19 beyond
the tariff. -/
theorem witness_RatingOfMeasuredParcel :
    { tag17 with dims := .invalid }.dims = .invalid ∧
    tag17.dims = .mm 260 310 420 false ∧ 1 ≤ tariffStep image .standard ∧ tariffBands image .standard = 5 ∧
      1 ≤ imageRoundStep image ∧ (∀ i ∈ List.range 4, bandUpper image .standard i < bandUpper image .standard (i + 1)) ∧
      imageMaxWeight image < 31501 ∧ imageMaxSide image < 1501 ∧ tag17.grams ≤ imageMaxWeight image ∧
      420 ≤ imageMaxSide image ∧ 420 + 2 * (310 + 260) ≤ imageMaxGirth image ∧ 6800 ≤ bandUpper image .standard 4 ∧
      bandUpper image .standard 4 < 48000 := by decide +kernel

/-- MeasurementHandOverBooks: an INVALID measurement; the load of 68 units with that many free on the head, and one unit
less there, with room on each further entry and on none; a station that asks; another booking current. The report queue
with room, and full. -/
theorem witness_MeasurementHandOverBooks :
    let p := { parcel 17 .measuring with weight := some (4180, 66873) }
    let d : Dims := .mm 260 310 420 false
    let full := fun (a b c : Nat) =>
      (⟨6, [⟨83, 2, 960, a, 0, 0⟩, ⟨83, 3, 1140, b, 0, 0⟩, ⟨84, 1, 540, c, 0, 0⟩], 0⟩ : Machine.Ring)
    let on := fun (r : Machine.Ring) => ({ station [p] with dispatch := { ready.dispatch with rings := [r] } } : State)
    (rate image (p.ratingInput .invalid)).reject = some .sensor ∧ (rate image (p.ratingInput d)).reject = none ∧
      (rate image (p.ratingInput d)).rating.load = some 68 ∧ p.quote = none ∧ p.route = 6 ∧
    (∀ r ∈ [full 68 0 0, full 67 68 0, full 67 67 68, full 67 67 67], let s := on r;
      s.Holds [] p [] ∧ s.store.image = some image ∧ s.dispatch.current = none ∧ s.dispatch.line = [] ∧
        s.dispatch.ring p.route = some r ∧ s.bus.state ≠ .active ∧ s.link.reports.length < 16) ∧
    (let s := { on (full 67 68 0) with bus := active, peers := ⟨[⟨4, 311, .present, none, 0, true, 2, 5, none, 0, 0⟩], false, false⟩ };
      s.bus.state = .active ∧ (∃ q ∈ s.peers.peers, q.status = .present) ∧ s.share.openAsk = none) ∧
    (let b : Booking := ⟨⟨18, 6, 30, false⟩, some (83, 2), 0, true, true⟩;
      let s := { on (full 68 0 0) with dispatch := { ready.dispatch with rings := [full 68 0 0], current := some b } };
      s.Ready ∧ s.Holds [] p [] ∧ s.store.image = some image ∧ s.dispatch.current = some b ∧ p.tag = (17#8).toNat ∧
        s.link.metVoid ≠ some p.tag) ∧
    ¬(List.replicate 16 report).length < 16 := by decide +kernel

/-- PlateTimeoutVoids: a millisecond early; at 30 s with room for a report, and without; no command waiting, and a VOID of
the record. -/
theorem witness_PlateTimeoutVoids :
    let p := parcel 17 .waitPlate
    let s := { station [quotedParcel 16, p] with timer := ⟨30000, 0⟩ }
    s.powered = true ∧ s.Holds [quotedParcel 16] p [] ∧ p.state = .waitPlate ∧
      (∀ q ∈ [quotedParcel 16], q.state ≠ .waitPlate) ∧ p.plateDue = some 30000 ∧ 29999 < 30000 ∧ 30000 ≤ s.timer.ms ∧
      s.link.reports.length < 16 ∧ 16 ≤ (List.replicate 16 report).length ∧ s.pending = [] ∧ s.Ready ∧
      p.tag = (17#8).toNat ∧ ({ s with pending := [.void 17] } : State).pending = .void (17#8) :: [] := by decide +kernel

/-- DayChangeResetsSerial: a millisecond early, and at the last millisecond of day 366, with and without a serial; no
write, one in progress, and a cell write held behind it. -/
theorem witness_DayChangeResetsSerial :
    (ready.powered = true ∧ ready.dispatch.clock = some ⟨83, 42120000⟩ ∧ 42120000 ≠ 86399999) ∧
    (∀ writes ∈ [[], [MemWrite.cell 366 200 false], [.record [], .cell 366 200 false]], let s := { ready with
        dispatch := { ready.dispatch with clock := some ⟨366, 86399999⟩ }
        loader := { ready.loader with writes := writes } };
      s.dispatch.clock = some ⟨366, 86399999⟩ ∧ s.label.serial ≠ none ∧ s.loader.writes = writes ∧
        ({ s with label := LabelUnit.powerOn } : State).label.serial = none) := by decide +kernel

/-- CutOffClosesHead: the clock a millisecond before the head's cut-off, and at it; a GIVE for it begun and one not, a
LABEL-PENDING record booked on it, and a booking that asks for the next entry. Then an open ask for the head, in each
phase, the closed entry the first or the third, with room on the next. -/
theorem witness_CutOffClosesHead :
    let e : Entry := ⟨83, 2, 960, 1200, 68, 0⟩
    let e2 : Entry := ⟨83, 3, 1140, 1150, 0, 0⟩
    let asking := fun (ph : AskPhase) (b : Booking) (rest : List Parcel) => { seeking ph (some (askOf 0)) with
      dispatch := { ready.dispatch with clock := some ⟨83, 57600000⟩, rings := [ring], current := some b }
      queue := holding (rest ++ [parcel 17 .seeking]) }
    let p := { pendingParcel 16 with dispatch := some (.entry 83 2) }
    let on := fun (day slot tries : Nat) => (⟨⟨17, 6, 68, true⟩, some (day, slot), tries, true, true⟩ : Booking)
    (let s := { asking .window (on 83 3 1) [p] with
        bus := { active with gives := [giveOf 0, { giveOf 1 with begun := false }] }
        share := { ready.share with openAsk := some { openAskIn .window with slot := 3 } } };
      s.powered = true ∧ s.dispatch.clock = some ⟨83, 57600000⟩ ∧ s.dispatch.ring 6 = some ring ∧
        ring.entries = e :: [e2] ∧ s.store.image = some image ∧ (e :: [e2]).getLast? = some e2 ∧
        (∀ r ∈ s.dispatch.rings, r.route = 6 → r = ring) ∧
        15811200000 ≤ forwardFrom e.instant (ClockTime.instant ⟨83, 57599999⟩) ∧
        forwardFrom e.instant (ClockTime.instant ⟨83, 57600000⟩) = 0 ∧
        (∀ p ∈ s.queue.parcels, ¬(p.state = .quoted ∧ p.standing = some true)) ∧ p.state = .labelPending ∧
        p.dispatch = some (.entry e.day e.slot) ∧ p.holds = true ∧ s.share.openAsk ≠ none ∧
        ¬{ openAskIn .window with slot := 3 }.slot = e.slot ∧ s.dispatch.current = some (on 83 3 1) ∧
        (on 83 3 1).trial ≠ some (e.day, e.slot)) ∧
    (∀ ph ∈ [AskPhase.waiting, .sending, .window], ∀ tries ∈ [0, 2], let b := on 83 2 tries;
      let s := asking ph b [p];
      s.share.openAsk = some (openAskIn ph) ∧ ((openAskIn ph).route = 6 ∧ (openAskIn ph).day = e.day ∧
        (openAskIn ph).slot = e.slot) ∧ s.dispatch.current = some b ∧ b.asking = true ∧ b.request.route = 6 ∧
        b.trial = some (e.day, e.slot) ∧ s.dispatch.line = [] ∧ s.Holds [p] (parcel 17 .seeking) [] ∧
        (parcel 17 .seeking).tag = b.request.tag ∧ s.link.reports.length < 16 ∧
        b.request.load ≤ e2.held - (e2.booked + e2.reserved)) := by decide +kernel

/-- CutOffRequotes: the record of tag 17 quoted on the head, room on the next entry; and behind it tag 18, its booking
asking for the head. -/
theorem witness_CutOffRequotes :
    let p := { quotedParcel 17 with route := 6 }
    let s := { station [p] with dispatch := { ready.dispatch with clock := some ⟨83, 57600000⟩, rings := [ring] } }
    let e : Entry := ⟨83, 2, 960, 1200, 68, 0⟩
    let e2 : Entry := ⟨83, 3, 1140, 1150, 0, 0⟩
    let q := parcel 18 .seeking
    let b : Booking := ⟨⟨18, 6, 30, true⟩, some (83, 2), 0, true, true⟩
    let s2 := { s with
      queue := holding [p, q]
      dispatch := { s.dispatch with current := some b }
      share := { ready.share with openAsk := some (openAskIn .window) } }
    s.powered = true ∧ s.dispatch.clock = some ⟨83, 57600000⟩ ∧ s.dispatch.rings = [ring] ∧ ring.route = 6 ∧
      ring.entries = e :: e2 :: [] ∧ [e2].getLast? = some e2 ∧
      forwardFrom e.instant (ClockTime.instant ⟨83, 57600000⟩) < 15811200000 ∧ s.store.image = some image ∧
      s.queue.parcels = [p] ∧ p.state = .quoted ∧ p.standing = some true ∧ p.route = 6 ∧
      p.dispatch = some (.entry e.day e.slot) ∧ p.quote = some 1 ∧ p.rating.load = some 68 ∧
      68 ≤ e2.held - (e2.booked + e2.reserved) ∧ s.share.openAsk = none ∧ s.dispatch.current = none ∧
      s.dispatch.line = [] ∧ s.link.reports.length < 16 ∧
      s2.queue.parcels = [p, q] ∧ p.tag ≠ q.tag ∧ q.state = .seeking ∧ s2.dispatch.current = some b ∧
      b.request.tag = q.tag ∧ b.request.route = 6 ∧ b.asking = true ∧ b.trial = some (e.day, e.slot) ∧ b.tries < 2 ∧
      s2.share.openAsk = some (openAskIn .window) ∧ (openAskIn .window).route = 6 ∧ (openAskIn .window).day = e.day ∧
      (openAskIn .window).slot = e.slot ∧ 68 + b.request.load ≤ e2.held - (e2.booked + e2.reserved) ∧
      s2.link.reports.length < 15 := by decide +kernel

/-- The entry of station 4. -/
def peer4 : Peer := ⟨4, 311, .present, none, 0, true, 2, 5, some 12, 0, 0⟩

/-- ContentionAndArbitration: a frame being sent; OFF; none to send; each kind to offer, the PRESENCE in ACTIVE and
ANNOUNCE. -/
theorem witness_ContentionAndArbitration :
    ready.powered = true ∧ (onBus { active with sending := some .ask }).bus.sending = some .ask ∧
      ready.bus.sending = none ∧ ready.bus.state = .off ∧ BusState.listen ≠ .active ∧ BusState.listen ≠ .announce ∧
      (onBus { active with gives := [giveOf 0] }).bus.gives = giveOf 0 :: [] ∧
      (onBus { active with ask := some (askOf 0) }).bus.ask = some (askOf 0) ∧
      (onBus { active with presence := some ⟨false, none, 0⟩ }).bus.presence = some ⟨false, none, 0⟩ ∧
      (onBus { active with state := .announce, presence := some ⟨true, none, 0⟩ }).bus.state = .announce := by
  decide +kernel

/-- FailedAttemptIsCounted: each kind before its last attempt but one, sent, and offered at the busy limit and before
it. -/
theorem witness_FailedAttemptIsCounted :
    (let s := onBus { active with gives := [giveOf 6], sending := some .give };
      s.powered = true ∧ s.bus.gives = giveOf 6 :: [] ∧ (giveOf 6).fails < 7 ∧ s.bus.sending = some .give) ∧
    (let s := { onBus { active with ask := some (askOf 6), waitFrom := some 100 } with timer := ⟨150, 0⟩ };
      s.bus.ask = some (askOf 6) ∧ s.bus.chosen = some .ask ∧ s.bus.waitFrom = some 100 ∧ 100 + 50 ≤ s.timer.ms ∧
        149 < 100 + 50) ∧
    (let s := onBus { active with presence := some ⟨false, none, 6⟩, sending := some .presence };
      s.bus.presence = some ⟨false, none, 6⟩ ∧ s.bus.sending = some .presence) := by decide +kernel

/-- EighthFailureAbandons: each kind at its last attempt, sent and at the busy limit; a GIVE with its entry open and
closed; no open ask, one whose frame fails and one held back behind it; a join PRESENCE in ANNOUNCE and another. -/
theorem witness_EighthFailureAbandons :
    (∀ live ∈ [true, false], let g := { giveOf 7 with live := live };
      let s := onBus { active with gives := [g, giveOf 0], sending := some .give, consecutive := 2 };
      s.powered = true ∧ s.bus.consecutive < 3 ∧ s.bus.gives = g :: [giveOf 0] ∧ g.fails = 7 ∧ g.live = live ∧
        s.bus.sending = some .give) ∧
    (let s := { onBus { active with gives := [giveOf 7], waitFrom := some 100 } with timer := ⟨150, 0⟩ };
      s.bus.chosen = some .give ∧ s.bus.waitFrom = some 100 ∧ 100 + 50 ≤ s.timer.ms) ∧
    (∀ ph ∈ [AskPhase.sending, .waiting], let s := { seeking ph (some (askOf 7)) with
        bus := { active with ask := some (askOf 7), sending := some .ask } };
      s.bus.consecutive < 3 ∧ s.bus.ask = some (askOf 7) ∧ (askOf 7).fails = 7 ∧ s.bus.sending = some .ask ∧
        s.share.openAsk = some (openAskIn ph) ∧ (openAskIn ph).phase = ph) ∧
    (onBus { active with ask := some (askOf 7) }).share.openAsk = none ∧
    (∀ join ∈ [true, false], let s := onBus { active with
        state := .announce, presence := some ⟨join, none, 7⟩, sending := some .presence };
      s.bus.presence = some ⟨join, none, 7⟩ ∧ s.bus.sending = some .presence ∧ s.bus.state = .announce) := by
  decide +kernel

/-- The eighth attempt of an ASK, three frames abandoned before it: tag 18 in SEEKING, its entry holding its 68 units free,
and the older tag 17 QUOTED with its quote WITHDRAWN, its requote of 100 units in the line. -/
def fourthAsk : State :=
  { station [{ quotedParcel 17 with standing := some false, dispatch := none, holds := false }, parcel 18 .seeking] with
    share := { ready.share with openAsk := some (openAskIn .sending) }
    peers := ⟨[peer4], true, false⟩
    bus := { active with ask := some (askOf 7), sending := some .ask, consecutive := 3 }
    dispatch := { ready.dispatch with
      rings := [⟨6, [⟨83, 2, 960, 68, 0, 0⟩, ⟨83, 3, 1140, 1150, 0, 0⟩, ⟨84, 1, 540, 1100, 0, 0⟩], 0⟩]
      current := some ⟨⟨18, 6, 68, true⟩, some (83, 2), 0, true, true⟩
      line := [⟨17, 6, 100, false⟩] } }

/-- FourthAbandonmentIsQuiet: a join PRESENCE, the QUIET history at 1 and at 2; a GIVE in ACTIVE with one begun and one
not behind it; an open ask whose booking finds no room; six records and nine reports. -/
theorem witness_FourthAbandonmentIsQuiet :
    (∀ n ∈ [1, 2], let s := onBus { active with
        state := .announce, presence := some ⟨true, none, 7⟩, sending := some .presence, consecutive := 3, quietHistory := n };
      s.powered = true ∧ s.bus.state = .announce ∧ s.bus.sending = some .presence ∧
        s.bus.presence = some ⟨true, none, 7⟩ ∧ s.bus.consecutive = 3 ∧ s.bus.gives = [] ∧ s.bus.ask = none ∧
        s.share.openAsk = none ∧ s.bus.quietHistory ≤ 2) ∧
    (let gives := [giveOf 7, { giveOf 0 with giveNo := 34 }, { giveOf 0 with giveNo := 35, begun := false }];
      let s := onBus { active with gives := gives, sending := some .give, consecutive := 3, quietHistory := 1 };
      s.bus.state = .active ∧ s.bus.gives = giveOf 7 :: gives.drop 1 ∧ (giveOf 7).fails = 7 ∧
        s.dispatch.stranded ≤ 65535) ∧
    (let b : Booking := ⟨⟨17, 6, 1133, true⟩, some (83, 2), 0, true, true⟩;
      let s := { seeking .window none with
        bus := { active with presence := some ⟨false, none, 7⟩, sending := some .presence, consecutive := 3 }
        dispatch := { ready.dispatch with
          rings := [{ ring3 with entries := ring3.entries.map (fun (e : Entry) => { e with held := 1200, booked := 68 }) }]
          current := some b } };
      s.share.openAsk ≠ none ∧ s.dispatch.current = some b ∧ s.dispatch.line = [] ∧
        (s.dispatch.ring 6).isSome = true ∧ ∀ r ∈ s.dispatch.rings, ∀ e ∈ r.entries, e.held - (e.booked + e.reserved) < 1133) ∧
    (let s := { fourthAsk with
        queue := holding (fourthAsk.queue.parcels ++ [parcel 19 .onBelt, parcel 20 .onBelt, parcel 21 .onBelt, parcel 22 .onBelt])
        link := { Link.powerOn with reports := List.replicate 9 report } };
      s.powered = true ∧ s.bus.consecutive = 3 ∧ s.queue.parcels.length ≤ 6 ∧ s.link.reports.length ≤ 9) := by
  decide +kernel

/-- AckSlotCompletesFrames: nothing sent; a GIVE with its entry open and closed; an ASK with its open ask, and one with a
later ask held back behind it; a PRESENCE in ACTIVE; a join PRESENCE. -/
theorem witness_AckSlotCompletesFrames :
    ready.powered = true ∧ ready.bus.sending = none ∧
    (∀ live ∈ [true, false], let g := { giveOf 0 with live := live };
      let s := onBus { active with gives := [g], sending := some .give };
      s.bus.sending = some .give ∧ s.bus.gives = g :: [] ∧ g.live = live) ∧
    (∀ ph ∈ [AskPhase.sending, .waiting], let s := { onBus { active with ask := some (askOf 0), sending := some .ask } with
        share := { ready.share with openAsk := some (openAskIn ph) } };
      s.bus.sending = some .ask ∧ s.bus.ask = some (askOf 0) ∧ s.share.openAsk = some (openAskIn ph)) ∧
    (let s := onBus { active with presence := some ⟨false, none, 0⟩, sending := some .presence };
      s.bus.presence = some ⟨false, none, 0⟩ ∧ s.bus.state ≠ .announce) ∧
    (let s := onBus { active with state := .announce, presence := some ⟨true, none, 0⟩, sending := some .presence };
      s.bus.presence = some ⟨true, none, 0⟩ ∧ s.bus.state = .announce) := by decide +kernel

/-- BusTimersAtExpiry: each timer in its state. -/
theorem witness_BusTimersAtExpiry :
    let at5 := fun (b : BusController) => ({ onBus b with timer := ⟨5, 0⟩ } : State)
    (at5 active).powered = true ∧ 5 ≤ (at5 active).timer.ms ∧
      (at5 { active with state := .quiet, quietDue := some 5 }).bus.quietDue = some 5 ∧
      (at5 { active with state := .listen, listenDue := some 5 }).bus.listenDue = some 5 ∧
      (at5 { active with state := .gather, gatherDue := some 5 }).bus.gatherDue = some 5 ∧
      (at5 { active with activeDue := some 5 }).bus.state = .active ∧
      (at5 { active with presenceDue := some 5 }).bus.presenceDue = some 5 := by decide +kernel

/-- SilenceAndDiscardedFrames: 1 ms before three intervals of 1,000 ms and at them; a frame of no bytes; a station in OFF,
one that sends, and one that has observed no idle gap. -/
theorem witness_SilenceAndDiscardedFrames :
    (let s := { onBus active with peers := ⟨[peer4], false, false⟩, timer := ⟨3000, 0⟩ };
      s.powered = true ∧ s.peers.peers.find? (fun q => q.station == 4) = some peer4 ∧
        2999 < peer4.heardMs + 3 * s.loader.presenceInterval ∧
        peer4.heardMs + 3 * s.loader.presenceInterval ≤ s.timer.ms ∧ peer4.timing = true ∧ s.bus.state ≠ .off ∧
        s.bus.sending = none ∧ s.bus.observing = true ∧ Frame.parse [] = none) ∧
    ready.bus.state = .off ∧ (onBus { active with sending := some .ask }).bus.sending ≠ none ∧
      (onBus { active with observing := false }).bus.observing = false := by decide +kernel

/-- PresenceReceivedSetsPeer: a station without an entry, and one with, at the greatest fields; a status that stays and
one that changes. -/
theorem witness_PresenceReceivedSetsPeer :
    let s := { onBus active with peers := ⟨[peer4], false, false⟩ }
    s.powered = true ∧ s.bus.state ≠ .off ∧ s.bus.sending = none ∧ s.bus.observing = true ∧ 32 ≠ s.loader.stationNo ∧
      (∀ q ∈ s.peers.peers, q.station ≠ 32) ∧ (∃ q ∈ s.peers.peers, q.station = 4) ∧ 4 ≠ s.loader.stationNo ∧
      peer4.status = .present ∧ 311 = s.store.edition ∧ s.store.edition ≠ 65535 ∧ s.store.edition ≠ 0 := by decide +kernel

/-- AskReceivedIsAnswered: station 4 asks for 4,095 units of an entry with 1,132 to spare; a station in GATHER, an entry
without spare, and a dispatch not open. -/
theorem witness_AskReceivedIsAnswered :
    let s := { onBus { active with gives := List.replicate 3 (giveOf 0) } with
      peers := ⟨[peer4], false, false⟩, dispatch := { ready.dispatch with rings := [ring3] } }
    let e : Entry := ⟨83, 2, 960, 1200, 68, 0⟩
    let keep := (s.store.image.map (fun g => routeKeepBack g 6)).getD 0
    s.powered = true ∧ s.bus.state = .active ∧ s.bus.sending = none ∧ s.bus.observing = true ∧ 4 ≠ s.loader.stationNo ∧
      (Frame.ask 4 41 6 83 2 4095).wf = true ∧ s.peers.find 4 = some peer4 ∧ peer4.status = .present ∧
      s.dispatch.entry 6 83 2 = some e ∧ s.share.openAsk = none ∧ s.bus.gives.length < 4 ∧
      0 < e.held - (e.booked + e.reserved) - keep ∧ { e with reserved := 1132 }.held - (68 + 1132) - keep = 0 ∧
      s.dispatch.entry 6 83 1 = none ∧ BusState.gather ≠ .active := by decide +kernel

/-- GiveReceivedCases: from an unknown station; a repeat; a new give with no ask open, for an open dispatch and for one
that is not; one that matches the open ask and leaves it a unit short. -/
theorem witness_GiveReceivedCases :
    let s := { onBus active with peers := ⟨[peer4], false, false⟩, dispatch := { ready.dispatch with rings := [ring3] } }
    let a := { openAskIn .window with wanted := 4095, received := 0 }
    s.powered = true ∧ s.bus.state = .active ∧ s.bus.sending = none ∧ s.bus.observing = true ∧ 4 ≠ s.loader.stationNo ∧
      (Frame.give 4 s.loader.stationNo 41 12 6 83 2 4095).wf = true ∧ s.peers.find 5 = none ∧ 5 ≠ s.loader.stationNo ∧
      s.peers.find 4 = some peer4 ∧ peer4.lastGive = some 12 ∧ peer4.lastGive ≠ some 13 ∧ s.share.openAsk = none ∧
      s.dispatch.entry 6 83 2 = some ⟨83, 2, 960, 1200, 68, 0⟩ ∧ s.dispatch.entry 6 83 1 = none ∧
      (a.askNo = 41 ∧ a.route = 6 ∧ a.day = 83 ∧ a.slot = 2) ∧ satAdd 65535 a.received 4094 < a.wanted := by
  decide +kernel

/-- OwnNumberHeardIsDuplicate: a PRESENCE, an ASK and a GIVE with this station's number, an ask open, a GIVE begun and one
not; and the same in FAILED. -/
theorem witness_OwnNumberHeardIsDuplicate :
    (let s := { seeking .window none with
        bus := { active with gives := [giveOf 0, { giveOf 1 with begun := false }] } };
      s.powered = true ∧ s.bus.state ≠ .off ∧ s.bus.state ≠ .failed ∧ s.bus.sending = none ∧ s.bus.observing = true ∧
        s.share.openAsk = some (openAskIn .window) ∧ s.peers.duplicate = false ∧ s.dispatch.stranded ≤ 65535 ∧
        ∀ f ∈ [Frame.presence 7 311 1 0 2, .ask 7 41 6 83 2 38, .give 7 4 41 12 6 83 2 38],
          f.wf = true ∧ f.sender = s.loader.stationNo) ∧
    (onBus { active with state := .failed }).bus.state = .failed ∧
      Instr.presenceReceived 7 311 (1 == 1) 0 2 = .presenceReceived 7 311 true 0 2 := by decide +kernel

/-- AskEndsAndBookingRetries: a window that ends now, and one a millisecond on; an ASK frame sent; a GIVE that brings the
ask to its units. Then the load free on the entry; on the next alone; on neither, with a PRESENT peer; the last entry; an
ASK frame that has begun, and one that has not. -/
theorem witness_AskEndsAndBookingRetries :
    (let s := { seeking .window none with timer := ⟨50, 0⟩, peers := ⟨[peer4], false, false⟩ };
      s.powered = true ∧ s.share.openAsk = some (openAskIn .window) ∧ (openAskIn .window).windowEnd ≤ s.timer.ms ∧
        49 < (openAskIn .window).windowEnd ∧ s.bus.state = .active ∧ s.bus.sending = none ∧ s.bus.observing = true ∧
        4 ≠ s.loader.stationNo ∧ s.peers.find 4 = some peer4 ∧ peer4.lastGive ≠ some 13 ∧
        (Frame.give 4 s.loader.stationNo 41 13 6 83 2 38).wf = true ∧
        s.dispatch.entry 6 83 2 = some ⟨83, 2, 960, 1200, 68, 0⟩ ∧ 38 ≤ satAdd 65535 0 38) ∧
    (let s := { seeking .sending (some (askOf 0)) with bus := { active with ask := some (askOf 0), sending := some .ask } };
      s.share.openAsk = some (openAskIn .sending) ∧ s.bus.sending = some .ask ∧ s.bus.ask = some (askOf 0)) ∧
    (let s := { seeking .window none with peers := ⟨[peer4], false, false⟩ };
      let p := parcel 17 .seeking;
      let b : Booking := ⟨⟨17, 6, 68, true⟩, some (83, 2), 0, true, true⟩;
      let e : Entry := ⟨83, 2, 960, 1200, 68, 0⟩;
      s.dispatch.current = some b ∧ b.asking = true ∧ b.asked = true ∧ b.tries < 2 ∧ b.trial = some (e.day, e.slot) ∧
        s.dispatch.ring 6 = some ring3 ∧ ring3.entries = [] ++ e :: ring3.entries.drop 1 ∧
        (ring3.entries.map (fun x => (x.day, x.slot))).Nodup ∧ s.Holds [] p [] ∧ p.tag = b.request.tag ∧
        s.link.reports.length < 16 ∧ b.request.load ≤ e.held - (e.booked + e.reserved) ∧
        1200 - (68 + 0) < 1133 ∧ 1133 ≤ 1150 - (0 + 0) ∧ 1150 - (0 + 0) < 1151 ∧
        (∃ q ∈ s.peers.peers, q.status = .present) ∧ b.request.rated = true ∧ s.bus.ask = none ∧
        1100 - (0 + 0) < 1151) ∧
    (∀ begun ∈ [true, false], let f := { askOf 0 with begun := begun };
      (seeking .sending (some f)).bus.ask = some f ∧ (seeking .sending (some f)).share.openAsk ≠ none) := by
  decide +kernel

/-- The station with this outfeed and these records. -/
def onBelt (o : Outfeed) (ps : List Parcel) : State := { station ps with outfeed := o }

/-- A BREAK at 65,200 (chapter 9, section 9.11). -/
def brk : Edge := ⟨.brk, 65200, 0⟩

/-- Its MAKE at 65,410. -/
def make : Edge := ⟨.make, 65410, 500000⟩

/-- EdgeCaptureQueues: no change; CONFIG-FAULT; behind a BREAK that waits, with 7 queued and with 8; with nothing held a
BREAK with six entries in the table and with seven, and a MAKE; a lone MAKE. -/
theorem witness_EdgeCaptureQueues :
    (ready.powered = true ∧ ready.outfeed.beam = .made ∧ Beam.made ≠ .broken ∧ State.reset.loader.station = .configFault) ∧
    (∀ n ∈ [7, 8], let s := onBelt { Outfeed.powerOn with
        holding := some brk, edges := List.replicate n make, actions := List.replicate 7 ⟨0, .clearChute, 16⟩ } [];
      s.loader.station = .running ∧ s.outfeed.holding = some brk ∧ 6 < s.outfeed.actions.length ∧
        s.outfeed.edges.length = n ∧ s.outfeed.overrun = false ∧ s.link.reports.length < 16) ∧
    (∀ n ∈ [6, 7], let s := onBelt { Outfeed.powerOn with actions := List.replicate n ⟨0, .clearChute, 16⟩ } [];
      s.outfeed.beam = .made ∧ s.loader.station = .running ∧ s.outfeed.holding = none ∧ s.outfeed.edges = [] ∧
        s.outfeed.pendingClear = [] ∧ s.outfeed.actions.length = n) ∧
    (onBelt { Outfeed.powerOn with pendingClear := [(16, 0)] } []).outfeed.pendingClear ≠ [] ∧
    (let s := onBelt { Outfeed.powerOn with beam := .broken } [];
      s.outfeed.beam = .broken ∧ s.outfeed.holding = none ∧ s.outfeed.edges = [] ∧ s.outfeed.openParcel = none) := by
  decide +kernel

/-- TakeBreakMatches: no room; tag 17 LABEL-PENDING with six entries in the table, its gap a count short and at the
minimum; no such record, an UNMATCHED parcel open; a parcel a count too close behind that of tag 17; and tag 17's parcel
still open. -/
theorem witness_TakeBreakMatches :
    let o := { Outfeed.powerOn with encoder := 65200, holding := some brk, actions := List.replicate 6 ⟨0, .clearChute, 16⟩ }
    let p := { quotedParcel 17 with state := .labelPending }
    let q := { quotedParcel 17 with state := .onBelt, tracking := some [] }
    (let s := onBelt { o with pendingClear := [(16, 0)] } [];
      s.powered = true ∧ s.outfeed.holding = some brk ∧ brk.kind = .brk ∧ s.outfeed.pendingClear ≠ []) ∧
    (let s := onBelt o [p];
      s.outfeed.pendingClear = [] ∧ s.outfeed.actions.length ≤ 6 ∧ s.outfeed.edges = [] ∧ s.outfeed.openParcel = none ∧
        s.Holds [] p [] ∧ p.state = .labelPending ∧ p.marks = none ∧
        32768 ≤ (s.outfeed.encoder - (brk.pos + BitVec.ofNat 16 s.loader.gate - BitVec.ofNat 16 s.loader.lead)).toNat) ∧
    (let s := onBelt { o with openParcel := some ⟨65000, 0, none⟩ } [];
      (∀ p ∈ s.queue.parcels, p.state ≠ .labelPending) ∧ s.outfeed.gap = none ∧
        s.outfeed.openParcel = some ⟨65000, 0, none⟩) ∧
    (let gap := fun (n : Nat) => brk.pos - BitVec.ofNat 16 n;
      let s := onBelt { o with gap := some ⟨gap (ready.loader.minGap - 1), some 17⟩, owner := some 17 } [q];
      s.Holds [] q [] ∧ q.state = .onBelt ∧ (∀ q ∈ s.queue.parcels, q.state ≠ .labelPending) ∧
        s.outfeed.openParcel = none ∧ (brk.pos - gap (ready.loader.minGap - 1)).toNat < s.loader.minGap ∧
        ¬(brk.pos - gap ready.loader.minGap).toNat < s.loader.minGap) ∧
    (let s := onBelt { o with openParcel := some ⟨65000, 0, some 17⟩ } [q];
      s.Holds [] q [] ∧ s.outfeed.gap = none ∧ s.outfeed.openParcel = some ⟨65000, 0, some 17⟩ ∧ s.label.slot = none ∧
        s.link.reports.length < 16) ∧
    (∀ line ∈ [true, false], ∀ order ∈ [[], [labelOf 18]],
      let s := { onBelt { o with openParcel := some ⟨65000, 0, some 17⟩ } [q] with
        label := { ready.label with
          printer := .presented, slot := some (labelOf 17), faultLine := line, printOrder := order } };
      s.Holds [] q [] ∧ s.outfeed.openParcel = some ⟨65000, 0, some 17⟩ ∧ s.label.slot = some (labelOf 17) ∧
        (labelOf 17).tag = q.tag ∧ s.label.faultLine = line ∧
        s.label.printOrder.filter (fun l => l.tag ≠ q.tag) = order) := by decide +kernel

/-- TakeMakeMeasures: no open parcel; an UNMATCHED one; tag 17's, with seven entries in the table and with eight, its
SET-CHUTE among them or gone. -/
theorem witness_TakeMakeMeasures :
    let o := { Outfeed.powerOn with encoder := 65410, holding := some make }
    let p := { quotedParcel 17 with state := .onBelt, dims := some (.mm 260 310 420 false) }
    (let s := onBelt o [];
      s.powered = true ∧ s.outfeed.holding = some make ∧ make.kind = .make ∧ s.outfeed.edges = [] ∧
        s.outfeed.openParcel = none) ∧
    (onBelt { o with openParcel := some ⟨65200, 0, none⟩ } []).outfeed.openParcel = some ⟨65200, 0, none⟩ ∧
    (∀ kind ∈ [ActKind.setChute 4, .clearChute], ∀ n ∈ [6, 7], let s := onBelt { o with
        openParcel := some ⟨65200, 0, some 17⟩, owner := some 17
        actions := ⟨0, kind, if kind = .clearChute then 16 else 17⟩ :: List.replicate n ⟨0, .clearChute, 16⟩ } [p];
      s.outfeed.openParcel = some ⟨65200, 0, some 17⟩ ∧ s.Holds [] p [] ∧ p.state = .onBelt ∧
        p.dims = some (.mm 260 310 420 false) ∧ s.outfeed.owner = some p.tag ∧
        (s.outfeed.actions.any (fun a => a.setsFor p.tag)) = (kind == .setChute 4) ∧
        32768 ≤ (s.outfeed.encoder -
          (make.pos + BitVec.ofNat 16 s.loader.gate + BitVec.ofNat 16 s.loader.trail)).toNat) := by decide +kernel

/-- EncoderPulseActs: an entry 32,768 counts ahead; a SET-CHUTE, an APPLY with its label, with the line asserted or a
label waiting, and without, and a CLEAR-CHUTE reached as the count passes 65,535, an APPLY of its record staying and its
label in the slot; an entry 32,767 counts past; two entries reached with one ahead between them; and a full table with a
CLEAR waiting, the entry in its middle reached. -/
theorem witness_EncoderPulseActs :
    let o := fun (a : Action) => { Outfeed.powerOn with encoder := 65535, actions := [a] }
    let p := { quotedParcel 17 with state := .onBelt }
    let later : Action := ⟨32768, .apply, 17⟩
    (let s := onBelt (o ⟨32768, .apply, 17⟩) [];
      s.powered = true ∧ s.outfeed.holding = none ∧ s.outfeed.pendingClear = [] ∧
        ∀ a ∈ s.outfeed.actions, 32768 ≤ (s.outfeed.encoder + 1 - a.pos).toNat) ∧
    ((onBelt (o ⟨32769, .setChute 4, 17⟩) []).outfeed.encoder + 1 - 32769).toNat = 32767 ∧
    (∀ line ∈ [true, false], ∀ order ∈ [[], [labelOf 18]], let s := { onBelt (o ⟨0, .apply, 17⟩) [p] with
        label := { ready.label with
          printer := .presented, slot := some (labelOf 17), faultLine := line, printOrder := order } };
      s.outfeed.actions = ⟨0, .apply, 17⟩ :: [] ∧ (s.outfeed.encoder + 1 - 0).toNat < 32768 ∧
        s.label.slot = some (labelOf 17) ∧ (labelOf 17).tag = 17 ∧ s.label.faultLine = line ∧ s.label.printOrder = order) ∧
    (let s := onBelt (o ⟨0, .apply, 17⟩) [p];
      s.label.slot = none ∧ s.Holds [] p []) ∧
    (let s := onBelt { o ⟨0, .clearChute, 17⟩ with actions := [⟨0, .clearChute, 17⟩, later], owner := some 17 } [p];
      s.Holds [] p [] ∧ p.state = .onBelt ∧ s.outfeed.actions = ⟨0, .clearChute, 17⟩ :: [later] ∧
        32768 ≤ (s.outfeed.encoder + 1 - later.pos).toNat ∧ s.outfeed.owner = some p.tag ∧ s.label.slot = none ∧
        s.link.reports.length < 16 ∧ (labelOf p.tag).tag = p.tag) ∧
    (let s := onBelt { o later with actions := [⟨0, .setChute 4, 17⟩, later, ⟨65535, .clearChute, 17⟩] } [p];
      s.outfeed.actions = [] ++ ⟨0, .setChute 4, 17⟩ :: [later, ⟨65535, .clearChute, 17⟩] ∧ s.outfeed.pendingClear = [] ∧
        (s.outfeed.encoder + 1 - 0).toNat < 32768 ∧ (s.outfeed.encoder + 1 - 65535).toNat < 32768 ∧
        32768 ≤ (s.outfeed.encoder + 1 - later.pos).toNat) ∧
    (let ahead := List.replicate 3 later ++ [];
      let s := onBelt { o later with
        actions := ahead ++ ⟨0, .setChute 4, 17⟩ :: later :: ahead, pendingClear := [(16, 32768)] } [p];
      s.outfeed.actions = ahead ++ ⟨0, .setChute 4, 17⟩ :: (later :: ahead) ∧ s.outfeed.actions.length = 8 ∧
        (∀ a ∈ ahead ++ (later :: ahead), 32768 ≤ (s.outfeed.encoder + 1 - a.pos).toNat) ∧
        s.outfeed.pendingClear = (16, 32768) :: [] ∧ 32768 ≤ (s.outfeed.encoder + 1 - 32768).toNat) := by decide +kernel

/-- JamEndsRecord: a microsecond before 8 s since the BREAK, the capture timer wrapping, and at 8 s; the record's own CLEAR
waiting with another's, and none. -/
theorem witness_JamEndsRecord :
    let p := { quotedParcel 17 with state := .onBelt, front := some (65200, 4294967295) }
    let s := onBelt { Outfeed.powerOn with capture := 7999999 } [p]
    s.powered = true ∧ s.Holds [] p [] ∧ p.state = .onBelt ∧ p.front = some (65200, 4294967295) ∧
      (7999998 - 4294967295 : Micros).toNat < s.loader.beltTimeout * 1000000 ∧
      s.loader.beltTimeout * 1000000 ≤ (s.outfeed.capture - 4294967295).toNat ∧ s.outfeed.holding = none ∧
      s.outfeed.pendingClear = [] ∧ s.outfeed.jammed = false ∧ s.label.slot = none ∧ s.link.reports.length < 16 ∧
      p.holds = true ∧ p.dispatch = some (.entry 83 2) ∧
      (∀ x ∈ [((17 : Nat), (32767 : Count)), (16, 32768)], x.1 ≠ p.tag → 32768 ≤ (s.outfeed.encoder - x.2).toNat) := by
  decide +kernel

/-- PrinterEvents: the label of tag 17 at the printer, its record LABEL-PENDING, late, and gone, its tag held by another;
the timer before its end and at it; and the printer in IDLE and in PRESENTED. -/
theorem witness_PrinterEvents :
    let u := { ready.label with printer := .printing, atPrinter := some (labelOf 17), printDue := some 5000 }
    let p := pendingParcel 17
    (let s := { station [p] with label := u };
      s.powered = true ∧ s.label.printer = .printing ∧ s.label.atPrinter = some (labelOf 17) ∧
        (∃ p ∈ s.queue.parcels,
          (p.tag = (labelOf 17).tag ∧ p.tracking = some (labelOf 17).tracking) ∧ p.state = .labelPending) ∧
        (∀ p ∈ s.queue.parcels, p.marked.labelLate = false) ∧ s.label.printDue = some 5000 ∧ 4999 < 5000 ∧
        s.label.faultLine = false) ∧
    (let s := { station [{ p with tracking := some [1] }] with label := u };
      (∀ p ∈ s.queue.parcels, p.tracking ≠ some (labelOf 17).tracking) ∧ s.label.printOrder = []) ∧
    (let s := station [{ p with marks := some ⟨true, false, false⟩ }];
      ∃ p ∈ s.queue.parcels, p.tag = (labelOf 17).tag ∧ p.marked.labelLate = true) ∧
    (ready.label.printer = .idle ∧ ready.label.faultLine = false ∧
      ({ ready.label with printer := .presented } : LabelUnit).printer = .presented) := by decide +kernel

/-- TrackingNumberDigits: every field at its greatest. -/
theorem witness_TrackingNumberDigits : 9999 ≤ 9999 ∧ 366 ≤ 366 ∧ 32 ≤ 32 ∧ 999999 ≤ 999999 := by decide +kernel

/-- EncodingsRoundTrip: a message of the longest payload; a PRESENCE with every field at its greatest. -/
theorem witness_EncodingsRoundTrip :
    ((Instr.loadChunk (List.replicate 255 0)).wf = true ∧
      (encodeMessage (.loadChunk (List.replicate 255 0))).isSome = true) ∧
    (Frame.presence 32 65535 1 7 16).wf = true ∧
      Frame.parse (Frame.presence 32 65535 1 7 16).bytes = some (.presence 32 65535 1 7 16) := by decide +kernel

/-- StepKeepsBlocks: the invariants at a state that is not reset, and a step from it. -/
theorem witness_StepKeepsBlocks :
    let s := { seeking .window none with pending := [.fetch], peers := ⟨[peer4], false, false⟩ }
    s.MemoriesOk ∧ s.PrinterOk ∧ s.HallOk ∧ s.pending = .fetch :: [] ∧ Completes (step s) :=
  ⟨by decide +kernel, by decide +kernel, by decide +kernel, rfl, _, rfl⟩

/-- StepKeepsRecords and StepKeepsBounds: six records, a label and an action entry of their tags, and a step. -/
theorem witness_StepKeepsRecords :
    let s := { seeking .window none with
      pending := [.fetch]
      queue := holding [quotedParcel 12, quotedParcel 13, quotedParcel 14, { quotedParcel 15 with state := .onBelt },
        pendingParcel 16, parcel 17 .seeking]
      outfeed := { Outfeed.powerOn with actions := [⟨0, .apply, 15⟩], openParcel := some ⟨0, 0, some 15⟩ }
      label := { ready.label with printer := .fault, printOrder := [labelOf 16] } }
    s.TagsOk ∧ s.PlateOk ∧ s.BeltOk ∧ s.HallOk ∧ s.Bounded ∧ s.CountersOk ∧ Completes (step s) :=
  ⟨by decide +kernel,
    ⟨by decide +kernel, by decide +kernel, by decide +kernel, fun _ h => Option.some.inj h ▸ by decide +kernel, nofun⟩,
    ⟨by decide +kernel, by decide +kernel, by decide +kernel, by decide +kernel,
      fun _ _ h hx => by cases h; cases hx; decide +kernel, by decide +kernel, by decide +kernel⟩,
    by decide +kernel, by decide +kernel,
    by
      refine ⟨?_, ?_, ?_, ?_, ?_, ?_, ?_, ?_, ?_, ?_, ?_, ?_, ?_, ?_, ?_, ?_, ?_, ?_, ?_, fun _ h => Option.some.inj h ▸ ?_⟩ <;>
        decide +kernel, _, rfl⟩

/-- StepKeepsUnits: a set clock, no image, a GIVE that reserves nothing, and a step. -/
theorem witness_StepKeepsUnits :
    let s := { onBus { active with gives := [{ giveOf 0 with live := false }] } with
      store := State.reset.store, pending := [.fetch] }
    s.UnitsOk ∧ Completes (step s) :=
  ⟨⟨nofun, nofun, fun _ h => by cases h; decide +kernel, nofun, by decide +kernel, by simp [onBus, ready, State.reset],
    by decide +kernel⟩, _, rfl⟩

/-! ### Well-formedness: an ill-formed term for each check -/

set_option maxRecDepth 100000 in
/-- Each check of WellFormed refuses a term just outside it: a record answered past its 81 bytes, a payload of a wrong
length, a message that is not malformed, a field of a frame outside its range, a well-formed frame named as one that is
not, a route, a station and a tag that do not exist. -/
theorem test_wf_refuses :
    ∀ i ∈ [Instr.powerOn 82 true true true .made false, .restartInput 82, .restart 82,
      .badCommand 4 [], .badCommand 24 (List.replicate 256 0), .accept [0x30, 0x30, 0x30, 0x30] 0 0,
      .ackAttention (List.replicate 256 0), .loadChunk (List.replicate 256 0), .setNextConfig (List.replicate 80 0),
      .cutOff 16, .silenceTimerExpiry 0, .silenceTimerExpiry 33,
      .frameNotWellFormed (Frame.presence 7 311 1 3 2).bytes, .presenceReceived 0 311 true 3 2,
      .presenceReceived 7 65536 true 3 2, .presenceReceived 7 311 true 8 2, .presenceReceived 7 311 true 3 17,
      .askReceived 33 41 6 83 2 38, .askReceived 7 256 6 83 2 38, .askReceived 7 41 16 83 2 38,
      .askReceived 7 41 6 367 2 38, .askReceived 7 41 6 83 5 38, .askReceived 7 41 6 83 2 4096,
      .giveReceived 4 0 41 12 6 83 2 38, .giveReceived 4 7 41 256 6 83 2 38, .giveReceived 4 7 41 12 6 0 2 38,
      .giveReceived 4 7 41 12 6 83 0 38, .giveReceived 4 7 41 12 6 83 2 0, .jam 0, .jam 256], i.wf = false := by
  decide +kernel

/-- The terms at the edge of each check pass it. -/
theorem test_wf_admits :
    ∀ i ∈ [Instr.powerOn 81 true true true .made false, .restart 81, .badCommand 24 [], .badCommand 4 [0],
      .accept postcode 255 0, .cutOff 15, .silenceTimerExpiry 32, .presenceReceived 32 65535 false 7 16,
      .askReceived 32 255 15 366 4 4095, .giveReceived 1 32 0 255 0 1 1 1, .jam 255], i.wf = true := by decide +kernel

/-! ### Messages and frames, written out from the spec -/

/-- Messages by their bytes: kind, length, payload (R186, Table 1). -/
theorem test_decode_messages :
    ∀ x ∈ [([1, 9, 0x30, 0x30, 0x30, 0x34, 0x34, 0, 0x00, 0x61, 0xA8], Instr.accept postcode 0 25000),
      ([2, 2, 17, 1], .confirm 17 1), ([3, 1, 17], .void 17), ([4, 0], .fetch), ([5, 1, 17], .queryParcel 17),
      ([6, 0], .queryStation), ([7, 1, 6], .queryDispatch 6), ([8, 0], .queryPeers),
      ([9, 6, 0x00, 0x53, 0x02, 0x82, 0xB0, 0x40], .setClock 83 42119232), ([10, 2, 0x01, 0x02], .setTare 258),
      ([11, 0], .zero), ([12, 0], .clearFlags), ([13, 3, 0x01, 0x02, 0x80], .setAttention 258 128),
      ([14, 1, 9], .ackAttention [9]), ([15, 0], .loadBegin), ([16, 2, 1, 55], .loadChunk [1, 55]), ([17, 0], .loadEnd),
      ([18, 3, 0x10, 0x8D, 18], .readTariff 4237 18), ([19, 0], .releaseJoin), ([20, 0], .printerRetry),
      ([22, 1, 1], .readConfig 1), ([23, 0], .restart 81), ([24, 0], .badCommand 24 []), ([4, 1, 0], .badCommand 4 [0]),
      ([21, 0], .badCommand 21 [])],
      decodeMessage 81 x.1 = some x.2 ∧ encodeMessage x.2 = some x.1 := by decide +kernel

/-- A message cut short is none, and no table word spells a command. -/
theorem test_decode_none :
    decodeMessage 81 [1, 9, 0x30] = none ∧ decodeMessage 81 [4] = none ∧ decodeTableWord 16 4 = none := by decide +kernel

/-- The CRC-16 of the digits 1 to 9 (introduction, Table 3). -/
theorem test_crc : crc16 [0x31, 0x32, 0x33, 0x34, 0x35, 0x36, 0x37, 0x38, 0x39] = 0x29B1 := by decide +kernel

/-- The three frames byte by byte (R109, Table 1), the CRC worked apart from the model. -/
theorem test_frames :
    (Frame.give 4 7 41 12 6 83 2 38).bytes = [3, 7, 41, 12, 6, 0, 83, 2, 0, 38, 0xD8, 0x95] ∧
    (Frame.ask 7 41 6 83 2 38).bytes = [38, 0, 41, 6, 0, 83, 2, 0, 38, 0xE9, 0xFE] ∧
    (Frame.presence 7 311 1 3 2).bytes = [70, 0, 1, 55, 1, 1, 3, 2, 0x5D, 0x2A] := by decide +kernel

/-- A bit that changes under the CRC, a frame that stops short, and a field out of range are no frame (R112). -/
theorem test_frames_refused :
    Frame.parse [3, 7, 41, 12, 6, 0, 83, 2, 0, 39, 0xD8, 0x95] = none ∧
    Frame.parse [3, 7, 41, 12, 6, 0, 83, 2, 0, 38, 0xD8] = none ∧
    Frame.parse (Frame.give 4 7 41 12 6 367 2 38).bytes = none := by decide +kernel

/-! ### Worked cases of the chapters -/

/-- Chapter 1, section 1.6: eight sums about 1,240, the last given here, capture the zero 1,239; a sum of 1,275 begins
again. -/
theorem test_zero_capture :
    let p := { capturing 7 1240 with capTotal := 9909 - 1239 }
    (p.capture ready.loader).zero = some 1239 ∧
      ({ p with capFirst := 1204 }.capture ready.loader).capRun = 1 := by decide +kernel

/-- Chapter 1, section 1.10: rounds b and c move the band by 960 and 712 half-widths, and the lift by exactly 1,671. -/
theorem test_band :
    let b := ({ ready.plate with quiet := 255 } : Plate).settleStage ready.loader (.value 38410)
    let c := b.settleStage ready.loader (.value 66902)
    (b.lo, b.parity, b.quiet) = (38360, true, 0) ∧ (c.lo, c.parity, c.quiet) = (66840, false, 0) ∧
      (c.settleStage ready.loader (.value 0)).lo = 0 := by decide +kernel

/-- Chapter 1, section 1.10: the settled weight of rounds d to g, its grams, and a height of 2,081 / 8. -/
theorem test_settled_weight :
    let p := { ready.plate with history := [66881, 66866, 66870, 66875] }
    p.settledWeight ready.loader = 66873 ∧ gramsOf 66873 = 4180 ∧ roundDiv 2081 8 = 260 := by decide +kernel

set_option maxRecDepth 100000 in
/-- R23: the fourth slot record of a route with three daily slots, its minute and its share at their greatest and one
beyond; it need not ascend. -/
theorem test_schedule_slots :
    ((scheduleChecks (schedule ++ be16 1440 ++ be16 4095)).drop 8).head? = some (4253, false) ∧
    ((scheduleChecks (schedule ++ be16 0 ++ be16 4096)).drop 8).take 2 = [(4253, true), (4255, false)] := by decide +kernel

/-- Chapter 3, Table 4: tag 17. -/
theorem test_rate_standard :
    (rate image ⟨4180, .mm 260 310 420 false, .standard, 25000, 3, true⟩) = ⟨
      {
        flags := ⟨false, true, true, false, true⟩, vg := some 6771, cs := some 6800, band := some 3, steps := some 18,
        base := some 1780, remote := some 214, oversizeFee := some 400, insurance := some 160, total := some 2554,
        price := some 2555, load := some 68 }, none⟩ := by decide +kernel

/-- Chapter 3, Table 5: tag 18, whose band is no whole number of steps wide. -/
theorem test_rate_priority :
    let r := (rate image ⟨2930, .mm 150 300 200 false, .priority, 0, 5, true⟩).rating
    r.steps = some 4 ∧ r.base = some 2880 ∧ r.remote = some 346 ∧ r.total = some 3226 ∧ r.price = some 3225 ∧
      r.load = some 30 ∧ r.flags = ⟨false, false, false, false, true⟩ := by decide +kernel

/-- Chapter 3, Table 6: tag 19 is beyond the tariff, its flags VOLUMETRIC alone; and an INVALID measurement. -/
theorem test_rate_rejected :
    let r := rate image ⟨9000, .mm 400 500 1200 false, .standard, 0, 3, false⟩
    r.reject = some .beyondTariff ∧ r.rating.cs = some 48000 ∧ r.rating.price = none ∧
      r.rating.flags = ⟨false, true, false, false, false⟩ ∧
      (rate image ⟨4180, .invalid, .standard, 0, 3, false⟩).reject = some .sensor := by decide +kernel

/-- Chapter 10, Table 2: serials 152 and 153. -/
theorem test_tracking_number :
    trackingNumber 4417 83 7 152 = [4, 4, 1, 7, 0, 8, 3, 0, 7, 0, 0, 0, 1, 5, 2, 4] ∧
      trackingNumber 4417 83 7 153 = [4, 4, 1, 7, 0, 8, 3, 0, 7, 0, 0, 0, 1, 5, 3, 3] := by decide +kernel

/-- The state of a next outcome. -/
def nextOf (r : Host.Outcome State Fault Refusal) : State :=
  match r with
  | .next t => t
  | .fault _ => State.reset
  | .refused _ => State.reset

/-- Chapter 9, section 9.11: tag 17's BREAK at 65,200 enters its APPLY at 65,500 and its SET-CHUTE at 524. -/
theorem test_take_break :
    let s := onBelt { Outfeed.powerOn with encoder := 65200, holding := some brk }
      [{ quotedParcel 17 with state := .labelPending }]
    ((nextOf (exec .takeBreak s)).outfeed.actions.map Action.pos) = [65500, 524] := by decide +kernel

/-- Chapter 9, section 9.11: its MAKE at 65,410 measures 420 mm and enters its CLEAR-CHUTE at 834. -/
theorem test_take_make :
    let s := onBelt { Outfeed.powerOn with
        encoder := 65410, holding := some make, openParcel := some ⟨65200, 0, some 17⟩ }
      [{ quotedParcel 17 with state := .onBelt, dims := some (.mm 260 310 420 false) }]
    let t := nextOf (exec .takeMake s)
    t.outfeed.actions = [⟨834, .clearChute, 17⟩] ∧ t.queue.parcels.map Parcel.length = [some 420] ∧
      t.queue.parcels.map Parcel.marks = [none] := by decide +kernel

/-- Chapter 8, Table 6, station 4's side at this station: an ASK for 38 units with spare to give is answered with 38. -/
theorem test_ask_received :
    let s := { onBus active with
      peers := ⟨[peer4], true, false⟩, share := { ready.share with nextGive := 12 }
      dispatch := { ready.dispatch with rings := [⟨6, [⟨83, 2, 960, 1200, 820, 0⟩], 0⟩] } }
    let t := nextOf (exec (.askReceived 4 41 6 83 2 38) s)
    t.dispatch.rings = [⟨6, [⟨83, 2, 960, 1200, 820, 38⟩], 0⟩] ∧ t.share.nextGive = 13 ∧
      t.bus.gives.map TxGive.units = [38] := by decide +kernel

/-- Chapter 8, Table 5: the GIVE that brings ask 41 to its 38 units ends it, and the load of 68 is booked in the same
event. -/
theorem test_give_received :
    let s := { onBus active with
      peers := ⟨[{ peer4 with lastGive := some 9 }], true, false⟩, queue := holding [parcel 17 .seeking]
      share := { ready.share with openAsk := some ⟨41, 6, 83, 2, 38, 0, .window, 521⟩ }
      dispatch := { ready.dispatch with
        rings := [⟨6, [⟨83, 2, 960, 1200, 1170, 0⟩], 0⟩]
        current := some ⟨⟨17, 6, 68, true⟩, some (83, 2), 0, true, true⟩ } }
    let t := nextOf (exec (.giveReceived 4 7 41 12 6 83 2 38) s)
    t.dispatch.rings = [⟨6, [⟨83, 2, 960, 1238, 1238, 0⟩], 0⟩] ∧ t.share.openAsk = none ∧
      t.queue.parcels.map Parcel.quote = [some 1] ∧ t.share.late = 0 := by decide +kernel

/-- R83, R146: the ASK abandoned as the fourth frame in a row is reported before the QUIET trigger: tag 18 is QUOTED on its
entry, and the older tag 17's requote asks for it in its turn. The trigger ends that ask, tag 17 is QUOTED on the next
entry, and its QUOTE, the older record's, becomes due first. -/
theorem test_quotes_of_abandoned_ask_in_queue_order :
    let t := nextOf (exec .bitError fourthAsk)
    t.link.reports.filterMap (fun | .quote tag n .. => some (tag, n) | _ => none) = [(17, 2), (18, 1)] ∧
      t.dispatch.rings = [⟨6, [⟨83, 2, 960, 68, 68, 0⟩, ⟨83, 3, 1140, 1150, 100, 0⟩, ⟨84, 1, 540, 1100, 0, 0⟩], 0⟩] ∧
      t.share.openAsk = none ∧ t.share.nextAsk = 1 ∧ t.bus.state = .quiet := by decide +kernel

/-- R16: a VOID of tag 17 that waits as the next command at the close of its eighth round is refused with NOT-VOIDABLE,
the close taken first; taken first itself, it voids the record. -/
theorem test_void_at_eighth_round :
    let s := fun (cs : List Instr) => ({ station [parcel 17 .measuring] with
      pending := cs, plate := { closing 0 4 with meas := some ⟨0, 0, 0, false, false, false, 7, true⟩ } } : State)
    let run := fun (cs : List Instr) => nextOf (step (nextOf (step (s cs))))
    (run [.scanStep 0, .void 17]).link.response = some ⟨3, .notVoidable, []⟩ ∧
      (run [.scanStep 0, .void 17]).link.metVoid = none ∧
      (run [.void 17, .scanStep 0]).link.response = some ⟨3, .ok, []⟩ := by decide +kernel

/-- R65: a VOID of tag 17 that waits as the next command at the expiry of its plate timeout, the printer's timeout falling
due with it, is refused with NOT-VOIDABLE, the record gone with reason PLATE-TIMEOUT; taken first itself, it ends the record
with reason COMMAND and the timeout. A VOID that comes after another command finds no record (R76). -/
theorem test_void_at_plate_timeout :
    let s := fun (cs : List Instr) => ({ station [{ parcel 17 .waitPlate with plateDue := some 30000 }] with
      timer := ⟨30000, 0⟩, pending := cs } : State)
    let run := fun (cs : List Instr) => nextOf (step (nextOf (step (s cs))))
    let expired := nextOf (step (run [.plateTimeout, .printTimeout, .void 17]))
    let answered := nextOf (step (run [.plateTimeout, .queryStation, .void 17]))
    let voided := run [.void 17, .plateTimeout]
    expired.link.response = some ⟨3, .notVoidable, []⟩ ∧ expired.queue.parcels = [] ∧ expired.link.metVoid = none ∧
      expired.link.reports = [(parcel 17 .waitPlate).endReport .void (some .plateTimeout)] ∧
      answered.link.response = some ⟨3, .unknownTag, []⟩ ∧ voided.link.response = some ⟨3, .ok, []⟩ ∧
      voided.link.reports = [(parcel 17 .waitPlate).endReport .void (some .command)] := by decide +kernel

end Sys2Proof.Tests
end

section
/-! Rating arithmetic (chapter 3): the bounds of its divisions, the band search, and the stages of a rating, from the
limits to the price and the load. -/

namespace Sys2Proof.Machine

/-! ### Divisions -/

theorem le_ceilDiv_mul (a : Nat) {b : Nat} (hb : 1 ≤ b) : a ≤ ceilDiv a b * b := by
  have h := Nat.lt_div_mul_add (a := a + b - 1) hb
  unfold ceilDiv
  omega

theorem ceilDiv_mul_lt (a : Nat) {b : Nat} (hb : 1 ≤ b) : ceilDiv a b * b < a + b := by
  have h := Nat.div_mul_le_self (a + b - 1) b
  unfold ceilDiv
  omega

theorem ceilDiv_bounds (a : Nat) {b : Nat} (hb : 1 ≤ b) : a ≤ b * ceilDiv a b ∧ b * ceilDiv a b < a + b := by
  rw [Nat.mul_comm]
  exact ⟨le_ceilDiv_mul a hb, ceilDiv_mul_lt a hb⟩

theorem roundDiv_mul_le (a b : Nat) : 2 * (roundDiv a b * b) ≤ 2 * a + b := by
  have h := Nat.div_mul_le_self (2 * a + b) (2 * b)
  unfold roundDiv
  rwa [Nat.mul_left_comm] at h

theorem lt_roundDiv_mul (a : Nat) {b : Nat} (hb : 1 ≤ b) : 2 * a < 2 * (roundDiv a b * b) + b := by
  have h := Nat.lt_div_mul_add (a := 2 * a + b) (b := 2 * b) (by omega)
  rw [Nat.mul_left_comm] at h
  unfold roundDiv
  omega

/-! ### The band search (stage 4) -/

section Band
variable (g : Image) (v : Service) {cs b : Nat}

theorem findBand_eq_none_iff : findBand g v cs = none ↔ ∀ i, i < tariffBands g v → bandUpper g v i < cs := by
  simp [findBand]

theorem findBand_eq_some_iff : findBand g v cs = some b ↔
    b < tariffBands g v ∧ cs ≤ bandUpper g v b ∧ ∀ i, i < b → bandUpper g v i < cs := by
  simp [findBand, List.find?_range_eq_some, and_left_comm]

theorem bandLower_le (h : ∀ i, i < b → bandUpper g v i < cs) : bandLower g v b ≤ cs := by
  unfold bandLower
  split
  · exact Nat.zero_le _
  · exact (h (b - 1) (by omega)).le

/-- The upper bounds of a service's bands ascend (R21). -/
def BandsAscend : Prop := ∀ i j, i < j → j < tariffBands g v → bandUpper g v i < bandUpper g v j

variable {g v}

theorem BandsAscend.upper_le_last (h : BandsAscend g v) {i : Nat} (hi : i < tariffBands g v) :
    bandUpper g v i ≤ bandUpper g v (tariffBands g v - 1) := by
  rcases Nat.lt_or_ge i (tariffBands g v - 1) with hlt | hge
  · exact (h i _ hlt (by omega)).le
  · rw [show i = tariffBands g v - 1 by omega]

theorem BandsAscend.findBand_of_last_lt (h : BandsAscend g v) (hcs : bandUpper g v (tariffBands g v - 1) < cs) :
    findBand g v cs = none :=
  (findBand_eq_none_iff g v).2 fun _ hi => (h.upper_le_last hi).trans_lt hcs

theorem exists_findBand_of_le_last (hn : 1 ≤ tariffBands g v) (hcs : cs ≤ bandUpper g v (tariffBands g v - 1)) :
    ∃ b, findBand g v cs = some b := by
  refine Option.ne_none_iff_exists'.1 fun hnone => ?_
  have hlast := (findBand_eq_none_iff g v).1 hnone (tariffBands g v - 1) (by omega)
  omega

end Band

/-! ### Money (stages 5 to 7) -/

theorem isHeld_iff (m : Nat) : isHeld m = true ↔ 999999 < m := decide_eq_true_iff

theorem roundMoney_multiple (total step : Nat) (up : Bool) : ∃ k, roundMoney total step up = k * step := by
  cases up
  · exact ⟨_, rfl⟩
  · exact ⟨_, rfl⟩

theorem roundMoney_up (total : Nat) {step : Nat} {up : Bool} (hs : 1 ≤ step) (h : up = true) :
    total ≤ roundMoney total step up ∧ roundMoney total step up < total + step := by
  subst h
  exact ⟨le_ceilDiv_mul total hs, ceilDiv_mul_lt total hs⟩

theorem roundMoney_nearest (total : Nat) {step : Nat} {up : Bool} (hs : 1 ≤ step) (h : up = false) :
    2 * roundMoney total step up ≤ 2 * total + step ∧ 2 * total < 2 * roundMoney total step up + step := by
  subst h
  exact ⟨roundDiv_mul_le total step, lt_roundDiv_mul total hs⟩

/-- The steps into a band (R46). -/
def stepsInto (g : Image) (v : Service) (cs b : Nat) : Nat := ceilDiv (cs - bandLower g v b) (tariffStep g v)

theorem stepsInto_bounds (g : Image) (v : Service) {cs b : Nat} (hs : 1 ≤ tariffStep g v)
    (hb : bandLower g v b ≤ cs) : cs ≤ bandLower g v b + stepsInto g v cs b * tariffStep g v ∧
      bandLower g v b + stepsInto g v cs b * tariffStep g v < cs + tariffStep g v := by
  have hle := le_ceilDiv_mul (cs - bandLower g v b) hs
  have hlt := ceilDiv_mul_lt (cs - bandLower g v b) hs
  unfold stepsInto
  omega

/-- The base price before it is held (R47). -/
def baseOf (g : Image) (x : RatingInput) (cs b : Nat) : Nat :=
  bandPrice g x.service b x.zone + bandAddOn g x.service b x.zone * stepsInto g x.service cs b

/-- The remote surcharge on a held base, before it is held itself (R48). -/
def remoteOf (g : Image) (x : RatingInput) (base : Nat) : Nat :=
  if x.remote then roundDiv (base * imageRemotePct g) 100 else 0

theorem remoteOf_near (g : Image) (x : RatingInput) (base : Nat) (h : x.remote = false) : remoteOf g x base = 0 := by
  simp [remoteOf, h]

theorem remoteOf_remote (g : Image) (x : RatingInput) (base : Nat) (h : x.remote = true) :
    200 * remoteOf g x base ≤ 2 * (base * imageRemotePct g) + 100 ∧
      2 * (base * imageRemotePct g) + 100 < 200 * remoteOf g x base + 200 := by
  have hle := roundDiv_mul_le (base * imageRemotePct g) 100
  have hlt := lt_roundDiv_mul (base * imageRemotePct g) (b := 100) (by omega)
  simp only [remoteOf, h, if_true]
  omega

/-- The oversize fee of a length plus girth, before it is held (R49). -/
def oversizeFeeOf (g : Image) (v : Service) (girth : Nat) : Nat :=
  if imageOversizeThreshold g < girth then tariffOversizeFee g v else 0

/-- The insurance fee of a record, before it is held (R50). -/
def insuranceFeeOf (g : Image) (x : RatingInput) : Nat :=
  insuranceOf x.declared (imageAllowance g) (imageInsuranceRate g)

theorem insuranceFeeOf_bounds (g : Image) (x : RatingInput) :
    (x.declared - imageAllowance g) * imageInsuranceRate g ≤ 1000 * insuranceFeeOf g x ∧
      1000 * insuranceFeeOf g x < (x.declared - imageAllowance g) * imageInsuranceRate g + 1000 :=
  ceilDiv_bounds _ (by omega)

/-! ### The limits (stage 1) -/

section Limits
variable (g : Image) (x : RatingInput)

theorem rate_of_invalid (h : x.dims = .invalid) : rate g x = ⟨Rating.empty, some .sensor⟩ := by
  simp [rate, h]

/-- The flags that stage 1 forms (R42). -/
def firstFlags (clamped : Bool) : RatingFlags := { RatingFlags.clear with clamped := clamped }

variable {x} {a b c : Nat} {clamped : Bool} (hx : x.dims = .mm a b c clamped)
include hx

theorem rate_of_overweight (h : imageMaxWeight g < x.grams) :
    rate g x = ⟨{ Rating.empty with flags := firstFlags clamped }, some .overweight⟩ := by
  simp [rate, hx, h, firstFlags]

variable {l w h : Nat} (hsort : sortDims a b c = (l, w, h))
include hsort

theorem rate_of_oversize (hw : x.grams ≤ imageMaxWeight g)
    (hbig : imageMaxSide g < l ∨ imageMaxGirth g < lengthPlusGirth l w h) :
    rate g x = ⟨{ Rating.empty with flags := firstFlags clamped }, some .oversizeLimit⟩ := by
  simp [rate, hx, hsort, hw.not_gt, hbig, firstFlags]

theorem rate_of_within (hw : x.grams ≤ imageMaxWeight g) (hl : l ≤ imageMaxSide g)
    (hg : lengthPlusGirth l w h ≤ imageMaxGirth g) : rate g x = rateWeight g x l w h (firstFlags clamped) := by
  simp [rate, hx, hsort, hw.not_gt, hl.not_gt, hg.not_gt, firstFlags]

end Limits

/-! ### The weights (stages 2 and 3) -/

theorem volumetric_of_pos (l w h : Nat) {d : Nat} (hd : 1 ≤ d) : volumetric l w h d = ceilDiv (l * w * h) d :=
  if_neg (by omega)

section Weights
variable (g : Image) (x : RatingInput) (l w h : Nat) (flags : RatingFlags)

/-- The volumetric weight of a parcel's sorted dimensions under its service (R43). -/
def vgOf : Nat := volumetric l w h (tariffDivisor g x.service)

/-- The chargeable weight of a parcel's sorted dimensions under its service (R44). -/
def csOf : Nat := chargeable (max x.grams (vgOf g x l w h)) (tariffStep g x.service)

/-- The flags of a parcel within the limits after stage 2 (R43). -/
def weightFlags : RatingFlags := { flags with volumetric := decide (x.grams < vgOf g x l w h) }

variable {l w h}

theorem rateWeight_of_no_band (hb : findBand g x.service (csOf g x l w h) = none) :
    rateWeight g x l w h flags =
      ⟨{ Rating.empty with
          flags := weightFlags g x l w h flags, vg := some (vgOf g x l w h), cs := some (csOf g x l w h) },
        some .beyondTariff⟩ := by
  unfold csOf vgOf at hb
  simp only [rateWeight, hb]
  rfl

theorem rateWeight_of_band {band : Nat} (hb : findBand g x.service (csOf g x l w h) = some band) :
    rateWeight g x l w h flags =
      ratePrice g x (lengthPlusGirth l w h) (vgOf g x l w h) (csOf g x l w h) band (weightFlags g x l w h flags) := by
  unfold csOf vgOf at hb
  simp only [rateWeight, hb]
  rfl

variable (l w h) in
theorem rateWeight_weights :
    (rateWeight g x l w h flags).rating.vg = some (vgOf g x l w h) ∧
      (rateWeight g x l w h flags).rating.cs = some (csOf g x l w h) ∧
      (rateWeight g x l w h flags).rating.flags.clamped = flags.clamped ∧
      ((rateWeight g x l w h flags).rating.flags.volumetric = true ↔ x.grams < vgOf g x l w h) := by
  cases hb : findBand g x.service (csOf g x l w h) with
  | none =>
    rw [rateWeight_of_no_band g x flags hb]
    exact ⟨rfl, rfl, rfl, decide_eq_true_iff⟩
  | some band =>
    rw [rateWeight_of_band g x flags hb]
    exact ⟨rfl, rfl, rfl, decide_eq_true_iff⟩

theorem vgOf_of_no_divisor (hd : tariffDivisor g x.service = 0) : vgOf g x l w h = 0 := if_pos hd

theorem vgOf_bounds (hd : 1 ≤ tariffDivisor g x.service) :
    l * w * h ≤ vgOf g x l w h * tariffDivisor g x.service ∧
      vgOf g x l w h * tariffDivisor g x.service < l * w * h + tariffDivisor g x.service := by
  rw [vgOf, volumetric_of_pos l w h hd]
  exact ⟨le_ceilDiv_mul _ hd, ceilDiv_mul_lt _ hd⟩

theorem csOf_bounds (hs : 1 ≤ tariffStep g x.service) :
    max x.grams (vgOf g x l w h) ≤ csOf g x l w h ∧
      csOf g x l w h < max x.grams (vgOf g x l w h) + tariffStep g x.service :=
  ⟨le_ceilDiv_mul _ hs, ceilDiv_mul_lt _ hs⟩

end Weights

/-! ### The price and the load (stages 4 to 8) -/

section Price
variable (g : Image) (x : RatingInput) (girth vg cs b : Nat) (flags : RatingFlags)

/-- The total of the four held amounts, before it is held itself (R52). -/
def totalOf : Nat :=
  held (baseOf g x cs b) + held (remoteOf g x (held (baseOf g x cs b))) + held (oversizeFeeOf g x.service girth) +
    held (insuranceFeeOf g x)

/-- The held total rounded to the currency step (R53). -/
def roundedOf : Nat := roundMoney (held (totalOf g x girth cs b)) (imageRoundStep g) (imageRoundUp g)

/-- The fields of a price, in the order of the stages that form them. -/
theorem ratePrice_fields :
    let r := (ratePrice g x girth vg cs b flags).rating
    r.band = some (b + 1) ∧ r.steps = some (stepsInto g x.service cs b) ∧ r.base = some (held (baseOf g x cs b)) ∧
      r.remote = some (held (remoteOf g x (held (baseOf g x cs b)))) ∧
      r.oversizeFee = some (held (oversizeFeeOf g x.service girth)) ∧ r.insurance = some (held (insuranceFeeOf g x)) ∧
      r.total = some (held (totalOf g x girth cs b)) ∧
      r.price = some (priceOf (held (totalOf g x girth cs b)) (imageRoundStep g) (imageRoundUp g)) ∧
      r.load = some (ceilDiv cs 100) := by
  simp [ratePrice, totalOf, baseOf, stepsInto, remoteOf, oversizeFeeOf, insuranceFeeOf]

theorem ratePrice_oversize :
    (ratePrice g x girth vg cs b flags).rating.flags.oversize = true ↔ imageOversizeThreshold g < girth :=
  decide_eq_true_iff

theorem ratePrice_rounded :
    (ratePrice g x girth vg cs b flags).rating.flags.rounded = true ↔
      priceOf (held (totalOf g x girth cs b)) (imageRoundStep g) (imageRoundUp g) ≠ held (totalOf g x girth cs b) := by
  simp [ratePrice, totalOf, baseOf, stepsInto, remoteOf, oversizeFeeOf, insuranceFeeOf]

theorem ratePrice_saturated :
    (ratePrice g x girth vg cs b flags).rating.flags.saturated = true ↔
      999999 < baseOf g x cs b ∨ 999999 < remoteOf g x (held (baseOf g x cs b)) ∨
        999999 < oversizeFeeOf g x.service girth ∨ 999999 < insuranceFeeOf g x ∨
        999999 < totalOf g x girth cs b ∨ 999999 < roundedOf g x girth cs b := by
  simp [ratePrice, isHeld_iff, or_assoc, roundedOf, totalOf, baseOf, stepsInto, remoteOf, oversizeFeeOf,
    insuranceFeeOf]

end Price

end Sys2Proof.Machine

section
open Sys2Proof.Machine

/-- Settles O30, stage by stage: the limits, the weights, then the band search, beyond the tariff or within it. -/
theorem ratingOfMeasuredParcel : Obligations.RatingOfMeasuredParcel := by
  unfold Obligations.RatingOfMeasuredParcel
  refine ⟨fun g x h => by simp [rate_of_invalid g x h], ?_⟩
  intro g x a b c clamped hx hstep hbands hround hmono r long short wide girth step divisor last top
  refine ⟨fun hover => ?overweight, fun hw hbig => ?oversize, fun hw hl hg => ?within⟩
  case overweight =>
    rw [show r = _ from rate_of_overweight g hx hover]
    exact ⟨rfl, rfl, rfl⟩
  case oversize =>
    rw [show r = _ from rate_of_oversize g hx rfl hw hbig]
    exact ⟨rfl, rfl, rfl⟩
  case within =>
    let flags := firstFlags clamped
    let vg := vgOf g x long wide short
    let cs := csOf g x long wide short
    obtain ⟨hvg, hcs, hclamped, hvolumetric⟩ := rateWeight_weights g x long wide short flags
    obtain ⟨hcs_ge, hcs_lt⟩ : max x.grams vg ≤ cs ∧ cs < max x.grams vg + step := csOf_bounds g x hstep
    rw [show r = rateWeight g x long wide short flags from rate_of_within g hx rfl hw hl hg]
    refine ⟨vg, cs, hvg, hcs, hclamped, hvolumetric, vgOf_of_no_divisor g x, vgOf_bounds g x, ⟨_, rfl⟩, hcs_ge, hcs_lt,
      fun hbeyond => ?_, fun hwithin => ?_⟩
    · rw [rateWeight_of_no_band g x flags (BandsAscend.findBand_of_last_lt hmono hbeyond)]
      exact ⟨rfl, rfl⟩
    · obtain ⟨band, hband⟩ := exists_findBand_of_le_last hbands hwithin
      obtain ⟨hlt, hupper, hfirst⟩ := (findBand_eq_some_iff g x.service).1 hband
      have hlower := bandLower_le g x.service hfirst
      obtain ⟨hsteps_ge, hsteps_lt⟩ := stepsInto_bounds g x.service hstep hlower
      obtain ⟨hins_ge, hins_lt⟩ := insuranceFeeOf_bounds g x
      obtain ⟨hload_ge, hload_lt⟩ := ceilDiv_bounds cs (b := 100) (by omega)
      let flags' := weightFlags g x long wide short flags
      obtain ⟨fband, fsteps, fbase, fremote, ffee, fins, ftotal, fprice, fload⟩ :=
        ratePrice_fields g x girth vg cs band flags'
      rw [rateWeight_of_band g x flags hband]
      exact ⟨rfl, band, stepsInto g x.service cs band, baseOf g x cs band, remoteOf g x (held (baseOf g x cs band)),
        oversizeFeeOf g x.service girth, insuranceFeeOf g x, totalOf g x girth cs band,
        priceOf (held (totalOf g x girth cs band)) (imageRoundStep g) (imageRoundUp g), ceilDiv cs 100,
        roundedOf g x girth cs band,
        hlt, hlower, hupper, hfirst, fband, fsteps, hsteps_ge, hsteps_lt,
        rfl, fbase, remoteOf_near g x _, remoteOf_remote g x _, fremote,
        ratePrice_oversize g x girth vg cs band flags', rfl, ffee, hins_ge, hins_lt, fins, rfl, ftotal,
        roundMoney_multiple _ _ _, roundMoney_up _ hround, roundMoney_nearest _ hround, rfl, fprice,
        ratePrice_rounded g x girth vg cs band flags', ratePrice_saturated g x girth vg cs band flags',
        fload, hload_ge, hload_lt⟩
end
end

section
/-! ACCEPT (chapter 4): the gate of the link, the two groups of its refusals, and the search for the tag of a new
record. -/

namespace Sys2Proof.Machine

/-! ### The outcome of an ACCEPT -/

section Outcome
variable {s : State} {pc : List Byte} {sv : Byte} {v : BitVec 24} {c : Code}

theorem exec_accept_of_configFault (hs : s.Listening) (hf : s.loader.station = .configFault) :
    exec (.accept pc sv v) s = s.answers 1 .notReady [] := by
  rw [show exec (.accept pc sv v) s = execAccept pc sv v s from rfl]
  simp [execAccept, State.command, State.receives, hs.1, hs.2, hf, State.respond, State.answers, State.setLink]

theorem exec_accept_of_ready (hs : s.Ready) :
    exec (.accept pc sv v) s = .next (s.accept pc sv v.toNat) := by
  obtain ⟨hpowered, hheld, hrunning⟩ := hs
  rw [show exec (.accept pc sv v) s = execAccept pc sv v s from rfl]
  simp [execAccept, State.command, State.receives, hpowered, hheld, hrunning]

theorem exec_accept_of_acceptStation (hs : s.Ready) (hc : s.acceptStation = some c) :
    exec (.accept pc sv v) s = s.answers 1 c [] := by
  rw [exec_accept_of_ready hs, State.accept, hc]
  rfl

theorem exec_accept_of_acceptFields (hs : s.Ready) (hnone : s.acceptStation = none)
    (hc : acceptFields (s.store.image.getD []) pc sv v.toNat = some c) :
    exec (.accept pc sv v) s = s.answers 1 c [] := by
  rw [exec_accept_of_ready hs, State.accept, hnone]
  simp only [hc]
  rfl

theorem exec_accept_of_taken (hs : s.Ready) (hnone : s.acceptStation = none)
    (hfields : acceptFields (s.store.image.getD []) pc sv v.toNat = none) :
    exec (.accept pc sv v) s =
      .next (s.acceptTaken (s.store.image.getD []) pc ((serviceOf sv).getD .standard) v.toNat) := by
  rw [exec_accept_of_ready hs, State.accept, hnone]
  simp only [hfields]

end Outcome

/-! ### The conditions of chapter 4, Table 3 -/

theorem ParcelQueue.notCleared_iff (q : ParcelQueue) :
    q.notCleared = true ↔ ∃ p ∈ q.parcels, p.state = .quoted ∧ p.cleared = some false := by
  simp [ParcelQueue.notCleared]

theorem serviceOf_eq_none_iff (sv : Byte) : serviceOf sv = none ↔ sv ≠ 0 ∧ sv ≠ 1 := by
  unfold serviceOf
  split <;> simp_all

theorem serviceOf_of_valid {sv : Byte} (h : sv = 0 ∨ sv = 1) :
    serviceOf sv = some (if sv = 0 then .standard else .priority) := by
  rcases h with rfl | rfl <;> rfl

theorem ImageStore.edition_of_some {t : ImageStore} {g : Image} (h : t.image = some g) : t.edition = imageEdition g := by
  simp [ImageStore.edition, h]

section Station
variable {s : State}

theorem State.acceptStation_of_no_zero (h : s.plate.zero = none) : s.acceptStation = some .notReady := if_pos h

variable (hzero : s.plate.zero ≠ none)
include hzero

theorem State.acceptStation_of_no_clock (h : s.dispatch.clock = none) : s.acceptStation = some .noClock := by
  simp [State.acceptStation, hzero, h]

variable (hclock : s.dispatch.clock ≠ none)
include hclock

theorem State.acceptStation_of_no_edition (h : s.store.edition = 0) : s.acceptStation = some .noTariff := by
  simp [State.acceptStation, hzero, hclock, h]

variable (hedition : s.store.edition ≠ 0)
include hedition

theorem State.acceptStation_of_not_idle (h : s.store.staging ≠ .idle) : s.acceptStation = some .loading := by
  simp [State.acceptStation, hzero, hclock, hedition, h]

variable (hidle : s.store.staging = .idle)
include hidle

theorem State.acceptStation_of_full (h : 6 ≤ s.queue.parcels.length) : s.acceptStation = some .queueFull := by
  simp [State.acceptStation, hzero, hclock, hedition, hidle, Config.queueLen, h]

variable (hroom : s.queue.parcels.length < 6)
include hroom

theorem State.acceptStation_of_plateBusy (h : s.queue.plateBusy = true) : s.acceptStation = some .busy := by
  simp [State.acceptStation, hzero, hclock, hedition, hidle, Config.queueLen, hroom, h]

variable (hplate : s.queue.plateBusy = false)
include hplate

theorem State.acceptStation_of_free_plate :
    s.acceptStation = if s.queue.notCleared then some .plateNotCleared else none := by
  simp [State.acceptStation, hzero, hclock, hedition, hidle, Config.queueLen, hroom, hplate]

theorem State.acceptStation_of_notCleared (h : ∃ p ∈ s.queue.parcels, p.state = .quoted ∧ p.cleared = some false) :
    s.acceptStation = some .plateNotCleared := by
  rw [State.acceptStation_of_free_plate hzero hclock hedition hidle hroom hplate, if_pos (s.queue.notCleared_iff.2 h)]

theorem State.acceptStation_eq_none (h : ∀ p ∈ s.queue.parcels, ¬(p.state = .quoted ∧ p.cleared = some false)) :
    s.acceptStation = none := by
  have hcleared : ¬s.queue.notCleared = true := fun hn => by
    obtain ⟨p, hp, hnot⟩ := s.queue.notCleared_iff.1 hn
    exact h p hp hnot
  rw [State.acceptStation_of_free_plate hzero hclock hedition hidle hroom hplate, if_neg hcleared]

end Station

section Fields
variable {g : Image} {pc : List Byte} {sv : Byte} {declared : Nat}

theorem acceptFields_of_malformed (h : postcodeOk pc = false ∨ (sv ≠ 0 ∧ sv ≠ 1)) :
    acceptFields g pc sv declared = some .range :=
  if_pos (h.imp_right (serviceOf_eq_none_iff sv).2)

theorem acceptFields_of_wellFormed (hpc : postcodeOk pc = true) (hsv : sv = 0 ∨ sv = 1) :
    acceptFields g pc sv declared =
      if unserved g (prefixOf pc) then some .unserved
      else if imageMaxInsurable g < declared then some .range
      else none := by
  simp [acceptFields, hpc, serviceOf_of_valid hsv]

end Fields

end Sys2Proof.Machine

section
open Sys2Proof.Machine

/-- Settles O8, down Table 3: the conditions on the station one after the other, then those on the fields. -/
theorem acceptRefusalsInOrder : Obligations.AcceptRefusalsInOrder := by
  unfold Obligations.AcceptRefusalsInOrder
  intro s pc sv v hs refused image
  have byStation : ∀ {c}, s.loader.station = .running → s.acceptStation = some c → refused c :=
    fun hrun hc => exec_accept_of_acceptStation ⟨hs.1, hs.2, hrun⟩ hc
  refine ⟨?notReady, fun hrun hzero hclock => byStation hrun (State.acceptStation_of_no_clock hzero hclock),
    fun hrun hzero hclock =>
      ⟨fun hno => byStation hrun (State.acceptStation_of_no_edition hzero hclock hno),
      fun hedition hbusy => byStation hrun (State.acceptStation_of_not_idle hzero hclock hedition hbusy),
      fun hedition hidle =>
        ⟨fun hfull => byStation hrun (State.acceptStation_of_full hzero hclock hedition hidle hfull),
        fun hroom hbusy => byStation hrun (State.acceptStation_of_plateBusy hzero hclock hedition hidle hroom hbusy),
        fun hroom hplate =>
          ⟨fun hquoted => byStation hrun
            (State.acceptStation_of_notCleared hzero hclock hedition hidle hroom hplate hquoted),
          fun hcleared => ?fields⟩⟩⟩⟩
  case notReady =>
    cases hstation : s.loader.station with
    | configFault => exact fun _ => exec_accept_of_configFault hs hstation
    | running =>
      rintro (hfault | hzero)
      · cases hfault
      · exact byStation hstation (State.acceptStation_of_no_zero hzero)
  case fields =>
    have hnone := State.acceptStation_eq_none hzero hclock hedition hidle hroom hplate hcleared
    have byFields : ∀ {c}, acceptFields image pc sv v.toNat = some c → refused c :=
      fun hc => exec_accept_of_acceptFields ⟨hs.1, hs.2, hrun⟩ hnone hc
    refine ⟨fun hbad => byFields (acceptFields_of_malformed hbad),
      fun hpc hsv => ⟨fun hun => ?_, fun hserved hover => ?_⟩⟩
    · exact byFields (by simp [acceptFields_of_wellFormed hpc hsv, hun])
    · exact byFields (by simp [acceptFields_of_wellFormed hpc hsv, hserved, hover])

end
end

section
/-! The tags of new records (R61): the tags from the cursor on in their cycle, and the first of them that no record
holds. -/

namespace Sys2Proof.Machine

/-- The tag that is `j` places after the cursor in the cycle from 1 to 255 (R61). -/
def tagFrom (cursor j : Nat) : Nat := (cursor - 1 + j) % 255 + 1

theorem tagFrom_zero {cursor : Nat} (hlow : 1 ≤ cursor) (hhigh : cursor ≤ 255) : tagFrom cursor 0 = cursor := by
  unfold tagFrom
  omega

theorem cycle_tagFrom (cursor j : Nat) : cycle 1 255 (tagFrom cursor j) = tagFrom cursor (j + 1) := by
  unfold cycle tagFrom
  split <;> omega

theorem tagFrom_inj {cursor i j : Nat} (hi : i < 255) (hj : j < 255) (h : tagFrom cursor i = tagFrom cursor j) :
    i = j := by
  unfold tagFrom at h
  omega

/-- Fewer tags in use than the cycle has: they do not hold every one of one more tag in a row. -/
theorem exists_tagFrom_notMem (used : List Nat) (cursor : Nat) (h : used.length < 255) :
    ∃ j ≤ used.length, tagFrom cursor j ∉ used := by
  by_contra! hall
  let row := (List.range (used.length + 1)).map (tagFrom cursor)
  have hnodup : row.Nodup := by
    refine List.nodup_range.map_on fun i hi j hj => ?_
    rw [List.mem_range] at hi hj
    exact tagFrom_inj (by omega) (by omega)
  have hsub : row ⊆ used := by
    intro t ht
    obtain ⟨j, hj, rfl⟩ := List.mem_map.1 ht
    exact hall j (Nat.lt_succ_iff.1 (List.mem_range.1 hj))
  have hlen := (hnodup.subperm hsub).length_le
  simp [row] at hlen

/-- The search passes over tags in use alone, and ends on a tag in use only when its tries are spent. -/
theorem freeTag_tagFrom (used : List Nat) (cursor n j : Nat) :
    ∃ k, freeTag used n (tagFrom cursor j) = tagFrom cursor (j + k) ∧
      (∀ i, i < k → tagFrom cursor (j + i) ∈ used) ∧ (tagFrom cursor (j + k) ∈ used → k = n) := by
  induction n generalizing j with
  | zero => exact ⟨0, rfl, fun i hi => absurd hi i.not_lt_zero, fun _ => rfl⟩
  | succ n ih =>
    by_cases hused : tagFrom cursor j ∈ used
    · obtain ⟨k, hfree, hpassed, hspent⟩ := ih (j + 1)
      have hshift : ∀ i, j + (i + 1) = j + 1 + i := by omega
      refine ⟨k + 1, ?_, ?_, ?_⟩
      · rw [freeTag, if_pos (List.contains_iff_mem.2 hused), cycle_tagFrom, hfree, hshift k]
      · rintro (_ | i) hi
        · exact hused
        · exact hshift i ▸ hpassed i (by omega)
      · rw [hshift]
        exact fun h => congrArg (· + 1) (hspent h)
    · exact ⟨0, by simp [freeTag, hused], fun i hi => absurd hi i.not_lt_zero, fun h => absurd h hused⟩

/-- The tag given is the first from the cursor on that no record holds. -/
theorem ParcelQueue.newTag_first {q : ParcelQueue} (hlow : 1 ≤ q.cursor) (hhigh : q.cursor ≤ 255)
    (hlen : q.parcels.length < 255) :
    ∃ k, q.newTag = tagFrom q.cursor k ∧ (∀ j, j < k → ∃ p ∈ q.parcels, p.tag = tagFrom q.cursor j) ∧
      ¬∃ p ∈ q.parcels, p.tag = tagFrom q.cursor k := by
  let used := q.parcels.map Parcel.tag
  obtain ⟨k, hfree, hpassed, hspent⟩ := freeTag_tagFrom used q.cursor q.parcels.length 0
  simp only [Nat.zero_add, tagFrom_zero hlow hhigh] at hfree hpassed hspent
  refine ⟨k, hfree, fun j hj => List.mem_map.1 (hpassed j hj), fun hheld => ?_⟩
  have hk : tagFrom q.cursor k ∈ used := List.mem_map.2 hheld
  obtain ⟨j, hj, hnot⟩ := exists_tagFrom_notMem used q.cursor (by simpa [used] using hlen)
  have hjk : j ≤ k := by simpa [used, hspent hk] using hj
  rcases hjk.lt_or_eq with hlt | rfl
  · exact hnot (hpassed j hlt)
  · exact hnot hk

end Sys2Proof.Machine

section
open Sys2Proof.Machine

/-- Settles O9: no condition of Table 3 holds, and the tag of the record taken is the first free one. -/
theorem acceptTaken : Obligations.AcceptTaken := by
  unfold Obligations.AcceptTaken
  intro s g pc sv v hs hzero hclock himage hedition hidle hroom hplate hcleared hpc hsv hserved hinsured hlow hhigh
    tagAt isHeld
  obtain ⟨k, htag, hpassed, hfree⟩ := ParcelQueue.newTag_first hlow hhigh (by omega)
  have hstation : s.acceptStation = none :=
    State.acceptStation_eq_none hzero hclock (ImageStore.edition_of_some himage ▸ hedition) hidle hroom hplate hcleared
  have hfields : acceptFields (s.store.image.getD []) pc sv v.toNat = none := by
    simp [himage, acceptFields_of_wellFormed hpc hsv, hserved, hinsured]
  refine ⟨k, hpassed, hfree, ?_⟩
  rw [exec_accept_of_taken hs hstation hfields, State.acceptTaken, htag, himage, serviceOf_of_valid hsv]
  rfl

end
end

section
/-! Tracking numbers (section 10.1): the digits of a number to a width, and the check digit of the digits before it. -/

namespace Sys2Proof.Machine

/-! ### The digits of a number (R175) -/

theorem length_digits (w n : Nat) : (digits w n).length = w := by
  induction w generalizing n with
  | zero => rfl
  | succ w ih => simp [digits, ih]

theorem le_nine_of_mem_digits {w n d : Nat} (h : d ∈ digits w n) : d ≤ 9 := by
  induction w generalizing n with
  | zero => cases h
  | succ w ih =>
    rcases List.mem_append.1 h with hinit | hlast
    · exact ih hinit
    · have := List.mem_singleton.1 hlast
      omega

/-- The number that decimal digits spell, the greatest place first. -/
def spelled (ds : List Nat) : Nat := ds.foldl (fun n d => 10 * n + d) 0

/-- A number that fits the width is the one its digits spell. -/
theorem spelled_digits {w n : Nat} (h : n < 10 ^ w) : spelled (digits w n) = n := by
  induction w generalizing n with
  | zero => exact (Nat.lt_one_iff.1 h).symm
  | succ w ih =>
    have hinit : spelled (digits w (n / 10)) = n / 10 := ih (by omega)
    calc spelled (digits (w + 1) n)
        = 10 * spelled (digits w (n / 10)) + n % 10 := by simp [digits, spelled]
      _ = n := by rw [hinit, Nat.div_add_mod]

/-! ### The weights of the check digit (R176) -/

/-- The weight of the digit at a place, the first place on the left being 0: 3, 7, 1, and so on. -/
def weightAt (i : Nat) : Nat := [3, 7, 1].getD (i % 3) 0

theorem weightAt_add_three (i : Nat) : weightAt (i + 3) = weightAt i := by
  simp [weightAt]

/-- The weighted sum place by place; digits that follow do not count. -/
theorem sum_weightAt_mul_getD (ds rest : List Nat) :
    ((List.range ds.length).map fun i => weightAt i * (ds ++ rest).getD i 0).sum = weighted ds := by
  induction ds using weighted.induct with
  | case1 a b c ds ih =>
    have hrest : ((List.range ds.length).map fun i => weightAt (i + 3) * (ds ++ rest).getD i 0).sum = weighted ds := by
      simp only [weightAt_add_three, ih]
    calc _ = weightAt 0 * a + (weightAt 1 * b + (weightAt 2 * c +
          ((List.range ds.length).map fun i => weightAt (i + 3) * (ds ++ rest).getD i 0).sum)) := by
          simp [List.range_succ_eq_map, Function.comp_def]
      _ = weighted (a :: b :: c :: ds) := by
          rw [hrest]
          simp [weightAt, weighted, Nat.add_assoc]
  | case2 a b => simp [List.range_succ, weightAt, weighted]
  | case3 a => simp [List.range_succ, weightAt, weighted]
  | case4 => rfl

theorem checkDigit_le_nine (ds : List Nat) : checkDigit ds ≤ 9 := by
  unfold checkDigit
  omega

/-! ### The fields of a tracking number (R175, Table 1) -/

section Fields

/-- The fifteen digits before the check digit. -/
def fieldDigits (office day station serial : Nat) : List Nat :=
  digits 4 office ++ digits 3 day ++ digits 2 station ++ digits 6 serial

variable {office day station serial : Nat}

theorem trackingNumber_eq :
    trackingNumber office day station serial =
      fieldDigits office day station serial ++ [checkDigit (fieldDigits office day station serial)] := rfl

theorem length_fieldDigits : (fieldDigits office day station serial).length = 15 := by
  simp [fieldDigits, length_digits]

theorem length_trackingNumber : (trackingNumber office day station serial).length = 16 := by
  simp [trackingNumber_eq, length_fieldDigits]

theorem le_nine_of_mem_trackingNumber {d : Nat} (h : d ∈ trackingNumber office day station serial) : d ≤ 9 := by
  simp only [trackingNumber_eq, fieldDigits, List.mem_append, List.mem_singleton] at h
  rcases h with (((hd | hd) | hd) | hd) | rfl
  case inr => exact checkDigit_le_nine _
  all_goals exact le_nine_of_mem_digits hd

theorem trackingNumber_office : (trackingNumber office day station serial).take 4 = digits 4 office := by
  simp [trackingNumber_eq, fieldDigits, length_digits]

theorem trackingNumber_day : ((trackingNumber office day station serial).drop 4).take 3 = digits 3 day := by
  simp [trackingNumber_eq, fieldDigits, length_digits]

theorem trackingNumber_station : ((trackingNumber office day station serial).drop 7).take 2 = digits 2 station := by
  simp [trackingNumber_eq, fieldDigits, List.take_append, List.drop_append, length_digits]

theorem trackingNumber_serial : ((trackingNumber office day station serial).drop 9).take 6 = digits 6 serial := by
  simp [trackingNumber_eq, fieldDigits, List.drop_append, List.drop_eq_nil_of_le, length_digits]

theorem trackingNumber_last :
    (trackingNumber office day station serial).getD 15 0 = checkDigit (fieldDigits office day station serial) := by
  simp [trackingNumber_eq, length_fieldDigits]

theorem weighted_fieldDigits :
    weighted (fieldDigits office day station serial) =
      ((List.range 15).map fun i => weightAt i * (trackingNumber office day station serial).getD i 0).sum := by
  rw [trackingNumber_eq, ← sum_weightAt_mul_getD _ [checkDigit _], length_fieldDigits]

end Fields

end Sys2Proof.Machine

section
open Sys2Proof.Machine

/-- Settles O54: each field is cut out of the number and read back, the check digit's sum taken place by place. -/
theorem trackingNumberDigits : Obligations.TrackingNumberDigits := by
  unfold Obligations.TrackingNumberDigits
  intro office day station serial hoffice hday hstation hserial ds spells sum
  have hcheck : ds.getD 15 0 = (10 - sum % 10) % 10 := by
    rw [trackingNumber_last, checkDigit, weighted_fieldDigits]
    rfl
  have reads : ∀ {xs : List Nat} {w n : Nat}, xs = digits w n → n < 10 ^ w → spells xs = n :=
    fun hxs hn => hxs ▸ spelled_digits hn
  exact ⟨length_trackingNumber, fun _ => le_nine_of_mem_trackingNumber,
    reads trackingNumber_office (by omega), reads trackingNumber_day (by omega),
    reads trackingNumber_station (by omega), reads trackingNumber_serial (by omega), hcheck⟩

end
end


section
/-! The gates of the part: what a row does when it is taken and when it is not. -/

namespace Sys2Proof.Machine

section Gates
variable {s : State} {kind : Nat} {run : State → State}

theorem State.command_of_ready (hs : s.Ready) : s.command kind run = run s := by
  obtain ⟨hpowered, hheld, hrunning⟩ := hs
  simp [State.command, State.receives, hpowered, hheld, hrunning]

theorem State.command_of_configFault (hs : s.Listening) (hf : s.loader.station = .configFault) :
    s.command kind run = s.respond kind .notReady [] := by
  simp [State.command, State.receives, hs.1, hs.2, hf]

theorem State.commandAlways_of_listening (hs : s.Listening) : s.commandAlways run = run s := by
  simp [State.commandAlways, State.receives, hs.1, hs.2]

theorem State.event_of_powered (hs : s.powered = true) : s.event run = run s := if_pos hs

theorem State.event_of_unpowered (hs : s.powered = false) : s.event run = s := by simp [State.event, hs]

theorem State.receives_of_unpowered (hs : s.powered = false) : s.receives = false := by
  simp [State.receives, hs]

theorem State.receives_of_held (hs : s.link.held ≠ none) : s.receives = false := by
  cases h : s.link.held with
  | none => exact absurd h hs
  | some _ => simp [State.receives, h]

theorem State.command_of_deaf (hs : s.receives = false) : s.command kind run = s := by
  simp [State.command, hs]

theorem State.commandAlways_of_deaf (hs : s.receives = false) : s.commandAlways run = s := by
  simp [State.commandAlways, hs]

end Gates

end Sys2Proof.Machine
end

section
/-! Quiet changes: what an invariant watches across the blocks stands as it was (records, rings, requests, frames, action
entries), and each block keeps the bounds that are its own. -/

namespace Sys2Proof.Machine

/-! ### The blocks -/

/-- The configuration memory stays canonical and the record read is the same (R192). -/
structure LoaderQuiet (l l' : Loader) : Prop where
  mem : l.mem.wf = true → l'.mem.wf = true
  active : l'.active = l.active
  startNo : l'.startNo = l.startNo

/-- The image memory stays canonical, the active image stands, and an image being stored stays valid (R26, R31). -/
structure StoreQuiet (t t' : ImageStore) : Prop where
  mem : t.mem.wf = true → t'.mem.wf = true
  image : t'.image = t.image
  storing : (t.staging = .storing → imageFault t.staged = none) → t'.staging = .storing → imageFault t'.staged = none
  staged : t.staged.length ≤ 4559 → t'.staged.length ≤ 4559

/-- The history and the counts of the plate stay within their bounds (R10, R13). -/
structure PlateQuiet (p p' : Plate) : Prop where
  history : p.history.length ≤ 64 → p'.history.length ≤ 64
  quiet : p.quiet ≤ 255 → p'.quiet ≤ 255
  clear : p.clear ≤ 255 → p'.clear ≤ 255

/-- A reading of the clock lies in the cycle of 366 days (R87). -/
def ClockTime.InRange (c : ClockTime) : Prop := 1 ≤ c.day ∧ c.day ≤ 366 ∧ c.ms < 86400000

/-- Rings, line and current booking stand, a set clock stays set and in range, and the counters stay within theirs. -/
structure DispatchQuiet (d d' : DispatchTable) : Prop where
  rings : d'.rings = d.rings
  line : d'.line = d.line
  current : d'.current = d.current
  expired : d.expired ≤ 65535 → d'.expired ≤ 65535
  stranded : d.stranded ≤ 65535 → d'.stranded ≤ 65535
  clockSet : d'.clock = none → d.clock = none
  clock : (∀ c, d.clock = some c → c.InRange) → ∀ c, d'.clock = some c → c.InRange

/-- The counters of the share agent stay within their bounds (R143, R152). -/
structure ShareQuiet (a a' : ShareAgent) : Prop where
  openAsk : (∀ x, a.openAsk = some x → x.received ≤ 65535) → ∀ x, a'.openAsk = some x → x.received ≤ 65535
  late : a.late ≤ 255 → a'.late ≤ 255

/-- What the hall's units turn on in a GIVE of the queue: its dispatch, its units, and whether they are reserved. -/
def TxGive.reservation (g : TxGive) : Bool × Nat × Nat × Nat × Nat := (g.live, g.route, g.day, g.slot, g.units)

/-- A station sends in ACTIVE and ANNOUNCE alone (R111). -/
def BusController.SendsOk (b : BusController) : Prop := b.sending ≠ none → b.state = .active ∨ b.state = .announce

/-- The bus state and the reservations of the GIVEs stand, the station sends where it may, and the counters stay within
their bounds (chapter 6, Table 4). -/
structure BusQuiet (b b' : BusController) : Prop where
  state : b'.state = b.state
  sending : b.SendsOk → b'.SendsOk
  gives : b'.gives.map TxGive.reservation = b.gives.map TxGive.reservation
  failedAttempts : b.failedAttempts ≤ 255 → b'.failedAttempts ≤ 255
  consecutive : b.consecutive ≤ 3 → b'.consecutive ≤ 3
  quietEntries : b.quietEntries ≤ 255 → b'.quietEntries ≤ 255
  unheardPresence : b.unheardPresence ≤ 255 → b'.unheardPresence ≤ 255
  unknownSender : b.unknownSender ≤ 255 → b'.unknownSender ≤ 255
  quietHistory : b.quietHistory ≤ 2 → b'.quietHistory ≤ 2

/-- The stations of the peer entries stand, and their counters stay within their bounds (R134). -/
structure PeersQuiet (t t' : PeerTable) : Prop where
  stations : t'.peers.map Peer.station = t.peers.map Peer.station
  units : (∀ p ∈ t.peers, p.given ≤ 65535 ∧ p.received ≤ 65535) → ∀ p ∈ t'.peers, p.given ≤ 65535 ∧ p.received ≤ 65535

/-- The entries, the waiting CLEARs and the open parcel stand, and edges and counters stay within their bounds. -/
structure OutfeedQuiet (o o' : Outfeed) : Prop where
  actions : o'.actions = o.actions
  pendingClear : o'.pendingClear = o.pendingClear
  openParcel : o'.openParcel = o.openParcel
  edges : o.edges.length ≤ 8 → o'.edges.length ≤ 8
  dropped : o.dropped ≤ 255 → o'.dropped ≤ 255
  orphans : o.orphans ≤ 255 → o'.orphans ≤ 255
  unmatched : o.unmatched ≤ 65535 → o'.unmatched ≤ 65535
  jams : o.jams ≤ 255 → o'.jams ≤ 255

/-- The printer state says where a label is (R181, Table 5). -/
def LabelUnit.Accords (u : LabelUnit) : Prop :=
  (u.printer = .printing ↔ u.atPrinter.isSome = true) ∧ (u.printer = .printing ↔ u.printDue.isSome = true) ∧
    (u.printer = .presented ↔ u.slot.isSome = true)

/-- The printer and its labels stay in accord, and labels leave the print order alone (R180, R181). -/
structure LabelQuiet (u u' : LabelUnit) : Prop where
  accords : u.Accords → u'.Accords
  printOrder : (u'.printOrder.map Label.tag).Sublist (u.printOrder.map Label.tag)
  wasted : u.wasted ≤ 65535 → u'.wasted ≤ 65535

/-- The report queue and the lost count stay within their bounds (R188). -/
structure LinkQuiet (k k' : Link) : Prop where
  reports : k.reports.length ≤ 16 → k'.reports.length ≤ 16
  lost : k.lost ≤ 255 → k'.lost ≤ 255

/-- Every block changes quietly, and the records stand. -/
structure Quiet (s t : State) : Prop where
  loader : LoaderQuiet s.loader t.loader
  store : StoreQuiet s.store t.store
  plate : PlateQuiet s.plate t.plate
  queue : t.queue = s.queue
  dispatch : DispatchQuiet s.dispatch t.dispatch
  share : ShareQuiet s.share t.share
  bus : BusQuiet s.bus t.bus
  peers : PeersQuiet s.peers t.peers
  outfeed : OutfeedQuiet s.outfeed t.outfeed
  label : LabelQuiet s.label t.label
  link : LinkQuiet s.link t.link

/-! ### Nothing, and one change after another -/

@[refl] theorem LoaderQuiet.refl (l : Loader) : LoaderQuiet l l := ⟨id, rfl, rfl⟩
@[refl] theorem StoreQuiet.refl (t : ImageStore) : StoreQuiet t t := ⟨id, rfl, id, id⟩
@[refl] theorem PlateQuiet.refl (p : Plate) : PlateQuiet p p := ⟨id, id, id⟩
@[refl] theorem DispatchQuiet.refl (d : DispatchTable) : DispatchQuiet d d := ⟨rfl, rfl, rfl, id, id, id, id⟩
@[refl] theorem ShareQuiet.refl (a : ShareAgent) : ShareQuiet a a := ⟨id, id⟩
@[refl] theorem BusQuiet.refl (b : BusController) : BusQuiet b b := ⟨rfl, id, rfl, id, id, id, id, id, id⟩
@[refl] theorem PeersQuiet.refl (t : PeerTable) : PeersQuiet t t := ⟨rfl, id⟩
@[refl] theorem OutfeedQuiet.refl (o : Outfeed) : OutfeedQuiet o o := ⟨rfl, rfl, rfl, id, id, id, id, id⟩
@[refl] theorem LabelQuiet.refl (u : LabelUnit) : LabelQuiet u u := ⟨id, .refl _, id⟩
@[refl] theorem LinkQuiet.refl (k : Link) : LinkQuiet k k := ⟨id, id⟩

theorem LoaderQuiet.trans {a b c : Loader} (h : LoaderQuiet a b) (h' : LoaderQuiet b c) : LoaderQuiet a c :=
  ⟨h'.mem ∘ h.mem, h'.active.trans h.active, h'.startNo.trans h.startNo⟩

theorem StoreQuiet.trans {a b c : ImageStore} (h : StoreQuiet a b) (h' : StoreQuiet b c) : StoreQuiet a c :=
  ⟨h'.mem ∘ h.mem, h'.image.trans h.image, h'.storing ∘ h.storing, h'.staged ∘ h.staged⟩

theorem PlateQuiet.trans {a b c : Plate} (h : PlateQuiet a b) (h' : PlateQuiet b c) : PlateQuiet a c :=
  ⟨h'.history ∘ h.history, h'.quiet ∘ h.quiet, h'.clear ∘ h.clear⟩

theorem DispatchQuiet.trans {a b c : DispatchTable} (h : DispatchQuiet a b) (h' : DispatchQuiet b c) :
    DispatchQuiet a c :=
  ⟨h'.rings.trans h.rings, h'.line.trans h.line, h'.current.trans h.current, h'.expired ∘ h.expired,
   h'.stranded ∘ h.stranded, h.clockSet ∘ h'.clockSet, h'.clock ∘ h.clock⟩

theorem ShareQuiet.trans {a b c : ShareAgent} (h : ShareQuiet a b) (h' : ShareQuiet b c) : ShareQuiet a c :=
  ⟨h'.openAsk ∘ h.openAsk, h'.late ∘ h.late⟩

theorem BusQuiet.trans {a b c : BusController} (h : BusQuiet a b) (h' : BusQuiet b c) : BusQuiet a c :=
  ⟨h'.state.trans h.state, h'.sending ∘ h.sending, h'.gives.trans h.gives, h'.failedAttempts ∘ h.failedAttempts,
   h'.consecutive ∘ h.consecutive, h'.quietEntries ∘ h.quietEntries, h'.unheardPresence ∘ h.unheardPresence,
   h'.unknownSender ∘ h.unknownSender, h'.quietHistory ∘ h.quietHistory⟩

theorem PeersQuiet.trans {a b c : PeerTable} (h : PeersQuiet a b) (h' : PeersQuiet b c) : PeersQuiet a c :=
  ⟨h'.stations.trans h.stations, h'.units ∘ h.units⟩

theorem OutfeedQuiet.trans {a b c : Outfeed} (h : OutfeedQuiet a b) (h' : OutfeedQuiet b c) : OutfeedQuiet a c :=
  ⟨h'.actions.trans h.actions, h'.pendingClear.trans h.pendingClear, h'.openParcel.trans h.openParcel,
   h'.edges ∘ h.edges, h'.dropped ∘ h.dropped, h'.orphans ∘ h.orphans, h'.unmatched ∘ h.unmatched, h'.jams ∘ h.jams⟩

theorem LabelQuiet.trans {a b c : LabelUnit} (h : LabelQuiet a b) (h' : LabelQuiet b c) : LabelQuiet a c :=
  ⟨h'.accords ∘ h.accords, h'.printOrder.trans h.printOrder, h'.wasted ∘ h.wasted⟩

/-- `LabelQuiet.trans` with the last change first. -/
theorem LabelQuiet.after {a b c : LabelUnit} (h' : LabelQuiet b c) (h : LabelQuiet a b) : LabelQuiet a c := h.trans h'

theorem LabelQuiet.of_eq {u u' : LabelUnit} (h : u' = u) : LabelQuiet u u' := h ▸ .refl u

theorem LinkQuiet.trans {a b c : Link} (h : LinkQuiet a b) (h' : LinkQuiet b c) : LinkQuiet a c :=
  ⟨h'.reports ∘ h.reports, h'.lost ∘ h.lost⟩

@[refl] theorem Quiet.refl (s : State) : Quiet s s :=
  ⟨.refl _, .refl _, .refl _, rfl, .refl _, .refl _, .refl _, .refl _, .refl _, .refl _, .refl _⟩

theorem Quiet.trans {a b c : State} (h : Quiet a b) (h' : Quiet b c) : Quiet a c :=
  ⟨h.loader.trans h'.loader, h.store.trans h'.store, h.plate.trans h'.plate, h'.queue.trans h.queue,
   h.dispatch.trans h'.dispatch, h.share.trans h'.share, h.bus.trans h'.bus, h.peers.trans h'.peers,
   h.outfeed.trans h'.outfeed, h.label.trans h'.label, h.link.trans h'.link⟩

/-- `Quiet.trans` with the last change first. -/
theorem Quiet.after {a b c : State} (h' : Quiet b c) (h : Quiet a b) : Quiet a c := h.trans h'

/-! ### One block alone -/

section OneBlock
variable (s : State)

theorem Quiet.setLoader {l : Loader} (h : LoaderQuiet s.loader l) : Quiet s (s.setLoader l) := { Quiet.refl s with loader := h }
theorem Quiet.setStore {t : ImageStore} (h : StoreQuiet s.store t) : Quiet s (s.setStore t) := { Quiet.refl s with store := h }
theorem Quiet.setPlate {p : Plate} (h : PlateQuiet s.plate p) : Quiet s (s.setPlate p) := { Quiet.refl s with plate := h }
theorem Quiet.setDispatch {d : DispatchTable} (h : DispatchQuiet s.dispatch d) : Quiet s (s.setDispatch d) :=
  { Quiet.refl s with dispatch := h }
theorem Quiet.setShare {a : ShareAgent} (h : ShareQuiet s.share a) : Quiet s (s.setShare a) := { Quiet.refl s with share := h }
theorem Quiet.setBus {b : BusController} (h : BusQuiet s.bus b) : Quiet s (s.setBus b) := { Quiet.refl s with bus := h }
theorem Quiet.setPeers {t : PeerTable} (h : PeersQuiet s.peers t) : Quiet s (s.setPeers t) := { Quiet.refl s with peers := h }
theorem Quiet.setOutfeed {o : Outfeed} (h : OutfeedQuiet s.outfeed o) : Quiet s (s.setOutfeed o) :=
  { Quiet.refl s with outfeed := h }
theorem Quiet.setLabel {u : LabelUnit} (h : LabelQuiet s.label u) : Quiet s (s.setLabel u) := { Quiet.refl s with label := h }
theorem Quiet.setLink {k : Link} (h : LinkQuiet s.link k) : Quiet s (s.setLink k) := { Quiet.refl s with link := h }

theorem Quiet.putBus {b : BusController} (h : BusQuiet s.bus b) : Quiet s (s.putBus b) :=
  Quiet.setBus s (h.trans ⟨rfl, id, rfl, id, id, id, id, id, id⟩)

theorem Quiet.setPending (x : List Instr) : Quiet s (s.setPending x) := { Quiet.refl s with }
theorem Quiet.setFreeNo (n : Nat) : Quiet s (s.setFreeNo n) := { Quiet.refl s with }
theorem Quiet.setTimer (x : Timer) : Quiet s (s.setTimer x) := { Quiet.refl s with }
theorem Quiet.setSummary (x : Summary) : Quiet s (s.setSummary x) := { Quiet.refl s with }
theorem Quiet.setPowered (x : Bool) : Quiet s (s.setPowered x) := { Quiet.refl s with }

end OneBlock

end Sys2Proof.Machine
end

section
/-! The shared operations that are quiet: responses, rises, the printer going on, a scanned round, and the simple rows. -/

namespace Sys2Proof.Machine

theorem satAdd_le (limit n m : Nat) : satAdd limit n m ≤ limit := by
  unfold satAdd
  split <;> omega

/-! ### The link -/

theorem Link.latchRise_reports (k : Link) (src : Source) : (k.latchRise src).reports = k.reports := by
  unfold Link.latchRise
  split <;> rfl

theorem Link.latchRise_lost (k : Link) (src : Source) : (k.latchRise src).lost = k.lost := by
  unfold Link.latchRise
  split <;> rfl

theorem LinkQuiet.put {k : Link} (h : k.hasRoom = true) (r : Report) : LinkQuiet k (k.put r) := by
  have hroom : k.reports.length < 16 := of_decide_eq_true h
  exact ⟨fun _ => by simp [Link.put]; omega, id⟩

theorem LinkQuiet.loseReport (k : Link) : LinkQuiet k k.loseReport := by
  refine ⟨fun h => ?_, fun _ => satAdd_le _ _ _⟩
  unfold Link.loseReport
  dsimp only
  split
  · exact h
  · rwa [Link.latchRise_reports]

theorem LinkQuiet.putEvent (k : Link) (src : Source) (clock : Option ClockTime) (bus : BusState) :
    LinkQuiet k (k.putEvent src clock bus) := by
  unfold Link.putEvent
  split
  next hroom => exact LinkQuiet.put hroom _
  next => exact .loseReport k

theorem LinkQuiet.rise (k : Link) (src : Source) (clock : Option ClockTime) (bus : BusState) :
    LinkQuiet k (k.rise src clock bus) := by
  have hlatch : LinkQuiet k (k.latchRise src) :=
    ⟨by rw [Link.latchRise_reports]; exact id, by rw [Link.latchRise_lost]; exact id⟩
  unfold Link.rise
  dsimp only
  split
  · exact hlatch.trans (.putEvent _ _ _ _)
  · exact hlatch

theorem Quiet.respond (s : State) (kind : Nat) (code : Code) (payload : List Byte) :
    Quiet s (s.respond kind code payload) := .setLink s ⟨id, id⟩

theorem Quiet.answerHeld (s : State) (kind : Nat) (code : Code) (payload : List Byte) :
    Quiet s (s.answerHeld kind code payload) := .setLink s ⟨id, id⟩

theorem Quiet.rise (s : State) (src : Source) : Quiet s (s.rise src) := .setLink s (.rise _ _ _ _)

theorem Quiet.raiseBus (s : State) : Quiet s s.raiseBus := by
  unfold State.raiseBus
  split
  · rfl
  · exact .after (.rise _ _) (Quiet.setBus s ⟨rfl, id, rfl, id, id, id, id, id, id⟩)

theorem Quiet.raisePeer (s : State) : Quiet s s.raisePeer := by
  unfold State.raisePeer
  split
  · rfl
  · exact .after (.rise _ _) (Quiet.setPeers s ⟨rfl, id⟩)

theorem Quiet.raiseDuplicate (s : State) : Quiet s s.raiseDuplicate := by
  unfold State.raiseDuplicate
  split
  · rfl
  · exact .after (.rise _ _) (Quiet.setPeers s ⟨rfl, id⟩)

theorem Quiet.raiseJam (s : State) : Quiet s s.raiseJam := by
  unfold State.raiseJam
  split
  · rfl
  · exact .after (.rise _ _) (Quiet.setOutfeed s ⟨rfl, rfl, rfl, id, id, id, id, id⟩)

theorem Quiet.raiseOverrun (s : State) : Quiet s s.raiseOverrun := by
  unfold State.raiseOverrun
  split
  · rfl
  · exact .after (.rise _ _) (Quiet.setOutfeed s ⟨rfl, rfl, rfl, id, id, id, id, id⟩)

theorem Quiet.setSensorFault (s : State) (v : Bool) : Quiet s (s.setSensorFault v) := by
  have h : Quiet s (s.setPlate { s.plate with sensorFault := v }) := .setPlate s ⟨id, id, id⟩
  unfold State.setSensorFault
  dsimp only
  split
  · exact h.trans (.rise _ _)
  · exact h

theorem Quiet.meetVoid (s : State) (tag : Nat) : Quiet s (s.meetVoid tag) := by
  unfold State.meetVoid
  split
  · exact .setLink s ⟨id, id⟩
  · rfl

/-! ### The printer -/

/-- No label stands at the printer or in the slot. -/
def LabelUnit.Bare (u : LabelUnit) : Prop := u.atPrinter = none ∧ u.printDue = none ∧ u.slot = none

theorem LabelUnit.Accords.bare_of_idle {u : LabelUnit} (h : u.Accords) (hidle : u.printer = .idle) : u.Bare := by
  obtain ⟨hat, hdue, hslot⟩ := h
  simpa [hidle, LabelUnit.Bare] using And.intro hat (And.intro hdue hslot)

theorem LabelUnit.Bare.accords {u : LabelUnit} (h : u.Bare) (hp : u.printer ≠ .printing) (hq : u.printer ≠ .presented) :
    u.Accords := by
  obtain ⟨hat, hdue, hslot⟩ := h
  simp [LabelUnit.Accords, hat, hdue, hslot, hp, hq]

theorem State.printerToFault_label (s : State) : s.printerToFault.label = { s.label with printer := .fault } := by
  unfold State.printerToFault
  dsimp only
  split <;> rfl

/-- The printer goes to FAULT with no label at it or in the slot. -/
theorem Quiet.printerToFault (s : State) (h : s.label.Accords → s.label.Bare) : Quiet s s.printerToFault := by
  have hset : Quiet s (s.setLabel { s.label with printer := .fault }) :=
    .setLabel s ⟨fun ha => LabelUnit.Bare.accords (h ha) (by simp) (by simp), .refl _, id⟩
  unfold State.printerToFault
  dsimp only
  split
  · exact hset
  · exact .after (.rise _ _) hset

theorem Quiet.printerSettle (s : State) : Quiet s s.printerSettle := by
  unfold State.printerSettle
  split
  next hidle =>
    split
    · exact .printerToFault s fun ha => ha.bare_of_idle hidle
    · split
      next l rest hslot horder =>
        refine .setLabel s ⟨fun _ => ?_, ?_, id⟩
        · simp [LabelUnit.Accords, hslot]
        · simp [horder]
      next => rfl
  next => rfl

theorem Quiet.slotEmptied (s : State) (h : s.label.Accords → s.label.printer ≠ .printing) : Quiet s s.slotEmptied := by
  refine .after (.printerSettle _) (Quiet.setLabel s ⟨fun ha => ?_, .refl _, id⟩)
  have hp := h ha
  obtain ⟨hat, hdue, -⟩ := ha
  refine LabelUnit.Bare.accords ⟨?_, ?_, rfl⟩ (by simp) (by simp)
  · simpa [hp] using hat
  · simpa [hp] using hdue

theorem LabelUnit.Accords.not_printing_of_slot {u : LabelUnit} (h : u.Accords) (hs : u.slot.isSome = true) :
    u.printer ≠ .printing := by
  rw [h.2.2.2 hs]
  simp

theorem Quiet.leavePrintOrder (s : State) (tag : Nat) : Quiet s (s.leavePrintOrder tag) :=
  .setLabel s ⟨id, List.Sublist.map _ List.filter_sublist, id⟩

theorem Quiet.discardLabel (s : State) (tag : Nat) : Quiet s (s.discardLabel tag) := by
  have hleave := Quiet.leavePrintOrder s tag
  unfold State.discardLabel
  dsimp only
  split
  next l hl =>
    split
    · refine .after (.slotEmptied _ fun ha => ?_)
        (.after (.setLabel _ ⟨id, .refl _, fun _ => satAdd_le _ _ _⟩) hleave)
      exact ha.not_printing_of_slot (Option.isSome_iff_exists.2 ⟨l, hl⟩)
    · exact hleave
  next => exact hleave

theorem Quiet.labelDone (s : State) : Quiet s s.labelDone := by
  unfold State.labelDone
  split
  next l hp hat =>
    split
    · exact .setLabel s ⟨fun _ => by simp [LabelUnit.Accords], .refl _, id⟩
    · refine .after (.printerSettle _) (Quiet.setLabel s ⟨fun ha => ?_, .refl _, fun _ => satAdd_le _ _ _⟩)
      obtain ⟨-, -, hslot⟩ := ha
      exact LabelUnit.Bare.accords ⟨rfl, rfl, by simpa [hp, LabelUnit.waste] using hslot⟩ (by simp) (by simp)
  next => rfl

theorem Quiet.retryPrinter (s : State) : Quiet s s.retryPrinter := by
  unfold State.retryPrinter
  split
  next hf =>
    refine .after (.printerSettle _) (Quiet.setLabel s ⟨fun ha => ?_, .refl _, id⟩)
    obtain ⟨hat, hdue, hslot⟩ := ha
    refine LabelUnit.Bare.accords ⟨?_, ?_, ?_⟩ (by simp) (by simp)
    · simpa [hf.1] using hat
    · simpa [hf.1] using hdue
    · simpa [hf.1] using hslot
  next => rfl

/-! ### The serial and the memories -/

theorem Quiet.setSerial (s : State) (serial day : Nat) (daily : Bool) : Quiet s (s.setSerial serial day daily) := by
  have h : Quiet s (s.setLabel { s.label with serial := some (serial, day) }) := .setLabel s ⟨id, .refl _, id⟩
  unfold State.setSerial
  dsimp only
  split
  · exact h.trans (.setLoader _ ⟨id, rfl, rfl⟩)
  · exact h

theorem Quiet.labelDay (s : State) (day : Nat) : Quiet s (s.labelDay day) := by
  unfold State.labelDay
  split
  · rfl
  · exact .setSerial _ _ _ _

theorem Quiet.resolveSerial (s : State) (day : Nat) : Quiet s (s.resolveSerial day) := by
  unfold State.resolveSerial
  split
  · rfl
  · exact .after (.setSerial _ _ _ _) (Quiet.setLabel s ⟨id, .refl _, id⟩)

theorem Quiet.ceaseWrites (s : State) : Quiet s s.ceaseWrites := by
  have hstore : Quiet s s.ceaseStore := by
    unfold State.ceaseStore
    split
    · exact .after (.setFreeNo _ _) (Quiet.setStore s ⟨Memory.wf_writeMixed _ _ _, rfl, id, id⟩)
    · rfl
    · rfl
  refine hstore.trans ?_
  unfold State.ceaseWrites
  generalize s.ceaseStore = t
  unfold State.ceaseConfig
  split
  · rfl
  · exact .after (.setFreeNo _ _) (Quiet.setLoader t ⟨Memory.wf_writeMixed _ _ _, rfl, rfl⟩)

theorem Quiet.recordWritten (s : State) (record : List Byte) (matched : Bool) : Quiet s (s.recordWritten record matched) := by
  unfold State.recordWritten
  dsimp only
  split
  · exact .after (.answerHeld _ _ _ _) (Quiet.setLoader s ⟨Memory.wf_writeBytes _ _, rfl, rfl⟩)
  · exact .after (.answerHeld _ _ _ _)
      (.after (.setFreeNo _ _) (Quiet.setLoader s ⟨Memory.wf_writeMixed _ _ _, rfl, rfl⟩))

theorem Quiet.cellWritten (s : State) (day blockEnd : Nat) (daily : Bool) :
    Quiet s (s.cellWritten day blockEnd daily) :=
  .after (.setLabel _ ⟨id, .refl _, id⟩) (Quiet.setLoader s ⟨Memory.wf_writeBytes _ _, rfl, rfl⟩)

theorem Quiet.cellFailed (s : State) (day blockEnd : Nat) : Quiet s (s.cellFailed day blockEnd) :=
  .after (.setLabel _ ⟨id, .refl _, id⟩)
    (.after (.setFreeNo _ _) (Quiet.setLoader s ⟨Memory.wf_writeMixed _ _ _, rfl, rfl⟩))

/-! ### The plate -/

theorem PlateQuiet.capture (p : Plate) (l : Loader) : PlateQuiet p (p.capture l) := by
  unfold Plate.capture
  repeat' split
  all_goals exact ⟨id, id, id⟩

theorem pushHistory_length_le {h : List Nat} (w : Nat) (hh : h.length ≤ 64) : (pushHistory h w).length ≤ 64 := by
  unfold pushHistory
  split
  next hlt => simp [Config.historyLen] at hlt ⊢; omega
  next => simp; omega

theorem PlateQuiet.settleStage (p : Plate) (l : Loader) (w : Weight) : PlateQuiet p (p.settleStage l w) := by
  unfold Plate.settleStage
  split
  · split
    · exact ⟨fun _ => by simp, fun _ => by simp, id⟩
    · exact ⟨pushHistory_length_le _, fun _ => satAdd_le _ _ _, id⟩
  · exact ⟨fun _ => by simp, fun _ => by simp, id⟩
  · exact ⟨fun _ => by simp, fun _ => by simp, id⟩

theorem PlateQuiet.clearStage (p : Plate) (l : Loader) (w : Weight) : PlateQuiet p (p.clearStage l w) := by
  unfold Plate.clearStage
  split
  · split
    · exact ⟨id, id, fun _ => satAdd_le _ _ _⟩
    · exact ⟨id, id, fun _ => by simp⟩
  · exact ⟨id, id, fun _ => by simp⟩
  · exact ⟨id, id, fun _ => by simp⟩

theorem PlateQuiet.closeStages (p : Plate) (l : Loader) : PlateQuiet p (p.closeStages l) :=
  (((PlateQuiet.capture p l).trans (.settleStage _ l _)).trans (.clearStage _ l _)).trans ⟨id, id, id⟩

theorem PlateQuiet.endConversion (p : Plate) (l : Loader) (code : BitVec 16) : PlateQuiet p (p.endConversion l code) := by
  unfold Plate.endConversion
  split <;> exact ⟨id, id, id⟩

/-! ### Simple rows -/

theorem Quiet.queryStation (s : State) : Quiet s s.queryStation :=
  .after (.setOutfeed _ ⟨rfl, rfl, rfl, id, id, id, id, id⟩)
    (.after (.setBus _ ⟨rfl, id, rfl, id, id, id, id, id, id⟩) (Quiet.respond s _ _ _))

theorem Quiet.queryPeers (s : State) : Quiet s s.queryPeers := .after (.setPeers _ ⟨rfl, id⟩) (Quiet.respond s _ _ _)

theorem Quiet.setTare (s : State) (tare : Nat) : Quiet s (s.setTare tare) := by
  unfold State.setTare
  split
  · exact .respond _ _ _ _
  · exact .after (.respond _ _ _ _) (Quiet.setPlate s ⟨id, id, id⟩)

theorem Quiet.zeroPlate (s : State) : Quiet s s.zeroPlate := by
  unfold State.zeroPlate
  split
  · exact .respond _ _ _ _
  · exact .after (.respond _ _ _ _) (Quiet.setPlate s ⟨fun _ => by simp [Plate.rezero], fun _ => by simp [Plate.rezero],
      fun _ => by simp [Plate.rezero]⟩)

theorem Quiet.setAttention (s : State) (mask : BitVec 16) (edge : BitVec 8) : Quiet s (s.setAttention mask edge) :=
  .after (.respond _ _ _ _) (Quiet.setLink s ⟨id, id⟩)

theorem Quiet.ackAttention (s : State) : Quiet s s.ackAttention :=
  .after (.respond _ _ _ _) (.after (.setOutfeed _ ⟨rfl, rfl, rfl, id, id, id, id, id⟩) (Quiet.setLink s ⟨id, id⟩))

theorem Quiet.loadBegin (s : State) : Quiet s s.loadBegin := by
  unfold State.loadBegin
  repeat' split
  · exact .respond _ _ _ _
  · exact .respond _ _ _ _
  · exact .after (.respond _ _ _ _) (Quiet.setStore s ⟨id, rfl, fun _ h => (nomatch h), fun _ => Nat.zero_le _⟩)

theorem Quiet.loadChunk (s : State) (bytes : List Byte) : Quiet s (s.loadChunk bytes) := by
  unfold State.loadChunk
  split
  · exact .respond _ _ _ _
  split
  · exact .respond _ _ _ _
  next hstaging =>
    split
    · exact .respond _ _ _ _
    next hfits =>
      have hroom : s.store.staged.length + bytes.length ≤ 4559 := by
        simp only [Config.imageLen, not_or, not_lt] at hfits
        exact hfits.2
      refine .after (.respond _ _ _ _) (Quiet.setStore s ⟨id, rfl, fun _ h => ?_, fun _ => by simpa using hroom⟩)
      rw [not_ne_iff.1 hstaging] at h
      cases h

theorem Quiet.loadEnd (s : State) : Quiet s s.loadEnd := by
  unfold State.loadEnd
  split
  · exact .respond _ _ _ _
  split
  · exact .respond _ _ _ _
  split
  · exact .after (.respond _ _ _ _) (Quiet.setStore s ⟨id, rfl, fun _ h => (nomatch h), fun _ => Nat.zero_le _⟩)
  next hvalid => exact .after (.setLink _ ⟨id, id⟩) (Quiet.setStore s ⟨id, rfl, fun _ _ => hvalid, id⟩)

theorem Quiet.setNextConfig (s : State) (record : List Byte) : Quiet s (s.setNextConfig record) := by
  unfold State.setNextConfig
  split
  · exact .respond _ _ _ _
  · exact .after (.setLink _ ⟨id, id⟩) (Quiet.setLoader s ⟨id, rfl, rfl⟩)

theorem Quiet.tick (s : State) : Quiet s s.tick := by
  unfold State.tick
  split
  · have hmicro : Quiet s s.microsecond :=
      .after (.setTimer _ _) (Quiet.setOutfeed s ⟨rfl, rfl, rfl, id, id, id, id, id⟩)
    refine hmicro.trans ?_
    generalize s.microsecond = t
    have hmilli : DispatchQuiet t.dispatch t.dispatch.millisecond.1 := by
      unfold DispatchTable.millisecond
      split
      · rfl
      next c hc =>
        split
        next hlt =>
          refine ⟨rfl, rfl, rfl, id, id, fun h => by simp at h, fun h c' hc' => ?_⟩
          obtain ⟨hlo, hhi, -⟩ := h c hc
          obtain rfl := Option.some.inj hc'
          exact ⟨hlo, hhi, hlt⟩
        next => rfl
    dsimp only
    split
    · exact .after (.setPending _ _) (Quiet.setDispatch t hmilli)
    · exact .setPending _ _
  · rfl

end Sys2Proof.Machine
end

section
/-! What a step can do: every row's next state is reached by the moves listed here, with quiet changes between them. An
invariant is kept by every step once it is kept by each move. -/

namespace Sys2Proof.Machine

/-! ### The moves -/

/-- The moves of the part, each the work of one shared operation under the condition its row has tested. -/
inductive Move : State → State → Prop where
  | quiet {s t : State} (h : Quiet s t) : Move s t
  | trans {s t u : State} (h : Move s t) (h' : Move t u) : Move s u
  | powerOn (s : State) (answered : Nat) (cellA cellB imageRead : Bool) (beam : Beam) (faultLine : Bool) :
      Move s (s.powerOn answered cellA cellB imageRead beam faultLine)
  | restart (s : State) (answered : Nat) : Move s (s.restart answered)
  | accept {s : State} (g : Image) (postcode : List Byte) (service : Service) (declared due : Nat)
      (hplate : s.queue.plateBusy = false) (hroom : s.queue.parcels.length < 6) :
      Move s (s.setQueue
        { s.queue with
          parcels := s.queue.parcels ++ [newParcel g s.queue.newTag postcode service declared due],
          cursor := cycle 1 255 s.queue.newTag })
  | confirm {s : State} {tag : Nat} {p : Parcel} (tn : List Nat) (hp : s.queue.find tag = some p)
      (hquoted : p.state = .quoted) (hstands : p.standing ≠ some false) :
      Move s ((s.updateParcel p.tag (fun p => { p with state := .labelPending, tracking := some tn })).setLabel
        { s.label with printOrder := s.label.printOrder ++ [composeLabel s.store p tn] })
  | void {s : State} {tag : Nat} {p : Parcel} (hp : s.queue.find tag = some p) (hv : p.state.voidable = true) :
      Move s ((s.endParcel p .void (some .command)).voidEffect p)
  | plateTimeout {s : State} {p : Parcel} (hp : s.queue.inState .waitPlate = some p) :
      Move s (s.endParcel p .void (some .plateTimeout))
  | placeOwed (s : State) : Move s s.placeOwed
  | firstClock {s : State} {new : ClockTime} (hclock : s.dispatch.clock = none) (hnew : new.InRange) :
      Move s (s.setDispatch { s.dispatch with clock := some new, rings := fillRings s.store new.day new.ms })
  | forward {s : State} {c new : ClockTime} (d : Nat) (hclock : s.dispatch.clock = some c) (hnew : new.InRange) :
      Move s (s.stepForward c new d)
  | cutOff {s : State} {route : Nat} {e : Entry} (he : s.dispatch.dueHead route = some e) :
      Move s ((s.closeHead route e).bookings.quotesDue s)
  | imageStored {s : State} (hs : s.store.staging = .storing) : Move s (s.imageStored true)
  | changeBus {s : State} {st : BusState} (hoff : s.bus.state ≠ .off) (hactive : s.bus.state ≠ .active)
      (hannounce : s.bus.state ≠ .announce) (hst : st ≠ .off) : Move s (s.changeBus st)
  | plateCleared (s : State) : Move s (s.setQueue s.queue.plateCleared)
  | settle {s : State} {p : Parcel} (hp : s.queue.inState .waitPlate = some p) : Move s (s.settleHandOver p)
  | handOver {s : State} {p : Parcel} (d : Dims) (hp : s.queue.inState .measuring = some p) :
      Move s (s.measurementHandOver p d)
  | failAttempt {s : State} {k : TxKind} (hk : s.bus.sending = some k ∨ s.bus.chosen = some k) :
      Move s (s.failAttempt k)
  | endFrame (s : State) (k : TxKind) (e : Ending) : Move s (s.endFrame k e)
  | meet {s : State} (own now : Nat) (clock : Option ClockTime) {sender : Nat} (edition busCode routeCount : Nat)
      (hnew : s.peers.find sender = none) (hlow : 1 ≤ sender) (hhigh : sender ≤ 32)
      (hother : sender ≠ s.loader.stationNo) (hoff : s.bus.state ≠ .off) :
      Move s (s.setPeers { s.peers with
        peers := insertPeer (newPeer own now clock sender edition busCode routeCount) s.peers.peers })
  | takeAsk (s : State) (p : Peer) (askNo route day slot units : Nat) :
      Move s (s.takeAsk p askNo route day slot units)
  | applyUnits (s : State) (route day slot units : Nat) :
      Move s (s.setDispatch (s.dispatch.applyUnits route day slot units))
  | endAsk (s : State) : Move s s.endAsk
  | enterFailed {s : State} (hoff : s.bus.state ≠ .off) : Move s (s.enterFailed s)
  | breakTaken {s : State} (e : Edge) (h : s.outfeed.breakTakable = true) : Move s (s.breakTaken e)
  | makeTaken (s : State) (e : Edge) : Move s (s.makeTaken e)
  | carryOut {s : State} {a : Action} (ha : a ∈ s.outfeed.actions) :
      Move s ((s.setOutfeed { s.outfeed with actions := s.outfeed.actions.erase a }).carry a)
  | clearIn {s : State} {tag : Nat} {pos : Count} {rest : List (Nat × Count)}
      (hpending : s.outfeed.pendingClear = (tag, pos) :: rest) (hroom : s.outfeed.actions.length < 8) :
      Move s ((s.setOutfeed { s.outfeed with pendingClear := rest }).makeAction ⟨pos, .clearChute, tag⟩)
  | jam {s : State} {tag : Nat} {p : Parcel} (hp : s.queue.beltRecord tag = some p) :
      Move s ((s.setOutfeed (s.outfeed.jam p.tag)).rejectOnBelt p .jam)
  | printFailed (s : State) : Move s s.printFailed

@[refl] theorem Move.refl (s : State) : Move s s := .quiet (.refl s)

/-- `Move.trans` with the last move first. -/
theorem Move.after {s t u : State} (h' : Move t u) (h : Move s t) : Move s u := h.trans h'

theorem Move.thenQuiet {s t u : State} (h : Quiet t u) (h' : Move s t) : Move s u := h'.trans (.quiet h)

theorem Move.event {s : State} {run : State → State} (h : s.powered = true → Move s (run s)) : Move s (s.event run) := by
  unfold State.event
  split
  next hp => exact h hp
  next => rfl

theorem Move.command {s : State} {kind : Nat} {run : State → State} (h : Move s (run s)) : Move s (s.command kind run) := by
  unfold State.command
  repeat' split
  · exact .quiet (.respond _ _ _ _)
  · exact h
  · rfl

theorem Move.commandAlways {s : State} {run : State → State} (h : Move s (run s)) : Move s (s.commandAlways run) := by
  unfold State.commandAlways
  split
  · exact h
  · rfl

/-! ### The terminal's rows -/

theorem Move.acceptRow (s : State) (postcode : List Byte) (service : Byte) (declared : Nat) :
    Move s (s.accept postcode service declared) := by
  unfold State.accept
  split
  · exact .quiet (.respond _ _ _ _)
  next hstation =>
    dsimp only
    split
    · exact .quiet (.respond _ _ _ _)
    · have hplate : s.queue.plateBusy = false ∧ s.queue.parcels.length < 6 := by
        unfold State.acceptStation at hstation
        repeat' split at hstation
        all_goals simp_all [Config.queueLen]
      exact .thenQuiet (.respond _ _ _ _) (.accept _ _ _ _ _ hplate.1 hplate.2)

theorem Move.testConfirm (s : State) (tag quote : Nat) : Move s (s.testConfirm tag quote) := by
  unfold State.testConfirm
  split
  · exact .quiet (.respond _ _ _ _)
  next p hp =>
    split
    · exact .quiet (.respond _ _ _ _)
    next hc =>
      have hquoted : p.state = .quoted ∧ p.standing ≠ some false := by
        unfold confirmRefusal at hc
        repeat' split at hc
        all_goals simp_all
      split
      · split
        · exact .thenQuiet (.respond _ _ _ _) (.thenQuiet (.printerSettle _) (.thenQuiet (.setSerial _ _ _ _)
            (.confirm _ hp hquoted.1 hquoted.2)))
        · exact .quiet (.respond _ _ _ _)
      · exact .quiet (.respond _ _ _ _)

theorem Move.confirmRow (s : State) (tag quote : Nat) : Move s (s.confirm tag quote) := by
  unfold State.confirm
  split
  · exact .quiet (.setLink _ ⟨id, id⟩)
  · exact .testConfirm _ _ _

theorem Move.voidRow (s : State) (tag : Nat) : Move s (s.void tag) := by
  unfold State.void
  split
  · exact .quiet (.after (.respond _ _ _ _) (.setLink _ ⟨id, id⟩))
  split
  · exact .quiet (.respond _ _ _ _)
  next p hp =>
    split
    next hv => exact .thenQuiet (.respond _ _ _ _) (.void hp hv)
    next => exact .quiet (.respond _ _ _ _)

theorem Move.fetchRow (s : State) : Move s s.fetch := by
  unfold State.fetch
  dsimp only
  split
  · exact .quiet (.respond _ _ _ _)
  next r rest hr =>
    refine .after (.placeOwed _) (.quiet (.after (.setLink _ ⟨fun h => ?_, id⟩) (.respond _ _ _ _)))
    have hlen : (r :: rest).length ≤ 16 := hr ▸ h
    simp only [List.length_cons] at hlen
    show rest.length ≤ 16
    omega

theorem Move.queryParcelRow (s : State) (tag : Nat) : Move s (s.queryParcel tag) := by
  unfold State.queryParcel
  split <;> exact .quiet (.respond _ _ _ _)

theorem State.setClockTo_of_unset {s : State} (new : ClockTime) (h : s.dispatch.clock = none) :
    s.setClockTo new = (s.firstClock new, true) := by
  rw [State.setClockTo, h]

/-- What a SET-CLOCK of a set clock can do (R88): nothing, a forward step, a small backward step, or a refusal. -/
theorem State.setClockTo_cases {s : State} {c : ClockTime} (new : ClockTime) (h : s.dispatch.clock = some c) :
    s.setClockTo new = (s, true) ∨ (∃ d, s.setClockTo new = (s.stepForward c new d, true)) ∨
      s.setClockTo new = (s.setDispatch { s.dispatch with clock := some new }, true) ∨
      s.setClockTo new = (s, false) := by
  rw [State.setClockTo, h]
  dsimp only
  split
  · exact .inl rfl
  split
  · exact .inr (.inl ⟨_, rfl⟩)
  split
  · exact .inr (.inr (.inl rfl))
  · exact .inr (.inr (.inr rfl))

theorem Move.setClockTo (s : State) {new : ClockTime} (hnew : new.InRange) : Move s (s.setClockTo new).1 := by
  cases hclock : s.dispatch.clock with
  | none =>
    rw [State.setClockTo_of_unset new hclock]
    exact .thenQuiet (.resolveSerial _ _) (.firstClock hclock hnew)
  | some c =>
    obtain h | ⟨d, h⟩ | h | h := State.setClockTo_cases new hclock
    all_goals rw [h]
    · exact .forward d hclock hnew
    · exact .quiet (.setDispatch _ ⟨rfl, rfl, rfl, id, id, (nomatch ·), fun _ c' hc' => Option.some.inj hc' ▸ hnew⟩)

theorem ClockTime.inRange_of_within {day ms : Nat}
    (h : (within 1 Config.yearDays day && decide (ms < Config.dayMs)) = true) : (⟨day, ms⟩ : ClockTime).InRange := by
  simp only [within, Bool.and_eq_true, decide_eq_true_eq] at h
  obtain ⟨⟨hlow, hhigh⟩, hms⟩ := h
  exact ⟨hlow, hhigh, hms⟩

theorem Move.setClockRow (s : State) (day ms : Nat) : Move s (s.setClock day ms) := by
  unfold State.setClock
  split
  next hin => exact .thenQuiet (.respond _ _ _ _) (.setClockTo s (ClockTime.inRange_of_within hin))
  next => exact .quiet (.respond _ _ _ _)

theorem Move.readTariffRow (s : State) (offset count : Nat) : Move s (s.readTariff offset count) := by
  unfold State.readTariff
  repeat' split
  all_goals exact .quiet (.respond _ _ _ _)

/-! ### The events of the belt, the printer and the plate -/

theorem Move.freed (s : State) : Move s s.freed := by
  have loop : ∀ (n : Nat) (t : State), Move t (State.fillClears n t) := by
    intro n
    induction n with
    | zero => exact fun t => .refl t
    | succ n ih =>
      intro t
      unfold State.fillClears
      split
      next hpending =>
        split
        next hroom => exact .after (ih _) (.clearIn hpending hroom)
        next => rfl
      next => rfl
  exact loop _ s

theorem Move.takeEdge {s : State} {e : Edge} (h : s.outfeed.takable = some e) : Move s (s.takeEdge e) := by
  have hnext : Move s (s.setOutfeed s.outfeed.nextEdge) := by
    refine .quiet (.setOutfeed _ ⟨rfl, rfl, rfl, fun h => ?_, id, id, id, id⟩)
    simp only [Outfeed.nextEdge, List.length_drop]
    omega
  unfold State.takeEdge
  dsimp only
  split
  next hbrk =>
    refine .after (.breakTaken _ ?_) hnext
    simp only [Outfeed.takable] at h
    repeat' split at h
    all_goals simp_all [Outfeed.breakTakable, Outfeed.nextEdge]
  next => exact .after (.makeTaken _ _) hnext

theorem Move.track (s : State) : Move s s.track := by
  have loop : ∀ (n : Nat) (t : State), Move t (State.trackFor n t) := by
    intro n
    induction n with
    | zero => exact fun t => .refl t
    | succ n ih =>
      intro t
      unfold State.trackFor
      split
      next he => exact .after (ih _) (.takeEdge he)
      next => rfl
  exact loop _ s

theorem Move.captureEdge (s : State) (e : Edge) : Move s (s.captureEdge e) := by
  unfold State.captureEdge
  split
  · exact .quiet (.setOutfeed _ ⟨rfl, rfl, rfl, id, id, id, id, id⟩)
  split
  next hroom =>
    refine .quiet (.setOutfeed _ ⟨rfl, rfl, rfl, fun _ => ?_, id, id, id, id⟩)
    simp only [Config.edgeLen] at hroom
    simpa using hroom
  next =>
    exact .quiet (.after (.raiseOverrun _) (.setOutfeed _ ⟨rfl, rfl, rfl, id, fun _ => satAdd_le _ _ _, id, id, id⟩))

theorem Move.beamEdge (s : State) (kind : EdgeKind) : Move s (s.beamEdge kind) := by
  have hbeam : Move s (s.setOutfeed { s.outfeed with beam := beamAfter kind }) :=
    .quiet (.setOutfeed _ ⟨rfl, rfl, rfl, id, id, id, id, id⟩)
  unfold State.beamEdge
  dsimp only
  split
  · exact hbeam
  · exact .after (.track _) (.after (.captureEdge _ _) hbeam)

theorem Move.takeHeld (s : State) (kind : EdgeKind) : Move s (s.takeHeld kind) := by
  unfold State.takeHeld
  split
  next he =>
    split
    · exact .after (.track _) (.takeEdge he)
    · rfl
  next => rfl

theorem Move.runActions (n : Nat) (s : State) : Move s (State.runActions n s) := by
  induction n generalizing s with
  | zero => rfl
  | succ n ih =>
    unfold State.runActions
    split
    next a ha => exact .after (ih _) (.after (.freed _) (.carryOut (List.mem_of_find?_eq_some ha)))
    next => rfl

theorem Move.advance (s : State) : Move s s.advance :=
  .after (.track _) (.after (.runActions _ _) (.quiet (.setOutfeed _ ⟨rfl, rfl, rfl, id, id, id, id, id⟩)))

theorem Move.jamRecord {s : State} {tag : Nat} {p : Parcel} (hp : s.queue.beltRecord tag = some p) :
    Move s (s.jamRecord p) :=
  .after (.track _) (.after (.freed _) (.thenQuiet (.raiseJam _) (.jam hp)))

theorem Move.faultLineTo (s : State) (asserted : Bool) : Move s (s.faultLineTo asserted) := by
  have hline : Move s (s.setLabel { s.label with faultLine := asserted }) := .quiet (.setLabel _ ⟨id, .refl _, id⟩)
  unfold State.faultLineTo
  dsimp only
  repeat' split
  · exact .thenQuiet (.printerSettle _) hline
  · exact .after (.printFailed _) hline
  · exact hline
  · exact hline
  · exact hline

theorem Move.plateTimeoutRow (s : State) : Move s s.plateTimeout := by
  unfold State.plateTimeout
  split
  next hp =>
    split
    · exact .thenQuiet (.meetVoid _ _) (.plateTimeout hp)
    · rfl
  next => rfl

theorem Move.closeRound (s : State) : Move s s.closeRound := by
  have hclear : ∀ (t : State) (was : Plate), Move t (t.clearEvent was) := by
    intro t was
    unfold State.clearEvent
    split
    · exact .plateCleared t
    · rfl
  have hsettle : ∀ t : State, Move t t.settleEvent := by
    intro t
    unfold State.settleEvent
    split
    next hp =>
      split
      · exact .settle hp
      · rfl
    next => rfl
  have hmeasure : ∀ (t : State) (was : Plate), Move t (t.measureEvent was) := by
    intro t was
    unfold State.measureEvent
    split
    next m p _ hp =>
      extract_lets moved m'
      split
      · exact .quiet (.setPlate _ ⟨id, id, id⟩)
      · exact .thenQuiet (.meetVoid _ _) (.after (.handOver _ hp) (.quiet (.setPlate _ ⟨id, id, id⟩)))
    next => rfl
  exact .after (hmeasure _ _) (.after (hsettle _) (.after (hclear _ _)
    (.thenQuiet (.setPlate _ (.closeStages _ _)) (.quiet (.setSensorFault _ _)))))

theorem Move.scan (s : State) (code : BitVec 16) : Move s (s.scan code) := by
  have hend : Move s (s.setPlate (s.plate.endConversion s.loader code)) := .quiet (.setPlate _ (.endConversion _ _ _))
  unfold State.scan
  extract_lets j s1 s2
  refine .thenQuiet (.setPlate _ ⟨id, id, id⟩) ?_
  unfold s2 s1
  split
  · exact .after (.closeRound _) hend
  · exact hend

/-! ### The memories -/

theorem Move.imageStoredRow {s : State} (hs : s.store.staging = .storing) (matched : Bool) :
    Move s (s.imageStored matched) := by
  cases matched
  case true => exact .imageStored hs
  case false =>
    exact .quiet (.after (.answerHeld _ _ _ _) (.after (.setFreeNo _ _)
      (.setStore _ ⟨Memory.wf_writeMixed _ _ _, rfl, fun _ h => (nomatch h), fun _ => Nat.zero_le _⟩)))

theorem Move.releaseConfirm (s : State) : Move s s.releaseConfirm := by
  unfold State.releaseConfirm
  split
  · split
    · rfl
    · exact .after (.testConfirm _ _ _) (.quiet (.setLink _ ⟨id, id⟩))
  · rfl
  · rfl
  · rfl

end Sys2Proof.Machine
end

section
/-! The moves of the hall's rows, and of every row and step. -/

namespace Sys2Proof.Machine

/-! ### Attempts and timers -/

theorem Move.whileSending (s : State) (run : TxKind → State → State)
    (h : ∀ k, s.bus.sending = some k → Move s (run k s)) : Move s (s.whileSending run) := by
  unfold State.whileSending
  split
  next k hk => exact h k hk
  next => rfl

theorem Move.complete (s : State) (k : TxKind) (e : Ending) : Move s (s.complete k e) :=
  .after (.endFrame _ _ _) (.quiet (.setBus _ ⟨rfl, id, rfl, id, fun _ => Nat.zero_le _, id, fun h => by
    dsimp only
    split
    · exact satAdd_le _ _ _
    · exact h, id, id⟩))

theorem Move.slotSeen {s : State} {k : TxKind} (hk : s.bus.sending = some k) (dominant : Bool) :
    Move s (s.slotSeen k dominant) := by
  unfold State.slotSeen
  split
  · exact .complete _ _ _
  · cases k with
    | give => exact .failAttempt (.inl hk)
    | ask => exact .complete _ _ _
    | presence => exact .complete _ _ _

theorem BusController.chosen_state {b : BusController} {k : TxKind} (h : b.chosen = some k) :
    b.state = .active ∨ b.state = .announce := by
  unfold BusController.chosen at h
  cases hs : b.state <;> simp [hs, BusState.maySend] at h ⊢

theorem BusQuiet.begin {b : BusController} {k : TxKind} (h : b.chosen = some k) (edition routeCount : Nat) :
    BusQuiet b (b.begin edition routeCount k) := by
  refine ⟨rfl, fun _ _ => BusController.chosen_state (b := b) h, ?_, id, id, id, id, id, id⟩
  unfold BusController.begin
  dsimp only
  split
  · cases b.gives <;> rfl
  · rfl

theorem Quiet.contention (s : State) : Quiet s s.contention := by
  unfold State.contention
  have hobserve : BusQuiet s.bus { s.bus with observing := true } := ⟨rfl, id, rfl, id, id, id, id, id, id⟩
  split
  · rfl
  · rfl
  · refine .setBus s ?_
    dsimp only
    split
    next k hk => exact hobserve.trans (.begin hk _ _)
    next => exact hobserve

theorem BusController.queuePresence_frame (b : BusController) (join : Bool) :
    ∃ p, b.queuePresence join = { b with presence := p } := by
  unfold BusController.queuePresence
  split
  · exact ⟨_, rfl⟩
  · exact ⟨b.presence, rfl⟩

theorem BusQuiet.queuePresence (b : BusController) (join : Bool) : BusQuiet b (b.queuePresence join) := by
  obtain ⟨p, hp⟩ := b.queuePresence_frame join
  rw [hp]
  exact ⟨rfl, id, rfl, id, id, id, id, id, id⟩

theorem Move.busyLimitRow (s : State) :
    Move s (match s.busyDue, s.bus.chosen with
      | true, some k => s.failAttempt k
      | _, _ => s) := by
  split
  next hk => exact .failAttempt (.inr hk)
  next => rfl

theorem Move.timed {s : State} {st : BusState} {due : Option Nat} {run : State → State}
    (h : s.bus.state = st → Move s (run s)) : Move s (s.timed st due run) := by
  unfold State.timed
  split
  next hst => exact h hst.1
  next => rfl

theorem PeerTable.update_stations (t : PeerTable) (station : Nat) {f : Peer → Peer}
    (hf : ∀ p, (f p).station = p.station) :
    (t.update station f).peers.map Peer.station = t.peers.map Peer.station := by
  simp only [PeerTable.update, List.map_map]
  refine List.map_congr_left fun p _ => ?_
  simp only [Function.comp_apply]
  split
  · exact hf p
  · rfl

theorem PeersQuiet.update (t : PeerTable) (station : Nat) {f : Peer → Peer}
    (hf : ∀ p, (f p).station = p.station)
    (hu : ∀ p, p.given ≤ 65535 ∧ p.received ≤ 65535 → (f p).given ≤ 65535 ∧ (f p).received ≤ 65535) :
    PeersQuiet t (t.update station f) := by
  refine ⟨t.update_stations station hf, fun h p hp => ?_⟩
  obtain ⟨q, hq, rfl⟩ := List.mem_map.1 hp
  split
  · exact hu q (h q hq)
  · exact h q hq

theorem Quiet.silence (s : State) (p : Peer) : Quiet s (s.silence p) := by
  have h : Quiet s (s.setPeers (s.peers.update p.station (fun p => { p with status := .silent, timing := false }))) :=
    .setPeers _ (.update _ _ (fun _ => rfl) fun _ => id)
  unfold State.silence
  dsimp only
  split
  · exact h
  · exact .after (.raisePeer _) h

theorem Move.silenceRow (s : State) (station : Nat) :
    Move s (match s.peers.find station with
      | some p => if p.silentNow s.loader.presenceInterval s.timer.ms then s.silence p else s
      | none => s) := by
  split
  · split
    · exact .quiet (.silence _ _)
    · rfl
  · rfl

theorem Move.askWindowRow (s : State) :
    Move s (match s.share.openAsk with
      | some a => if a.phase = .window ∧ a.windowEnd ≤ s.timer.ms then s.endAsk else s
      | none => s) := by
  split
  · split
    · exact .endAsk s
    · rfl
  · rfl

/-! ### Frames received -/

theorem Move.duplicate {s : State} (hoff : s.bus.state ≠ .off) : Move s s.duplicate := by
  have hstate := (Quiet.raiseDuplicate s).bus.state
  unfold State.duplicate
  dsimp only
  split
  · exact .quiet (.raiseDuplicate s)
  · exact .after (.enterFailed (hstate ▸ hoff)) (.quiet (.raiseDuplicate s))

/-- A frame that is received has a sender of the hall, and the station is not in OFF. -/
theorem Move.receive (s : State) (f : Frame) {use : State → State}
    (h : ∀ t : State, t.bus.state ≠ .off → f.wf = true → f.sender ≠ t.loader.stationNo → Move t (use t)) :
    Move s (s.receive f use) := by
  unfold State.receive
  split
  next hcond =>
    simp only [Bool.and_eq_true, BusController.hears, bne_iff_ne] at hcond
    obtain ⟨⟨-, ⟨hoff, -⟩, -⟩, hwf⟩ := hcond
    have hslot : Move s (s.setBus { s.bus with slotDriven := drivesSlot s.bus.state s.loader.stationNo f }) :=
      .quiet (.setBus _ ⟨rfl, id, rfl, id, id, id, id, id, id⟩)
    dsimp only
    split
    next => exact .after (.duplicate hoff) hslot
    next hother => exact .after (h _ hoff hwf hother) hslot
  next => rfl

theorem Move.takePresence {s : State} {sender : Nat} (edition busCode routeCount : Nat) (join : Bool)
    (hoff : s.bus.state ≠ .off) (hlow : 1 ≤ sender) (hhigh : sender ≤ 32) (hother : sender ≠ s.loader.stationNo) :
    Move s (s.takePresence sender edition busCode routeCount join) := by
  unfold State.takePresence
  split
  next hnew => exact .thenQuiet (.raisePeer _) (.meet _ _ _ _ _ _ hnew hlow hhigh hother hoff)
  next p _ =>
    have h : Quiet s (s.setPeers (s.peers.update sender (fun p =>
        p.refreshed s.store.edition s.timer.ms s.dispatch.clock edition busCode routeCount join))) :=
      .setPeers _ (.update _ _ (fun _ => rfl) fun _ => id)
    dsimp only
    split
    · exact .quiet h
    · exact .quiet (.after (.raisePeer _) h)

theorem Quiet.answerJoin (s : State) (join : Bool) : Quiet s (s.answerJoin join) := by
  unfold State.answerJoin
  split
  · exact .putBus _ (.queuePresence _ _)
  · rfl

theorem Move.fromPeer (s : State) (sender : Nat) {use : Peer → State → State} (h : ∀ p t, Move t (use p t)) :
    Move s (s.fromPeer sender use) := by
  unfold State.fromPeer
  split
  · exact .quiet (.setBus _ ⟨rfl, id, rfl, id, id, id, id, fun _ => satAdd_le _ _ _, id⟩)
  · exact .after (h _ _) (.quiet (.setPeers _ (.update _ _ (fun _ => rfl) fun _ => id)))

theorem Move.matchGive (s : State) (askNo route day slot units : Nat) :
    Move s (s.matchGive askNo route day slot units) := by
  have late : Move s (s.setShare { s.share with late := satAdd 255 s.share.late 1 }) :=
    .quiet (.setShare _ ⟨id, fun _ => satAdd_le _ _ _⟩)
  unfold State.matchGive
  split
  next a _ =>
    split
    · have hset : Move s (s.setShare
          { s.share with openAsk := some { a with received := satAdd 65535 a.received units } }) :=
        .quiet (.setShare _ ⟨fun _ x hx => Option.some.inj hx ▸ satAdd_le _ _ _, id⟩)
      dsimp only
      split
      · exact .after (.endAsk _) hset
      · exact hset
    · exact late
  next => exact late

theorem Move.takeGive (s : State) (p : Peer) (askNo giveNo route day slot units : Nat) :
    Move s (s.takeGive p askNo giveNo route day slot units) := by
  unfold State.takeGive
  split
  · rfl
  · exact .after (.matchGive _ _ _ _ _ _) (.after (.applyUnits _ _ _ _ _)
      (.quiet (.setPeers _ (.update _ _ (fun _ => rfl) fun _ h => ⟨h.1, satAdd_le _ _ _⟩))))

/-! ### Every row and every step -/

theorem nextDay_inRange (d : Nat) : 1 ≤ nextDay d ∧ nextDay d ≤ 366 := by
  unfold nextDay Config.yearDays
  by_cases hd : 366 ≤ d
  · simp [hd]
  · simp [hd]
    omega

theorem exec_moves {c : Instr} {s t : State} (h : exec c s = .next t) : Move s t := by
  cases c
  all_goals obtain rfl := Host.Outcome.next.inj h
  case powerOn answered cellA cellB imageRead beam faultLine =>
    split
    · rfl
    · exact .powerOn _ _ _ _ _ _ _
  case restartInput => exact .event fun _ => .restart _ _
  case restart => exact .commandAlways (.after (.restart _ _) (.quiet (.respond _ _ _ _)))
  case badCommand =>
    refine .commandAlways ?_
    split
    · exact .quiet (.respond _ _ _ _)
    · rfl
  case accept => exact .command (.acceptRow _ _ _ _)
  case confirm => exact .command (.confirmRow _ _ _)
  case void => exact .command (.voidRow _ _)
  case fetch => exact .command (.fetchRow _)
  case queryParcel => exact .command (.queryParcelRow _ _)
  case queryStation => exact .commandAlways (.quiet (.queryStation _))
  case queryDispatch =>
    refine .command ?_
    split <;> exact .quiet (.respond _ _ _ _)
  case queryPeers => exact .command (.quiet (.queryPeers _))
  case setClock => exact .command (.setClockRow _ _ _)
  case setTare => exact .command (.quiet (.setTare _ _))
  case zero => exact .command (.quiet (.zeroPlate _))
  case clearFlags => exact .command (.quiet (.after (.setSummary _ _) (.respond _ _ _ _)))
  case setAttention => exact .command (.quiet (.setAttention _ _ _))
  case ackAttention => exact .command (.quiet (.ackAttention _))
  case loadBegin => exact .command (.quiet (.loadBegin _))
  case loadChunk => exact .command (.quiet (.loadChunk _ _))
  case loadEnd => exact .command (.quiet (.loadEnd _))
  case imageStoreComplete =>
    refine .event fun _ => ?_
    split
    next hs => exact .imageStoredRow hs _
    next => rfl
  case readTariff => exact .command (.readTariffRow _ _ _)
  case releaseJoin =>
    refine .command ?_
    split
    next hhold =>
      exact .thenQuiet (.respond _ _ _ _)
        (.changeBus (by simp [hhold]) (by simp [hhold]) (by simp [hhold]) (by simp))
    next => exact .quiet (.respond _ _ _ _)
  case printerRetry => exact .command (.quiet (.after (.respond _ _ _ _) (.retryPrinter _)))
  case setNextConfig => exact .commandAlways (.quiet (.setNextConfig _ _))
  case configWriteComplete =>
    refine .event fun _ => ?_
    split
    · exact .quiet (.recordWritten _ _ _)
    · rfl
    · rfl
  case readConfig =>
    refine .commandAlways ?_
    repeat' split
    all_goals exact .quiet (.respond _ _ _ _)
  case scanStep =>
    refine .event fun _ => ?_
    split
    · exact .scan _ _
    · rfl
  case plateTimeout => exact .event fun _ => .plateTimeoutRow _
  case cutOff =>
    refine .event fun _ => ?_
    split
    next he => exact .cutOff he
    next => rfl
  case dayChange =>
    refine .event fun _ => ?_
    split
    next c hc =>
      split
      · refine .quiet (.after (.labelDay _ _) (.setDispatch _
          ⟨rfl, rfl, rfl, id, id, (nomatch ·), fun h c' hc' => Option.some.inj hc' ▸ ?_⟩))
        obtain ⟨hlow, hhigh⟩ := nextDay_inRange c.day
        exact ⟨hlow, hhigh, Nat.succ_pos _⟩
      · rfl
    next => rfl
  case cellWriteComplete matched =>
    refine .event fun _ => ?_
    split
    · refine .after (.releaseConfirm _) ?_
      split
      · exact .quiet (.cellWritten _ _ _ _)
      · exact .quiet (.cellFailed _ _ _)
    · rfl
    · rfl
  case contentionPoint => exact .event fun _ => .quiet (.contention _)
  case lostArbitration =>
    exact .event fun _ => .whileSending _ _ fun k _ =>
      .quiet (.putBus _ ⟨rfl, fun _ h => absurd rfl h, rfl, id, id, id, id, id, id⟩)
  case bitError =>
    exact .event fun _ => .whileSending _ _ fun k hk =>
      .after (.failAttempt (.inl hk)) (.quiet (.setBus _ ⟨rfl, id, rfl, id, id, id, id, id, id⟩))
  case ackSlot => exact .event fun _ => .whileSending _ _ fun k hk => .slotSeen hk _
  case busyLimit => exact .event fun _ => .busyLimitRow s
  case quietExpiry =>
    exact .event fun _ => .timed fun h => .changeBus (by simp [h]) (by simp [h]) (by simp [h]) (by simp)
  case activeTimerExpiry =>
    exact .event fun _ => .timed fun _ =>
      .quiet (.setBus _ ⟨rfl, id, rfl, id, id, id, id, id, fun _ => Nat.zero_le _⟩)
  case listenTimerExpiry =>
    refine .event fun _ => .timed fun h => .changeBus (by simp [h]) (by simp [h]) (by simp [h]) ?_
    split <;> simp
  case gatherTimerExpiry =>
    exact .event fun _ => .timed fun h => .changeBus (by simp [h]) (by simp [h]) (by simp [h]) (by simp)
  case presenceTimerExpiry =>
    exact .event fun _ => .timed fun _ =>
      .quiet (.putBus _ ((BusQuiet.queuePresence _ _).trans ⟨rfl, id, rfl, id, id, id, id, id, id⟩))
  case silenceTimerExpiry => exact .event fun _ => .silenceRow s _
  case frameNotWellFormed =>
    refine .event fun _ => ?_
    split
    · exact .quiet (.setBus _ ⟨rfl, id, rfl, id, id, id, id, id, id⟩)
    · rfl
  case presenceReceived =>
    refine .receive _ _ fun t hoff hwf hother => .thenQuiet (.answerJoin _ _) ?_
    obtain ⟨hlow, hhigh, -⟩ := of_decide_eq_true hwf
    exact .takePresence _ _ _ _ hoff hlow hhigh hother
  case askReceived =>
    refine .receive _ _ fun t _ _ _ => .fromPeer _ _ fun p u => ?_
    split
    · exact .takeAsk _ _ _ _ _ _ _
    · rfl
  case giveReceived =>
    refine .receive _ _ fun t _ _ _ => .fromPeer _ _ fun p u => ?_
    split
    · exact .takeGive _ _ _ _ _ _ _ _
    · rfl
  case askWindowExpiry => exact .event fun _ => .askWindowRow s
  case edgeCapture =>
    refine .event fun _ => ?_
    split
    · rfl
    · exact .beamEdge _ _
  case takeBreak => exact .event fun _ => .takeHeld _ _
  case takeMake => exact .event fun _ => .takeHeld _ _
  case encoderPulse => exact .event fun _ => .advance _
  case jam =>
    refine .event fun _ => ?_
    split
    next p hp =>
      split
      · exact .jamRecord hp
      · rfl
    next => rfl
  case printerDone => exact .event fun _ => .quiet (.labelDone _)
  case printerFault => exact .event fun _ => .faultLineTo _ _
  case printTimeout =>
    refine .event fun _ => ?_
    split
    · exact .printFailed _
    · rfl
  case powerLoss => exact .event fun _ => .quiet (.after (.setPowered _ _) (.ceaseWrites _))

theorem step_moves {s t : State} (h : step s = .next t) : Move s t := by
  unfold step at h
  split at h
  · obtain rfl := Host.Outcome.next.inj h
    exact .quiet (.tick s)
  next c rest _ =>
    exact .after (exec_moves h) (.quiet (.setPending _ _))

end Sys2Proof.Machine
end

section
/-! What the booking and the hall keep of the bus and the peer table, and the configuration record of a running station. -/

namespace Sys2Proof.Machine

/-! ### The bus through the bookings -/

/-- Of the bus, the ASK frame and the wait alone change. -/
def AsksFrame (b b' : BusController) : Prop := ∃ ask wait, b' = { b with ask := ask, waitFrom := wait }

@[refl] theorem AsksFrame.refl (b : BusController) : AsksFrame b b := ⟨_, _, rfl⟩

theorem AsksFrame.trans {a b c : BusController} (h : AsksFrame a b) (h' : AsksFrame b c) : AsksFrame a c := by
  obtain ⟨_, _, rfl⟩ := h
  obtain ⟨ask, wait, rfl⟩ := h'
  exact ⟨ask, wait, rfl⟩

/-- `AsksFrame.trans` with the last change first. -/
theorem AsksFrame.after {a b c : BusController} (h' : AsksFrame b c) (h : AsksFrame a b) : AsksFrame a c := h.trans h'

theorem AsksFrame.quiet {b b' : BusController} (h : AsksFrame b b') : BusQuiet b b' := by
  obtain ⟨_, _, rfl⟩ := h
  exact ⟨rfl, id, rfl, id, id, id, id, id, id⟩

theorem AsksFrame.state {b b' : BusController} (h : AsksFrame b b') : b'.state = b.state := h.quiet.state

theorem AsksFrame.sending {b b' : BusController} (h : AsksFrame b b') : b'.sending = b.sending := by
  obtain ⟨_, _, rfl⟩ := h
  rfl

theorem AsksFrame.gives {b b' : BusController} (h : AsksFrame b b') : b'.gives = b.gives := by
  obtain ⟨_, _, rfl⟩ := h
  rfl

theorem BusController.withdrawAsk_asks (b : BusController) : AsksFrame b b.withdrawAsk := by
  unfold BusController.withdrawAsk
  split
  · split
    · rfl
    · exact ⟨_, _, rfl⟩
  · rfl

theorem State.sendAsk_asks (s : State) (a : OpenAsk) : AsksFrame s.bus (s.sendAsk a).bus := ⟨_, _, rfl⟩

theorem State.openAsk_asks (s : State) (route day slot wanted : Nat) :
    AsksFrame s.bus (s.openAsk route day slot wanted).bus := by
  unfold State.openAsk
  dsimp only
  split
  · rfl
  · exact State.sendAsk_asks (s.setShare _) _

theorem State.askFor_asks (s : State) (b : Booking) (e : Entry) : AsksFrame s.bus (s.askFor b e).bus :=
  State.openAsk_asks _ _ _ _ _

theorem State.tryEntries_asks (n : Nat) (s : State) (b : Booking) : AsksFrame s.bus (State.tryEntries n s b).bus := by
  induction n generalizing s b with
  | zero => rfl
  | succ n ih =>
    unfold State.tryEntries
    split
    · rfl
    split
    · rfl
    split
    · exact s.askFor_asks _ _
    · exact ih _ _

theorem State.tryCurrent_asks (s : State) : AsksFrame s.bus s.tryCurrent.bus := by
  unfold State.tryCurrent
  split
  · split
    · rfl
    · exact State.tryEntries_asks _ _ _
  · rfl

theorem State.serveFor_asks (n : Nat) (s : State) : AsksFrame s.bus (State.serveFor n s).bus := by
  induction n generalizing s with
  | zero => rfl
  | succ n ih =>
    unfold State.serveFor
    split
    next r rest _ _ =>
      exact (State.tryCurrent_asks (s.setDispatch
        { s.dispatch with line := rest, current := some (s.dispatch.start r) })).trans (ih _)
    next => rfl

theorem State.serveLine_asks (s : State) : AsksFrame s.bus s.serveLine.bus := State.serveFor_asks _ _

theorem State.bookings_asks (s : State) : AsksFrame s.bus s.bookings.bus :=
  s.tryCurrent_asks.trans (State.serveLine_asks _)

theorem State.quotesDue_bus (s was : State) : (s.quotesDue was).bus = s.bus := by
  obtain ⟨q, rs, h⟩ := s.quotesDue_frame was
  rw [h]

theorem State.quotesDue_asks (s was : State) : AsksFrame s.bus (s.quotesDue was).bus := by
  rw [State.quotesDue_bus]

theorem State.closeAsk_asks (s : State) : AsksFrame s.bus s.closeAsk.bus := by
  unfold State.closeAsk
  split
  · rfl
  · dsimp only
    split
    · exact s.bus.withdrawAsk_asks.trans ⟨_, _, rfl⟩
    · rfl

theorem State.reportAskEnd_asks (s : State) : AsksFrame s.bus s.reportAskEnd.bus := by
  unfold State.reportAskEnd
  split
  next b _ =>
    split
    · exact State.bookings_asks (s.setDispatch { s.dispatch with current := some { b with asking := false } })
    · rfl
  next => rfl

theorem State.endAskSince_asks (s was : State) : AsksFrame s.bus (s.endAskSince was).bus := by
  unfold State.endAskSince
  split
  · exact (s.closeAsk_asks.trans (State.reportAskEnd_asks _)).trans (State.quotesDue_asks _ _)
  · rfl

theorem State.askEnding_asks (s : State) (e : Ending) : AsksFrame s.bus (s.askEnding e).bus := by
  unfold State.askEnding
  split
  · rfl
  · split
    · exact s.sendAsk_asks _
    · rfl
    · exact s.closeAsk_asks.trans (State.reportAskEnd_asks _)
    · exact s.closeAsk_asks.trans (State.reportAskEnd_asks _)
    · rfl
    · rfl
    · rfl

/-- Step 3 of a closing on the share agent and the bus. -/
theorem State.closeAskFor_asks (s : State) (route day slot : Nat) :
    AsksFrame s.bus (s.closeAskFor route day slot).bus := by
  have hroll : ∀ t : State, (t.rollClosed route day slot).bus = t.bus := by
    intro t
    unfold State.rollClosed
    split
    · split
      · dsimp only
        split <;> rfl
      · rfl
    · rfl
  unfold State.closeAskFor
  rw [hroll]
  split
  · exact s.closeAsk_asks
  · rfl

/-- A closing changes the bus by its GIVEs and its ASK frame alone. -/
theorem State.closeHead_bus (s : State) (route : Nat) (e : Entry) :
    AsksFrame (s.bus.withdrawGives (fun g => g.names route e.day e.slot)) (s.closeHead route e).bus :=
  AsksFrame.trans ⟨_, _, rfl⟩ (State.closeAskFor_asks ((s.setDispatch (s.dispatch.expire e.held)).putBus
    (s.bus.withdrawGives (fun g => g.names route e.day e.slot))) route e.day e.slot)

/-! ### The station in the hall -/

/-- The station keeps its number and its peers' numbers, begins no attempt, and stays in OFF or out of it. -/
structure StaysInHall (s t : State) : Prop where
  loader : t.loader = s.loader
  stations : t.peers.peers.map Peer.station = s.peers.peers.map Peer.station
  sending : s.bus.sending = none → t.bus.sending = none
  state : t.bus.state = s.bus.state ∨ (s.bus.state ≠ .off ∧ t.bus.state ≠ .off)

@[refl] theorem StaysInHall.refl (s : State) : StaysInHall s s := ⟨rfl, rfl, id, .inl rfl⟩

theorem StaysInHall.trans {a b c : State} (h : StaysInHall a b) (h' : StaysInHall b c) : StaysInHall a c := by
  refine ⟨h'.loader.trans h.loader, h'.stations.trans h.stations, h'.sending ∘ h.sending, ?_⟩
  obtain hs | ⟨hs, ht⟩ := h.state <;> obtain hs' | ⟨hs', ht'⟩ := h'.state
  · exact .inl (hs'.trans hs)
  · exact .inr ⟨hs ▸ hs', ht'⟩
  · exact .inr ⟨hs, hs' ▸ ht⟩
  · exact .inr ⟨hs, ht'⟩

/-- `StaysInHall.trans` with the last change first. -/
theorem StaysInHall.after {a b c : State} (h' : StaysInHall b c) (h : StaysInHall a b) : StaysInHall a c := h.trans h'

theorem StaysInHall.of_books {s t : State} (h : BooksFrame s t) (hb : AsksFrame s.bus t.bus) : StaysInHall s t :=
  ⟨h.loader, by rw [h.peers], fun hs => hb.sending.trans hs, .inl hb.state⟩

theorem StaysInHall.of_belt {s t : State} (h : BeltFrame s t) : StaysInHall s t :=
  ⟨h.loader, by rw [h.peers], fun hs => by rw [h.bus, hs], .inl (by rw [h.bus])⟩

theorem StaysInHall.setBus (s : State) {b : BusController} (hsending : s.bus.sending = none → b.sending = none)
    (hstate : b.state = s.bus.state) : StaysInHall s (s.setBus b) := ⟨rfl, rfl, hsending, .inl hstate⟩

/-- Entering a state sets it, its timers and the PRESENCE, and ends the wait. -/
theorem BusController.enter_frame (b : BusController) (l : Loader) (now : Nat) (st : BusState) :
    ∃ presence listen gather present active quiet, b.enter l now st =
      { b with
        state := st, presence := presence, listenDue := listen, gatherDue := gather, presenceDue := present,
        activeDue := active, quietDue := quiet, waitFrom := none } := by
  unfold BusController.enter
  cases st
  case announce =>
    obtain ⟨p, hp⟩ := BusController.queuePresence_frame { b.leave with state := .announce } true
    exact ⟨_, _, _, _, _, _, hp⟩
  case active =>
    obtain ⟨p, hp⟩ := BusController.queuePresence_frame { b.leave with state := .active } false
    exact ⟨p, _, _, _, _, _, by dsimp only; rw [hp]; rfl⟩
  all_goals exact ⟨_, _, _, _, _, _, rfl⟩

theorem BusController.enter_sending (b : BusController) (l : Loader) (now : Nat) (st : BusState) :
    (b.enter l now st).sending = b.sending := by
  obtain ⟨_, _, _, _, _, _, h⟩ := b.enter_frame l now st
  rw [h]

theorem BusController.enter_gives (b : BusController) (l : Loader) (now : Nat) (st : BusState) :
    (b.enter l now st).gives = b.gives := by
  obtain ⟨_, _, _, _, _, _, h⟩ := b.enter_frame l now st
  rw [h]

theorem State.enterBus_state (s : State) (st : BusState) : (s.enterBus st).bus.state = st :=
  s.bus.enter_state s.loader s.timer.ms st

theorem State.enterBus_sending (s : State) (st : BusState) : (s.enterBus st).bus.sending = s.bus.sending :=
  s.bus.enter_sending s.loader s.timer.ms st

theorem State.enterBus_gives (s : State) (st : BusState) : (s.enterBus st).bus.gives = s.bus.gives :=
  s.bus.enter_gives s.loader s.timer.ms st

theorem StaysInHall.enterBus {s : State} {st : BusState} (hs : s.bus.state ≠ .off) (hst : st ≠ .off) :
    StaysInHall s (s.enterBus st) :=
  ⟨rfl, rfl, fun h => (s.enterBus_sending st).trans h, .inr ⟨hs, by rwa [s.enterBus_state]⟩⟩

theorem StaysInHall.raiseBus (s : State) : StaysInHall s s.raiseBus := by
  obtain ⟨k, -, h⟩ := s.raiseBus_frame
  rw [h]
  exact ⟨rfl, rfl, id, .inl rfl⟩

theorem StaysInHall.changeBus {s : State} {st : BusState} (hs : s.bus.state ≠ .off) (hst : st ≠ .off) :
    StaysInHall s (s.changeBus st) := .after (.raiseBus _) (.enterBus hs hst)

theorem State.giveEnding_bus (s : State) (g : TxGive) (e : Ending) : (s.giveEnding g e).bus = s.bus := by
  unfold State.giveEnding
  dsimp only
  split <;> split <;> rfl

theorem State.giveEnding_stations (s : State) (g : TxGive) (e : Ending) :
    (s.giveEnding g e).peers.peers.map Peer.station = s.peers.peers.map Peer.station := by
  have h : (s.giveEnding g e).peers = s.peers ∨ (s.giveEnding g e).peers =
      s.peers.update g.target (fun p => { p with given := satAdd 65535 p.given g.units }) := by
    unfold State.giveEnding
    dsimp only
    split <;> split
    · exact .inr rfl
    · exact .inr rfl
    · exact .inl rfl
    · exact .inl rfl
  obtain h | h := h
  · rw [h]
  · rw [h]
    exact PeerTable.update_stations _ _ fun _ => rfl

theorem StaysInHall.giveEnding (s : State) (g : TxGive) (e : Ending) : StaysInHall s (s.giveEnding g e) :=
  ⟨(s.giveEnding_halls g e).loader, s.giveEnding_stations g e, fun h => by rw [s.giveEnding_bus, h],
   .inl (by rw [s.giveEnding_bus])⟩

theorem StaysInHall.dropGives (gs : List TxGive) (s : State) : StaysInHall s (State.dropGives gs s) := by
  induction gs generalizing s with
  | nil => exact .refl s
  | cons g rest ih => exact (StaysInHall.giveEnding s g _).trans (ih _)

theorem StaysInHall.emptyQueue (s : State) : StaysInHall s s.emptyQueue :=
  .after (.dropGives _ _) (.setBus s (fun _ => rfl) rfl)

theorem State.dropGives_bus (gs : List TxGive) (s : State) : (State.dropGives gs s).bus = s.bus := by
  induction gs generalizing s with
  | nil => rfl
  | cons g rest ih => exact (ih _).trans (s.giveEnding_bus g _)

theorem State.emptyQueue_bus (s : State) : s.emptyQueue.bus =
    { s.bus with gives := [], ask := none, presence := none, sending := none, waitFrom := none } :=
  State.dropGives_bus _ _

theorem StaysInHall.endAskSince (s was : State) : StaysInHall s (s.endAskSince was) :=
  .of_books (s.endAskSince_books was) (s.endAskSince_asks was)

theorem StaysInHall.quotesDue (s was : State) : StaysInHall s (s.quotesDue was) :=
  .of_books (s.quotesDue_books was) (s.quotesDue_asks was)

theorem StaysInHall.enterFailed {s : State} (was : State) (hs : s.bus.state ≠ .off) :
    StaysInHall s (s.enterFailed was) :=
  .after (.raiseBus _) (.after (.endAskSince _ _) (.after (.emptyQueue _) (.enterBus hs (by simp))))

theorem StaysInHall.quietTrigger {s : State} (was : State) (hs : s.bus.state ≠ .off) :
    StaysInHall s (s.quietTrigger was) := by
  unfold State.quietTrigger
  dsimp only
  split
  · exact .after (.endAskSince _ _) (.after (.emptyQueue _) (.after (.changeBus hs (by simp)) (.setBus s id rfl)))
  · exact .after (.enterFailed was hs) (.setBus s id rfl)

theorem StaysInHall.queuePresence (s : State) (join : Bool) : StaysInHall s (s.putBus (s.bus.queuePresence join)) := by
  obtain ⟨p, hp⟩ := s.bus.queuePresence_frame join
  rw [hp]
  exact ⟨rfl, rfl, id, .inl rfl⟩

theorem StaysInHall.handBack (s : State) (was : BusController) (k : TxKind) (e : Ending) :
    StaysInHall s (s.handBack was k e) := by
  unfold State.handBack
  split
  · split
    · exact .giveEnding _ _ _
    · rfl
  · exact .of_books (s.askEnding_books e) (s.askEnding_asks e)
  · split
    · split
      next hjoin =>
        have hs : s.bus.state ≠ .off := by
          simp only [Bool.and_eq_true, beq_iff_eq] at hjoin
          simp [hjoin.2]
        split
        · exact .changeBus hs (by simp)
        · exact .changeBus hs (by simp)
        · exact .queuePresence _ _
        · rfl
        · rfl
      next => rfl
    · rfl

theorem StaysInHall.offeredLeaves (s : State) (k : TxKind) : StaysInHall s (s.putBus (s.bus.offeredLeaves k)) :=
  ⟨rfl, rfl, fun _ => rfl, .inl rfl⟩

/-- What follows once the frame offered has left the queue. -/
theorem State.endFrame_stays (s : State) (k : TxKind) (e : Ending) :
    StaysInHall (s.putBus (s.bus.offeredLeaves k)) (s.endFrame k e) :=
  .after (.quotesDue _ _) (.handBack _ _ _ _)

theorem StaysInHall.endFrame (s : State) (k : TxKind) (e : Ending) : StaysInHall s (s.endFrame k e) :=
  .after (s.endFrame_stays k e) (.offeredLeaves s k)

theorem StaysInHall.state_ne_off {s t : State} (h : StaysInHall s t) (hs : s.bus.state ≠ .off) : t.bus.state ≠ .off := by
  obtain h | ⟨-, h⟩ := h.state
  · rwa [h]
  · exact h

/-- What becomes of an abandoned frame (R117, R122): below four in a row its ending is handed back; at the fourth the
QUIET trigger follows, the QUOTEs due before it or with it. -/
theorem State.abandon_cases (s : State) (k : TxKind) :
    let s1 := s.setBus { s.bus with consecutive := s.bus.consecutive + 1 }
    (s.bus.consecutive + 1 < 4 ∧ s.abandon k = s1.endFrame k .abandoned) ∨
      (4 ≤ s.bus.consecutive + 1 ∧ ∃ s2 s3,
        s2 = (s1.putBus (s1.bus.offeredLeaves k)).handBack
          { s1.bus with presence := if k = .presence then none else s1.bus.presence } k .abandoned ∧
        (s3 = s2 ∨ s3 = s2.quotesDue s) ∧ s.abandon k = s3.quietTrigger s) := by
  intro s1
  by_cases h : s.bus.consecutive + 1 < 4
  · exact .inl ⟨h, if_pos h⟩
  · exact .inr ⟨by omega, _, _, rfl, ite_eq_or_eq _ _ _, if_neg h⟩

theorem StaysInHall.abandon {s : State} (k : TxKind) (hs : s.bus.state ≠ .off) : StaysInHall s (s.abandon k) := by
  have hcount : StaysInHall s (s.setBus { s.bus with consecutive := s.bus.consecutive + 1 }) := .setBus s id rfl
  obtain ⟨-, h⟩ | ⟨-, s2, s3, h2, h3, h⟩ := s.abandon_cases k
  · exact h ▸ hcount.trans (.endFrame _ _ _)
  · have stays2 : StaysInHall s s2 := by
      rw [h2]
      exact .after (.handBack _ _ _ _) (.after (.offeredLeaves _ k) hcount)
    have stays3 : StaysInHall s s3 := by
      obtain rfl | rfl := h3
      · exact stays2
      · exact stays2.trans (.quotesDue _ _)
    exact h ▸ stays3.trans (.quietTrigger _ (stays3.state_ne_off hs))

/-- What follows once a failed attempt has been counted. -/
theorem State.failAttempt_stays {s : State} (k : TxKind) (hs : s.bus.state ≠ .off) :
    StaysInHall (s.putBus (s.bus.countFail k)) (s.failAttempt k) := by
  unfold State.failAttempt
  dsimp only
  split
  · rfl
  · exact .abandon k hs

/-! ### The configuration record of a running station -/

theorem firstFail_eq_none_iff (checks : List (Nat × Bool)) : firstFail checks = none ↔ ∀ c ∈ checks, c.2 = true := by
  simp [firstFail]

theorem recordFault_none {bs : List Byte} (h : recordFault bs = none) :
    81 ≤ bs.length ∧ ∀ c ∈ recordChecks bs, c.2 = true := by
  unfold recordFault at h
  split at h
  · cases h
  next hlen =>
    split at h
    · cases h
    split at h
    · cases h
    split at h
    · cases h
    next hnone =>
      simp only [Config.recordLen] at hlen
      exact ⟨by omega, (firstFail_eq_none_iff _).1 hnone⟩

theorem within_iff (lo hi n : Nat) : within lo hi n = true ↔ lo ≤ n ∧ n ≤ hi := by
  simp [within]

/-- A byte of a record that was read whole is the byte read (R192). -/
theorem Loader.u8_of_lt {l : Loader} {off : Nat} (h : off < l.active.length) : l.u8 off = byteAt l.active off := by
  simp [Loader.u8, byteAt, List.getD_eq_getElem?_getD, List.getElem?_eq_getElem h]

theorem Loader.read_running {l : Loader} {answered : Nat} (h : (l.read answered).station = .running) :
    recordFault (l.read answered).active = none := by
  unfold Loader.read at h ⊢
  dsimp only at h ⊢
  split at h
  next hnone => exact Option.isNone_iff_eq_none.1 hnone
  next => cases h

theorem Loader.stationNo_of_running {l : Loader} {answered : Nat} (h : (l.read answered).station = .running) :
    1 ≤ (l.read answered).stationNo ∧ (l.read answered).stationNo ≤ 32 := by
  obtain ⟨hlen, hchecks⟩ := recordFault_none (Loader.read_running h)
  have hstation := hchecks (1, within 1 32 (byteAt (l.read answered).active 1)) (by simp [recordChecks])
  rw [Loader.stationNo, Loader.u8_of_lt (by omega)]
  exact (within_iff _ _ _).1 hstation

end Sys2Proof.Machine
end

section
/-! The starts, block by block, and what every step keeps of the memories, the printer and the hall (O56). -/

namespace Sys2Proof.Machine

/-! ### The starts -/

theorem State.startScanner_frame (s : State) : ∃ p, s.startScanner = s.setPlate p := by
  unfold State.startScanner
  split
  · exact ⟨_, rfl⟩
  · exact ⟨s.plate, rfl⟩

theorem State.startBus_halls (s : State) : HallFrame s s.startBus := by
  unfold State.startBus
  split
  · constructor <;> rfl
  · exact s.changeBus_halls _

/-- A start changes the plate, the bus and what the link notes. -/
theorem State.started_halls (s : State) : ∃ p, HallFrame (s.setPlate p) s.startScanner.startBus := by
  obtain ⟨p, hp⟩ := s.startScanner_frame
  exact ⟨p, hp ▸ State.startBus_halls _⟩

theorem State.started_loader (s : State) : s.startScanner.startBus.loader = s.loader := by
  obtain ⟨p, h⟩ := s.started_halls
  exact h.loader

theorem State.started_store (s : State) : s.startScanner.startBus.store = s.store := by
  obtain ⟨p, h⟩ := s.started_halls
  exact h.store

theorem State.started_label (s : State) : s.startScanner.startBus.label = s.label := by
  obtain ⟨p, h⟩ := s.started_halls
  exact h.label

theorem State.changeBus_keeps (s : State) (st : BusState) :
    (s.changeBus st).dispatch = s.dispatch ∧ (s.changeBus st).queue = s.queue ∧ (s.changeBus st).share = s.share ∧
      (s.changeBus st).peers = s.peers ∧
      (s.changeBus st).bus = { (s.enterBus st).bus with changed := true } := by
  obtain ⟨k, -, h⟩ := State.raiseBus_frame (s.enterBus st)
  rw [State.changeBus, h]
  exact ⟨rfl, rfl, rfl, rfl, rfl⟩

/-- A start leaves the records, the rings, the share agent and the peers, and puts the bus into its state. -/
theorem State.started_keeps (s : State) :
    s.startScanner.startBus.dispatch = s.dispatch ∧ s.startScanner.startBus.queue = s.queue ∧
      s.startScanner.startBus.share = s.share ∧ s.startScanner.startBus.peers = s.peers ∧
      ∃ changed, s.startScanner.startBus.bus =
        { (s.enterBus s.loader.startBus).bus with changed := changed } := by
  obtain ⟨p, hp⟩ := s.startScanner_frame
  rw [hp]
  unfold State.startBus
  split
  · exact ⟨rfl, rfl, rfl, rfl, _, rfl⟩
  · obtain ⟨hd, hq, hsh, hpe, hb⟩ := State.changeBus_keeps (s.setPlate p) (s.setPlate p).loader.startBus
    exact ⟨hd, hq, hsh, hpe, true, hb⟩

/-- The state that a POWER_ON brings before its scanner and its bus start. -/
def State.loaded (s : State) (answered : Nat) (cellA cellB imageRead : Bool) (beam : Beam) (faultLine : Bool) : State :=
  let s1 := (s.poweredUp beam faultLine).loadConfig answered cellA cellB
  s1.setStore (s1.store.load imageRead)

section PowerOn
variable (s : State) (answered : Nat) (cellA cellB imageRead : Bool) (beam : Beam) (faultLine : Bool)

theorem State.powerOn_eq : s.powerOn answered cellA cellB imageRead beam faultLine =
    (s.loaded answered cellA cellB imageRead beam faultLine).printerSettle.startScanner.startBus := rfl

theorem State.powerOn_loader : (s.powerOn answered cellA cellB imageRead beam faultLine).loader =
    (s.poweredUp beam faultLine).loader.read answered := by
  rw [State.powerOn_eq, State.started_loader, (State.printerSettle_prints _).loader]
  simp [State.loaded, State.loadConfig]

theorem State.powerOn_store : (s.powerOn answered cellA cellB imageRead beam faultLine).store =
    (s.poweredUp beam faultLine).store.load imageRead := by
  rw [State.powerOn_eq, State.started_store, (State.printerSettle_prints _).store]
  simp [State.loaded, State.loadConfig]

end PowerOn

/-- The state that a restart brings before its scanner and its bus start. -/
def State.cleared (s : State) (answered : Nat) : State :=
  let s1 := s.ceaseWrites
  let s2 := ((s1.setLoader (s1.loader.read answered)).emptied).restartValues
  (s2.setLink (s2.link.restarted s2.loader)).printerSettle

theorem State.restart_eq (s : State) (answered : Nat) :
    s.restart answered = (s.cleared answered).startScanner.startBus.restartCell := rfl

theorem Quiet.restartCell (s : State) : Quiet s s.restartCell := by
  unfold State.restartCell
  split
  · exact .setLoader _ ⟨id, rfl, rfl⟩
  · rfl

theorem State.emptied_halls (s : State) : HallFrame s s.emptied := by
  have hrelease : ∀ (ps : List Parcel) (d : DispatchTable), (releaseAll d ps).clock = d.clock := by
    intro ps
    induction ps with
    | nil => exact fun _ => rfl
    | cons p ps ih =>
      intro d
      obtain ⟨rs, h⟩ := d.release_frame p
      exact (ih _).trans (by rw [h])
  have hstart : HallFrame s ((s.setDispatch
      (releaseAll { s.dispatch with line := [], current := none } s.queue.parcels)).setQueue
      { s.queue with parcels := [] }) := by
    constructor
    case clock => exact hrelease _ _
    all_goals rfl
  exact (hstart.trans (State.emptyQueue_halls _)).trans (by constructor <;> rfl)

theorem State.cleared_loader (s : State) (answered : Nat) :
    (s.cleared answered).loader = s.ceaseWrites.loader.read answered := by
  rw [State.cleared, (State.printerSettle_prints _).loader]
  simp [State.restartValues, (State.emptied_halls _).loader]

theorem State.cleared_store (s : State) (answered : Nat) :
    (s.cleared answered).store = s.ceaseWrites.store.restarted := by
  rw [State.cleared, (State.printerSettle_prints _).store]
  simp [State.restartValues, (State.emptied_halls _).store]

theorem Loader.read_mem (l : Loader) (answered : Nat) : (l.read answered).mem = l.mem := rfl

theorem State.poweredUp_loader_mem (s : State) (beam : Beam) (faultLine : Bool) :
    (s.poweredUp beam faultLine).loader.mem = s.loader.mem := rfl

/-! ### The memories -/

theorem ImageStore.load_mem (t : ImageStore) (imageRead : Bool) : (t.load imageRead).mem = t.mem := by
  unfold ImageStore.load
  cases imageRead
  · rfl
  · simp only [if_true]
    generalize imageFault _ = f
    cases f <;> rfl

theorem State.poweredUp_store_mem (s : State) (beam : Beam) (faultLine : Bool) :
    (s.poweredUp beam faultLine).store.mem = s.store.mem := rfl

theorem State.MemoriesOk.quiet {s t : State} (h : s.MemoriesOk) (hq : Quiet s t) : t.MemoriesOk :=
  ⟨hq.loader.mem h.1, hq.store.mem h.2⟩

theorem State.MemoriesOk.of_eq {s t : State} (h : s.MemoriesOk) (hl : t.loader = s.loader) (hs : t.store = s.store) :
    t.MemoriesOk := ⟨hl ▸ h.1, hs ▸ h.2⟩

theorem State.MemoriesOk.halls {s t : State} (h : s.MemoriesOk) (hf : HallFrame s t) : t.MemoriesOk :=
  h.of_eq hf.loader hf.store

theorem State.MemoriesOk.belts {s t : State} (h : s.MemoriesOk) (hf : BeltFrame s t) : t.MemoriesOk :=
  h.of_eq hf.loader hf.store

/-- The void of a record leaves the loader, the store and the outfeed. -/
theorem State.voidEffect_loader (s : State) (p : Parcel) : (s.voidEffect p).loader = s.loader := by
  have hrelease : ∀ t : State, (t.release p).loader = t.loader := fun _ => rfl
  unfold State.voidEffect
  split
  · rfl
  · exact ((State.quotesDue_books _ _).loader.trans (State.serveFor_books _ _).loader).trans s.closeAsk_books.loader
  · split <;> rfl
  · exact (State.discardLabel_prints _ _).loader
  all_goals rfl

theorem State.voidEffect_store (s : State) (p : Parcel) : (s.voidEffect p).store = s.store := by
  unfold State.voidEffect
  split
  · rfl
  · exact ((State.quotesDue_books _ _).store.trans (State.serveFor_books _ _).store).trans s.closeAsk_books.store
  · split <;> rfl
  · exact (State.discardLabel_prints _ _).store
  all_goals rfl

/-- What a forward step of the clock keeps, as the bookings do, but the label unit's serial and its cell write. -/
theorem State.stepForward_keeps (s : State) (c new : ClockTime) (d : Nat) :
    ∃ s1 s2, BooksFrame s s1 ∧ Quiet s1 s2 ∧ (s2 = s1 ∨ s2 = s1.labelDay new.day) ∧
      s.stepForward c new d = (s2.setDispatch { s2.dispatch with clock := some new }).bookings.quotesDue s := by
  refine ⟨State.closeSpan closingLimit s c d, _, State.closeSpan_books _ _ _ _, ?_, ite_eq_or_eq _ _ _, rfl⟩
  split
  · rfl
  · exact .labelDay _ _

theorem State.editionChange_stores (s : State) (g : Image) :
    (s.editionChange g).loader = s.loader ∧ (s.editionChange g).store = { s.store with image := some g } := by
  have hpeers : ∀ t : State, t.recomputePeers.loader = t.loader ∧ t.recomputePeers.store = t.store := by
    intro t
    unfold State.recomputePeers
    dsimp only
    split
    · exact ⟨rfl, rfl⟩
    · obtain ⟨k, -, h⟩ := State.raisePeer_frame
        (t.setPeers { t.peers with peers := t.peers.peers.map (Peer.recompute t.store.edition) })
      rw [h]
      exact ⟨rfl, rfl⟩
  unfold State.editionChange
  dsimp only
  refine (hpeers _).imp (·.trans ?_) (·.trans ?_)
  all_goals dsimp only [State.setStore_dispatch]; split <;> rfl

theorem Move.keeps_memories {s t : State} (h : Move s t) (hs : s.MemoriesOk) : t.MemoriesOk := by
  induction h with
  | quiet h => exact hs.quiet h
  | trans _ _ ih ih' => exact ih' (ih hs)
  | powerOn s answered cellA cellB imageRead beam faultLine =>
    refine ⟨?_, ?_⟩
    · rw [State.powerOn_loader, Loader.read_mem, State.poweredUp_loader_mem]
      exact hs.1
    · rw [State.powerOn_store, ImageStore.load_mem, State.poweredUp_store_mem]
      exact hs.2
  | restart s answered =>
    have hceased := hs.quiet (.ceaseWrites s)
    refine State.MemoriesOk.quiet (s := (s.cleared answered).startScanner.startBus) ⟨?_, ?_⟩ (.restartCell _)
    · rw [State.started_loader, State.cleared_loader, Loader.read_mem]
      exact hceased.1
    · rw [State.started_store, State.cleared_store]
      exact hceased.2
  | accept => exact hs
  | confirm => exact hs
  | void =>
    refine State.MemoriesOk.of_eq ?_ (State.voidEffect_loader _ _) (State.voidEffect_store _ _)
    exact hs.belts (State.endParcel_belts _ _ _ _)
  | plateTimeout => exact hs.belts (State.endParcel_belts _ _ _ _)
  | placeOwed s =>
    obtain ⟨q, rs, h⟩ := s.placeOwed_frame
    exact h ▸ hs
  | firstClock => exact hs
  | forward d _ _ =>
    obtain ⟨s1, s2, hbooks, hquiet, -, h⟩ := State.stepForward_keeps _ _ _ d
    have h2 := (hs.halls hbooks.hall).quiet hquiet
    rw [h]
    refine State.MemoriesOk.halls ?_ ((State.bookings_books _).trans (State.quotesDue_books _ _)).hall
    exact h2.of_eq rfl rfl
  | cutOff =>
    exact hs.halls (((State.closeHead_books _ _ _).trans (State.bookings_books _)).trans
      (State.quotesDue_books _ _)).hall
  | @imageStored s _ =>
    obtain ⟨hl, hst⟩ := State.editionChange_stores (s.setStore
      { s.store with
        mem := s.store.mem.writeBytes 0 s.store.staged, staging := .idle, staged := [], fault := none }) s.store.staged
    exact ⟨hl ▸ hs.1, hst ▸ Memory.wf_writeBytes _ _ hs.2⟩
  | changeBus => exact hs.halls (State.changeBus_halls _ _)
  | plateCleared => exact hs
  | settle => exact hs
  | handOver d _ =>
    unfold State.measurementHandOver
    dsimp only
    split
    · refine State.MemoriesOk.belts ?_ (State.endParcel_belts _ _ _ _)
      exact hs
    · refine State.MemoriesOk.halls ?_ ((State.serveFor_books _ _).trans (State.quotesDue_books _ _)).hall
      exact hs
  | failAttempt => exact hs.halls (State.failAttempt_halls _ _)
  | endFrame => exact hs.halls (State.endFrame_halls _ _ _)
  | meet => exact hs
  | takeAsk s p =>
    unfold State.takeAsk
    split
    · exact hs
    · split
      · exact hs
      · exact hs
  | applyUnits => exact hs
  | endAsk => exact hs.halls (State.endAskSince_books _ _).hall
  | enterFailed => exact hs.halls (State.enterFailed_halls _ _)
  | breakTaken => exact hs.belts (State.breakTaken_belts _ _)
  | makeTaken => exact hs.belts (State.makeTaken_belts _ _)
  | carryOut =>
    refine State.MemoriesOk.belts ?_ (State.carry_belts _ _)
    exact hs
  | clearIn =>
    refine State.MemoriesOk.belts ?_ (State.makeAction_belts _ _)
    exact hs
  | jam =>
    refine State.MemoriesOk.belts ?_ (State.rejectOnBelt_belts _ _ _)
    exact hs
  | printFailed => exact hs.belts (State.printFailed_prints _).belt

end Sys2Proof.Machine
end

section
/-! What every step keeps of the printer and of the hall, and with the memories the whole of O56. -/

namespace Sys2Proof.Machine

/-! ### The label unit through the belt -/

theorem LabelUnit.Accords.printerOk {s : State} : s.PrinterOk ↔ s.label.Accords := Iff.rfl

theorem State.endParcel_label (s : State) (p : Parcel) (o : EndOutcome) (r : Option Reason) :
    (s.endParcel p o r).label = s.label := by
  obtain ⟨-, h⟩ | ⟨-, h⟩ := s.endParcel_cases p o r <;> rw [h]

theorem LabelQuiet.rejectOnBelt (s : State) (p : Parcel) (r : Reason) :
    LabelQuiet s.label (s.rejectOnBelt p r).label := by
  unfold State.rejectOnBelt
  exact .after (Quiet.discardLabel _ _).label (.of_eq (s.endParcel_label p .rejected (some r)))

theorem LabelQuiet.carry (s : State) (a : Action) : LabelQuiet s.label (s.carry a).label := by
  have hends : ∀ (t : State) (p : Parcel), LabelQuiet t.label (t.endOnBelt p).label := by
    intro t p
    unfold State.endOnBelt
    split
    · exact .rejectOnBelt _ _ _
    · exact (LabelQuiet.of_eq (t.endParcel_label p .done none)).trans (Quiet.discardLabel _ _).label
  unfold State.carry
  split
  · unfold State.carryApply
    split
    next l hl =>
      split
      · refine .after (Quiet.slotEmptied _ fun ha => ?_).label (.refl _)
        exact ha.not_printing_of_slot (Option.isSome_iff_exists.2 ⟨l, hl⟩)
      · exact .after (Quiet.leavePrintOrder _ _).label (.refl _)
    next => exact .after (Quiet.leavePrintOrder _ _).label (.refl _)
  · rfl
  · unfold State.carryClear
    extract_lets s1 s2 s3
    have h3 : s3.label = s.label := by
      show s2.label = s.label
      unfold s2
      split <;> rfl
    split
    · exact (LabelQuiet.of_eq h3).trans (hends _ _)
    · exact .of_eq h3

theorem LabelQuiet.makeAction (s : State) (a : Action) : LabelQuiet s.label (s.makeAction a).label := by
  unfold State.makeAction
  split
  · exact .carry s a
  · rfl

theorem LabelQuiet.breakTaken (s : State) (e : Edge) : LabelQuiet s.label (s.breakTaken e).label := by
  have horphan : LabelQuiet s.label s.orphanBreak.label := by
    unfold State.orphanBreak
    split
    · rfl
    · dsimp only
      split
      · unfold State.closeShort
        exact .after (.rejectOnBelt _ _ _) (.refl _)
      · rfl
  refine horphan.trans ?_
  unfold State.breakTaken
  generalize s.orphanBreak = t
  dsimp only
  split
  next p _ =>
    unfold State.matchBreak
    extract_lets s1 _ s2 s3 s4
    have h3 : s3.label = t.label := by
      unfold s3
      split <;> rfl
    have h4 : s4.label = s3.label := by
      unfold s4 State.enterApply
      dsimp only
      split <;> rfl
    exact (LabelQuiet.of_eq (h4.trans h3)).trans (.makeAction _ _)
  next =>
    unfold State.unmatchedBreak
    dsimp only
    repeat' split
    all_goals rfl

theorem LabelQuiet.freed (s : State) : LabelQuiet s.label s.freed.label := by
  have hloop : ∀ (n : Nat) (t : State), LabelQuiet t.label (State.fillClears n t).label := by
    intro n
    induction n with
    | zero => exact fun t => .refl _
    | succ n ih =>
      intro t
      unfold State.fillClears
      split
      next rest _ =>
        split
        · exact .after (ih _) (.after (.makeAction _ _) (.refl _))
        · rfl
      next => rfl
  exact hloop _ s

theorem LabelQuiet.makeTaken (s : State) (e : Edge) : LabelQuiet s.label (s.makeTaken e).label := by
  have hmeasure : ∀ (p : Parcel) (p0 p1 : Count), LabelQuiet s.label (s.measureBelt p p0 p1).label := by
    intro p p0 p1
    unfold State.measureBelt
    extract_lets len s1 s2 pos
    have h2 : s2.label = s.label := by
      unfold s2
      split <;> rfl
    refine (LabelQuiet.of_eq h2).trans ?_
    split
    · exact .after (.freed _) (.makeAction _ _)
    · rfl
  unfold State.makeTaken
  split
  · rfl
  next x _ =>
    dsimp only
    cases x.tag.bind s.queue.beltRecord with
    | some p => exact hmeasure _ _ _
    | none => exact .refl _

theorem LabelQuiet.voidEffect (s : State) (p : Parcel) : LabelQuiet s.label (s.voidEffect p).label := by
  unfold State.voidEffect
  split
  case h_2 =>
    exact .of_eq (((State.quotesDue_books _ _).label.trans (State.serveFor_books _ _).label).trans
      s.closeAsk_books.label)
  case h_3 => split <;> rfl
  case h_4 => exact .after (Quiet.discardLabel _ _).label (.refl _)
  all_goals rfl

theorem State.stepForward_label (s : State) (c new : ClockTime) (d : Nat) :
    LabelQuiet s.label (s.stepForward c new d).label := by
  obtain ⟨s1, s2, hbooks, hquiet, -, h⟩ := s.stepForward_keeps c new d
  rw [h, (State.quotesDue_books _ _).label, (State.bookings_books _).label]
  exact (LabelQuiet.of_eq hbooks.label).trans hquiet.label

theorem State.measurementHandOver_label (s : State) (p : Parcel) (d : Dims) :
    (s.measurementHandOver p d).label = s.label := by
  unfold State.measurementHandOver
  dsimp only
  split
  · rw [State.endParcel_label]
    rfl
  · exact (State.quotesDue_books _ _).label.trans (State.serveFor_books _ _).label

theorem State.imageStored_label (s : State) (matched : Bool) : (s.imageStored matched).label = s.label := by
  have hpeers : ∀ t : State, t.recomputePeers.label = t.label := by
    intro t
    unfold State.recomputePeers
    dsimp only
    split
    · rfl
    · obtain ⟨k, -, h⟩ := State.raisePeer_frame
        (t.setPeers { t.peers with peers := t.peers.peers.map (Peer.recompute t.store.edition) })
      rw [h]
      rfl
  cases matched
  · rfl
  · refine (hpeers _).trans ?_
    dsimp only [State.setDispatch_label]
    split <;> rfl

/-! ### The printer -/

theorem LabelUnit.restarted_accords (u : LabelUnit) : u.restarted.Accords :=
  LabelUnit.Bare.accords ⟨rfl, rfl, rfl⟩ (by simp [LabelUnit.restarted]) (by simp [LabelUnit.restarted])

theorem Move.keeps_printer {s t : State} (h : Move s t) (hs : s.label.Accords) : t.label.Accords := by
  induction h with
  | quiet h => exact h.label.accords hs
  | trans _ _ ih ih' => exact ih' (ih hs)
  | powerOn s answered cellA cellB imageRead beam faultLine =>
    rw [State.powerOn_eq, State.started_label]
    refine (Quiet.printerSettle _).label.accords ?_
    exact LabelUnit.Bare.accords ⟨rfl, rfl, rfl⟩ (by simp [State.loaded, State.loadConfig, State.poweredUp, LabelUnit.powerOn])
      (by simp [State.loaded, State.loadConfig, State.poweredUp, LabelUnit.powerOn])
  | restart s answered =>
    refine (Quiet.restartCell _).label.accords ?_
    rw [State.started_label]
    exact (Quiet.printerSettle _).label.accords (LabelUnit.restarted_accords _)
  | accept => exact hs
  | confirm => exact hs
  | void =>
    refine (LabelQuiet.voidEffect _ _).accords ?_
    rwa [State.endParcel_label]
  | plateTimeout => rwa [State.endParcel_label]
  | placeOwed s =>
    obtain ⟨q, rs, h⟩ := s.placeOwed_frame
    exact h ▸ hs
  | firstClock => exact hs
  | forward d _ _ => exact (State.stepForward_label _ _ _ d).accords hs
  | cutOff =>
    rwa [(State.quotesDue_books _ _).label, (State.bookings_books _).label, (State.closeHead_books _ _ _).label]
  | imageStored => rwa [State.imageStored_label]
  | changeBus => rwa [(State.changeBus_halls _ _).label]
  | plateCleared => exact hs
  | settle => exact hs
  | handOver d _ => rwa [State.measurementHandOver_label]
  | failAttempt => rwa [(State.failAttempt_halls _ _).label]
  | endFrame => rwa [(State.endFrame_halls _ _ _).label]
  | meet => exact hs
  | takeAsk s p =>
    unfold State.takeAsk
    split
    · exact hs
    · split
      · exact hs
      · exact hs
  | applyUnits => exact hs
  | endAsk => rwa [State.endAsk, (State.endAskSince_books _ _).label]
  | enterFailed => rwa [(State.enterFailed_halls _ _).label]
  | breakTaken => exact (LabelQuiet.breakTaken _ _).accords hs
  | makeTaken => exact (LabelQuiet.makeTaken _ _).accords hs
  | carryOut => exact (LabelQuiet.carry _ _).accords hs
  | clearIn => exact (LabelQuiet.makeAction _ _).accords hs
  | jam => exact (LabelQuiet.rejectOnBelt _ _ _).accords hs
  | printFailed s =>
    unfold State.printFailed
    split
    next l hp hat =>
      rw [State.printerToFault_label]
      obtain ⟨-, -, hslot⟩ := hs
      exact LabelUnit.Bare.accords ⟨rfl, rfl, by simpa [hp, LabelUnit.waste] using hslot⟩ (by simp) (by simp)
    next => exact hs

end Sys2Proof.Machine
end

section
/-! What every step keeps of the hall, and with the memories and the printer the whole of O56. -/

namespace Sys2Proof.Machine

/-! ### The hall in order -/

/-- The numbers of the peers: ascending, each of another station of the hall (R134). -/
def StationsOk (own : Nat) (ns : List Nat) : Prop :=
  ns.Pairwise (· < ·) ∧ ∀ n ∈ ns, 1 ≤ n ∧ n ≤ 32 ∧ n ≠ own

theorem State.hallOk_iff (s : State) : s.HallOk ↔
    s.bus.SendsOk ∧ (s.bus.state ≠ .off → 1 ≤ s.loader.stationNo ∧ s.loader.stationNo ≤ 32) ∧
      (s.bus.state = .off → s.peers.peers.map Peer.station = []) ∧
      StationsOk s.loader.stationNo (s.peers.peers.map Peer.station) := by
  simp [State.HallOk, BusController.SendsOk, StationsOk, List.pairwise_map]

theorem State.HallOk.keeps {s t : State} (h : s.HallOk) (hown : t.loader.stationNo = s.loader.stationNo)
    (hstations : t.peers.peers.map Peer.station = s.peers.peers.map Peer.station) (hsends : t.bus.SendsOk)
    (hstate : t.bus.state = s.bus.state ∨ (s.bus.state ≠ .off ∧ t.bus.state ≠ .off)) : t.HallOk := by
  rw [State.hallOk_iff] at h ⊢
  obtain ⟨-, hnumber, hoff, hpeers⟩ := h
  rw [hown, hstations]
  refine ⟨hsends, fun ht => hnumber ?_, fun ht => hoff ?_, hpeers⟩
  · obtain he | ⟨hs, -⟩ := hstate
    · rwa [← he]
    · exact hs
  · obtain he | ⟨-, ht'⟩ := hstate
    · rwa [← he]
    · exact absurd ht ht'

theorem State.HallOk.stays {s t : State} (h : s.HallOk) (hst : StaysInHall s t) (hsends : t.bus.SendsOk) : t.HallOk :=
  h.keeps (by rw [hst.loader]) hst.stations hsends hst.state

theorem State.HallOk.quiet {s t : State} (h : s.HallOk) (hq : Quiet s t) : t.HallOk := by
  refine h.keeps ?_ hq.peers.stations (hq.bus.sending ((s.hallOk_iff.1 h).1)) (.inl hq.bus.state)
  rw [Loader.stationNo, Loader.stationNo, Loader.u8, Loader.u8, hq.loader.active, hq.loader.startNo]

theorem State.HallOk.same {s t : State} (h : s.HallOk) (hl : t.loader = s.loader) (hp : t.peers = s.peers)
    (hb : t.bus = s.bus) : t.HallOk :=
  h.keeps (by rw [hl]) (by rw [hp]) (hb ▸ (s.hallOk_iff.1 h).1) (.inl (by rw [hb]))

theorem State.HallOk.belts {s t : State} (h : s.HallOk) (hf : BeltFrame s t) : t.HallOk :=
  h.same hf.loader hf.peers hf.bus

theorem State.HallOk.books {s t : State} (h : s.HallOk) (hf : BooksFrame s t) (hb : AsksFrame s.bus t.bus) : t.HallOk :=
  h.stays (.of_books hf hb) (hb.quiet.sending (s.hallOk_iff.1 h).1)

theorem BusController.sendsOk_of_idle {b : BusController} (h : b.sending = none) : b.SendsOk := fun hs => absurd h hs

/-- Out of ACTIVE and ANNOUNCE a station sends nothing. -/
theorem State.HallOk.idle {s : State} (h : s.HallOk) (hactive : s.bus.state ≠ .active) (hannounce : s.bus.state ≠ .announce) :
    s.bus.sending = none := by
  by_contra hs
  obtain hst | hst := h.1 hs
  · exact hactive hst
  · exact hannounce hst

theorem StationsOk.insertPeer {own : Nat} {p : Peer} {ps : List Peer} (h : StationsOk own (ps.map Peer.station))
    (hnew : ∀ q ∈ ps, q.station ≠ p.station) (hlow : 1 ≤ p.station) (hhigh : p.station ≤ 32) (hother : p.station ≠ own) :
    StationsOk own ((Machine.insertPeer p ps).map Peer.station) := by
  obtain ⟨hasc, hall⟩ := h
  have hmem : ∀ (ps : List Peer) (n : Nat), n ∈ (Machine.insertPeer p ps).map Peer.station →
      n = p.station ∨ n ∈ ps.map Peer.station := by
    intro ps
    induction ps with
    | nil => simp [Machine.insertPeer]
    | cons q rest ih =>
      intro n hn
      unfold Machine.insertPeer at hn
      split at hn
      · simpa using hn
      · simp only [List.map_cons, List.mem_cons] at hn ⊢
        obtain hn | hn := hn
        · exact .inr (.inl hn)
        · exact (ih n hn).imp_right .inr
  refine ⟨?_, fun n hn => ?_⟩
  · clear hall
    induction ps with
    | nil => simp [Machine.insertPeer]
    | cons q rest ih =>
      simp only [List.map_cons, List.pairwise_cons] at hasc
      unfold Machine.insertPeer
      split
      next hlt =>
        simp only [List.map_cons, List.pairwise_cons, List.mem_cons]
        refine ⟨?_, hasc⟩
        rintro n (rfl | hn)
        · exact hlt
        · exact hlt.trans (hasc.1 n hn)
      next hge =>
        simp only [List.map_cons, List.pairwise_cons]
        refine ⟨fun n hn => ?_, ih (fun r hr => hnew r (List.mem_cons_of_mem _ hr)) hasc.2⟩
        obtain rfl | hn := hmem rest n hn
        · have := hnew q List.mem_cons_self
          omega
        · exact hasc.1 n hn
  · obtain rfl | hn := hmem ps n hn
    · exact ⟨hlow, hhigh, hother⟩
    · exact hall n hn

/-! ### The hall at the starts and through the larger moves -/

theorem State.emptyQueue_sending (s : State) : s.emptyQueue.bus.sending = none := by rw [s.emptyQueue_bus]

theorem Loader.startBus_ne_off {l : Loader} (h : l.startBus ≠ .off) : l.station = .running := by
  unfold Loader.startBus at h
  split at h
  next hr => exact hr
  next => exact absurd rfl h

/-- A start with no attempt in progress and no peer leaves the hall in order. -/
theorem State.started_hallOk {s : State} {answered : Nat} {l : Loader} (hl : s.loader = l.read answered)
    (hsending : s.bus.sending = none) (hpeers : s.peers.peers = []) : s.startScanner.startBus.HallOk := by
  obtain ⟨-, -, -, hp, changed, hb⟩ := s.started_keeps
  have hidle : s.startScanner.startBus.bus.sending = none := by
    rw [hb]
    exact (s.enterBus_sending _).trans hsending
  have hstate : s.startScanner.startBus.bus.state = s.loader.startBus := by
    rw [hb]
    exact s.enterBus_state _
  rw [State.hallOk_iff, hp, hpeers, s.started_loader, hstate, hl]
  exact ⟨BusController.sendsOk_of_idle hidle,
    fun h => Loader.stationNo_of_running (Loader.startBus_ne_off h), fun _ => rfl, List.Pairwise.nil, by simp⟩

theorem State.cleared_peers (s : State) (answered : Nat) : (s.cleared answered).peers.peers = [] := by
  rw [State.cleared, (State.printerSettle_prints _).peers]
  rfl

theorem State.cleared_sending (s : State) (answered : Nat) : (s.cleared answered).bus.sending = none := by
  rw [State.cleared, (State.printerSettle_prints _).bus]
  simp only [State.setLink_bus, State.restartValues, State.setBus_bus, BusController.restarted, BusController.leave]
  exact State.emptyQueue_sending _

theorem State.voidEffect_hall (s : State) (p : Parcel) :
    AsksFrame s.bus (s.voidEffect p).bus ∧ (s.voidEffect p).peers = s.peers := by
  unfold State.voidEffect
  split
  case h_2 =>
    refine ⟨?_, ((State.quotesDue_books _ _).peers.trans (State.serveFor_books _ _).peers).trans
      s.closeAsk_books.peers⟩
    exact .after (State.quotesDue_asks _ _) (.after (State.serveLine_asks _) s.closeAsk_asks)
  case h_3 => split <;> exact ⟨.refl _, rfl⟩
  case h_4 => exact ⟨by rw [(State.discardLabel_prints _ _).bus]; rfl, (State.discardLabel_prints _ _).peers⟩
  all_goals exact ⟨.refl _, rfl⟩

theorem State.closeHead_state (s : State) (route : Nat) (e : Entry) :
    (s.closeHead route e).bus.state = s.bus.state ∧ (s.closeHead route e).bus.sending = s.bus.sending :=
  ⟨(s.closeHead_bus route e).state, (s.closeHead_bus route e).sending⟩

theorem State.HallOk.closeHead {s : State} (h : s.HallOk) (route : Nat) (e : Entry) : (s.closeHead route e).HallOk := by
  obtain ⟨hstate, hsending⟩ := s.closeHead_state route e
  have hb := s.closeHead_books route e
  refine h.keeps (by rw [hb.loader]) (by rw [hb.peers]) ?_ (.inl hstate)
  unfold BusController.SendsOk
  rw [hstate, hsending]
  exact h.1

theorem State.HallOk.closeSpan {s : State} (h : s.HallOk) (n : Nat) (c : ClockTime) (d : Nat) :
    (State.closeSpan n s c d).HallOk := by
  induction n generalizing s with
  | zero => exact h
  | succ n ih =>
    unfold State.closeSpan
    split
    · exact ih (h.closeHead _ _)
    · exact h

theorem State.HallOk.bookings {s : State} (h : s.HallOk) (was : State) : (s.bookings.quotesDue was).HallOk :=
  h.books (s.bookings_books.trans (State.quotesDue_books _ _)) (s.bookings_asks.trans (State.quotesDue_asks _ _))

theorem State.recomputePeers_hall (s : State) :
    s.recomputePeers.loader = s.loader ∧ s.recomputePeers.bus = s.bus ∧
      s.recomputePeers.peers.peers.map Peer.station = s.peers.peers.map Peer.station := by
  have hmap : (s.peers.peers.map (Peer.recompute s.store.edition)).map Peer.station = s.peers.peers.map Peer.station := by
    rw [List.map_map]
    refine List.map_congr_left fun p _ => ?_
    simp only [Function.comp_apply, Peer.recompute]
    split <;> rfl
  unfold State.recomputePeers
  dsimp only
  split
  · exact ⟨rfl, rfl, hmap⟩
  · obtain ⟨k, -, h⟩ := State.raisePeer_frame
      (s.setPeers { s.peers with peers := s.peers.peers.map (Peer.recompute s.store.edition) })
    rw [h]
    exact ⟨rfl, rfl, hmap⟩

theorem State.HallOk.editionChange {s : State} (h : s.HallOk) (g : Image) : (s.editionChange g).HallOk := by
  unfold State.editionChange
  extract_lets _ s1 s2
  obtain ⟨hl, hb, hp⟩ := State.recomputePeers_hall (s2.setDispatch (s2.dispatch.rebuild s2.store))
  have h2 : s2.loader = s.loader ∧ s2.peers = s.peers ∧ s2.bus.state = s.bus.state ∧ s2.bus.sending = s.bus.sending := by
    unfold s2
    split <;> exact ⟨rfl, rfl, rfl, rfl⟩
  obtain ⟨hl2, hp2, hstate, hsending⟩ := h2
  refine h.keeps (by rw [hl, State.setDispatch_loader, hl2]) (by rw [hp, State.setDispatch_peers, hp2]) ?_
    (.inl (by rw [hb]; exact hstate))
  rw [hb]
  unfold BusController.SendsOk
  rw [State.setDispatch_bus, hstate, hsending]
  exact h.1

theorem State.enterFailed_sending (s was : State) : (s.enterFailed was).bus.sending = none := by
  obtain ⟨k, -, h⟩ := State.raiseBus_frame ((s.enterBus .failed).emptyQueue.endAskSince was)
  rw [State.enterFailed, h]
  exact (State.endAskSince_asks _ was).sending.trans (State.emptyQueue_sending _)

/-! ### Every step -/

theorem Move.keeps_hall {s t : State} (h : Move s t) (hs : s.HallOk) : t.HallOk := by
  induction h with
  | quiet h => exact hs.quiet h
  | trans _ _ ih ih' => exact ih' (ih hs)
  | powerOn s answered cellA cellB imageRead beam faultLine =>
    rw [State.powerOn_eq]
    have hp := State.printerSettle_prints (s.loaded answered cellA cellB imageRead beam faultLine)
    refine State.started_hallOk (answered := answered) (l := (s.poweredUp beam faultLine).loader) ?_ ?_ ?_
    · rw [hp.loader]
      simp [State.loaded, State.loadConfig]
    · rw [hp.bus]
      rfl
    · rw [hp.peers]
      rfl
  | restart s answered =>
    exact (State.started_hallOk (s.cleared_loader answered) (s.cleared_sending answered)
      (s.cleared_peers answered)).quiet (.restartCell _)
  | accept => exact hs
  | confirm => exact hs
  | @void s _ p =>
    have hend := hs.belts (s.endParcel_belts p .void (some .command))
    obtain ⟨hb, hp⟩ := State.voidEffect_hall (s.endParcel p .void (some .command)) p
    exact hend.keeps (by rw [State.voidEffect_loader]) (by rw [hp]) (hb.quiet.sending hend.1) (.inl hb.state)
  | plateTimeout => exact hs.belts (State.endParcel_belts _ _ _ _)
  | placeOwed s =>
    obtain ⟨q, rs, h⟩ := s.placeOwed_frame
    exact h ▸ hs
  | firstClock => exact hs
  | forward d _ _ =>
    unfold State.stepForward
    extract_lets s1 s2
    have h1 : s1.HallOk := hs.closeSpan _ _ _
    have h2 : s2.HallOk := by
      unfold s2
      split
      · exact h1
      · exact h1.quiet (.labelDay _ _)
    refine State.HallOk.bookings ?_ _
    exact h2.same rfl rfl rfl
  | cutOff => exact (hs.closeHead _ _).bookings _
  | imageStored =>
    refine State.HallOk.quiet ?_ (.answerHeld _ _ _ _)
    refine State.HallOk.editionChange ?_ _
    exact hs.same rfl rfl rfl
  | changeBus hoff hactive hannounce hst =>
    have hstays := StaysInHall.changeBus hoff hst
    exact hs.stays hstays (BusController.sendsOk_of_idle (hstays.sending (hs.idle hactive hannounce)))
  | plateCleared => exact hs
  | settle => exact hs
  | handOver d _ =>
    unfold State.measurementHandOver
    dsimp only
    split
    · refine State.HallOk.belts ?_ (State.endParcel_belts _ _ _ _)
      exact hs
    · refine State.HallOk.books ?_ ((State.serveFor_books _ _).trans (State.quotesDue_books _ _))
        ((State.serveLine_asks _).trans (State.quotesDue_asks _ _))
      exact hs
  | @failAttempt s k hk =>
    have hoff : s.bus.state ≠ .off := by
      have hsends : s.bus.state = .active ∨ s.bus.state = .announce := by
        obtain hk | hk := hk
        · exact hs.1 (by simp [hk])
        · exact BusController.chosen_state hk
      obtain h | h := hsends <;> simp [h]
    have hcount : (s.putBus (s.bus.countFail k)).HallOk :=
      hs.keeps rfl rfl (BusController.sendsOk_of_idle rfl) (.inl rfl)
    have hstays := State.failAttempt_stays k hoff
    exact hcount.stays hstays (BusController.sendsOk_of_idle (hstays.sending rfl))
  | endFrame s k e =>
    have hleft : (s.putBus (s.bus.offeredLeaves k)).HallOk :=
      hs.keeps rfl rfl (BusController.sendsOk_of_idle rfl) (.inl rfl)
    have hstays := s.endFrame_stays k e
    exact hleft.stays hstays (BusController.sendsOk_of_idle (hstays.sending rfl))
  | @meet s own now clock sender edition busCode routeCount hnew hlow hhigh hother hoff =>
    rw [State.hallOk_iff] at hs ⊢
    obtain ⟨hsends, hnumber, -, hpeers⟩ := hs
    refine ⟨hsends, hnumber, fun h => absurd h hoff, hpeers.insertPeer ?_ hlow hhigh hother⟩
    simpa [PeerTable.find, newPeer] using hnew
  | takeAsk s p =>
    unfold State.takeAsk
    split
    · exact hs
    · split
      · refine hs.keeps rfl rfl ?_ (.inl ?_)
        all_goals unfold State.answerAsk BusController.queueGive; dsimp only; split
        · exact hs.1
        · exact hs.1
        · rfl
        · rfl
      · exact hs
  | applyUnits => exact hs.same rfl rfl rfl
  | endAsk => exact hs.books (State.endAskSince_books _ _) (State.endAskSince_asks _ _)
  | @enterFailed s hoff => exact hs.stays (.enterFailed s hoff) (BusController.sendsOk_of_idle (s.enterFailed_sending s))
  | breakTaken => exact hs.belts (State.breakTaken_belts _ _)
  | makeTaken => exact hs.belts (State.makeTaken_belts _ _)
  | carryOut =>
    refine State.HallOk.belts ?_ (State.carry_belts _ _)
    exact hs
  | clearIn =>
    refine State.HallOk.belts ?_ (State.makeAction_belts _ _)
    exact hs
  | jam =>
    refine State.HallOk.belts ?_ (State.rejectOnBelt_belts _ _ _)
    exact hs
  | printFailed => exact hs.belts (State.printFailed_prints _).belt

end Sys2Proof.Machine

section
open Sys2Proof.Machine

/-- Settles O56: each of the three is kept by every move of the part, so by every step. -/
theorem stepKeepsBlocks : Obligations.StepKeepsBlocks := by
  unfold Obligations.StepKeepsBlocks
  intro s t h
  have hmove := step_moves h
  exact ⟨hmove.keeps_memories, hmove.keeps_printer, hmove.keeps_hall⟩

end
end

section
/-! The tags of the records: through every operation but ACCEPT they are some of those there were, in their order, and the
cursor stands (R60, R61). -/

namespace Sys2Proof.Machine

/-! ### Some of the tags, in their order -/

/-- The tags are some of those there were, in their order, and the cursor stands. -/
structure TagsFrame (q q' : ParcelQueue) : Prop where
  tags : (q'.parcels.map Parcel.tag).Sublist (q.parcels.map Parcel.tag)
  cursor : q'.cursor = q.cursor

@[refl] theorem TagsFrame.refl (q : ParcelQueue) : TagsFrame q q := ⟨.refl _, rfl⟩

theorem TagsFrame.trans {a b c : ParcelQueue} (h : TagsFrame a b) (h' : TagsFrame b c) : TagsFrame a c :=
  ⟨h'.tags.trans h.tags, h'.cursor.trans h.cursor⟩

/-- `TagsFrame.trans` with the last change first. -/
theorem TagsFrame.after {a b c : ParcelQueue} (h' : TagsFrame b c) (h : TagsFrame a b) : TagsFrame a c := h.trans h'

theorem TagsFrame.of_eq {q q' : ParcelQueue} (h : q' = q) : TagsFrame q q' := h ▸ .refl q

theorem TagsFrame.map (q : ParcelQueue) {f : Parcel → Parcel} (hf : ∀ p, (f p).tag = p.tag) (due : Nat) :
    TagsFrame q { q with parcels := q.parcels.map f, nextDue := due } := by
  refine ⟨?_, rfl⟩
  rw [List.map_map, show Parcel.tag ∘ f = Parcel.tag from funext hf]

theorem TagsFrame.update (q : ParcelQueue) (tag : Nat) {f : Parcel → Parcel} (hf : ∀ p, (f p).tag = p.tag) :
    TagsFrame q (q.update tag f) := by
  refine TagsFrame.map q (fun p => ?_) q.nextDue
  split
  · exact hf p
  · rfl

theorem TagsFrame.remove (q : ParcelQueue) (tag : Nat) : TagsFrame q (q.remove tag) :=
  ⟨List.Sublist.map _ List.filter_sublist, rfl⟩

theorem TagsFrame.owe (q : ParcelQueue) (tag : Nat) (r : Report) : TagsFrame q (q.owe tag r) := by
  have h := TagsFrame.update q tag (f := fun p => { p with owed := some ⟨q.nextDue, r⟩ }) fun _ => rfl
  exact ⟨h.tags, h.cursor⟩

theorem State.TagsOk.frame {s t : State} (h : s.TagsOk) (hq : TagsFrame s.queue t.queue) : t.TagsOk := by
  obtain ⟨hnodup, hrange, hlow, hhigh, hlen⟩ := h
  refine ⟨hnodup.sublist hq.tags, fun p hp => ?_, hq.cursor ▸ hlow, hq.cursor ▸ hhigh, ?_⟩
  · obtain ⟨q, hq, htag⟩ := List.mem_map.1 (hq.tags.subset (List.mem_map_of_mem hp))
    exact htag ▸ hrange q hq
  · simpa using hq.tags.length_le.trans (by simpa using hlen)

/-! ### Records and reports -/

theorem TagsFrame.endParcel (s : State) (p : Parcel) (o : EndOutcome) (r : Option Reason) :
    TagsFrame s.queue (s.endParcel p o r).queue := by
  obtain ⟨-, h⟩ | ⟨-, h⟩ := s.endParcel_cases p o r
  · rw [h]
    exact .remove _ _
  · rw [h]
    exact .after (.owe _ _ _) (.update s.queue p.tag fun _ => rfl)

theorem TagsFrame.placeOwed (s : State) : TagsFrame s.queue s.placeOwed.queue := by
  unfold State.placeOwed
  split
  · split
    · rfl
    · split
      · rfl
      · simp only [State.setLink_queue, State.setQueue_queue]
        split
        · exact .remove _ _
        · exact .update _ _ fun _ => rfl
  · rfl

theorem TagsFrame.quotesDue (s was : State) : TagsFrame s.queue (s.quotesDue was).queue := by
  have hfold : ∀ (ps : List Parcel) (t : State), TagsFrame t.queue (ps.foldl State.quoteDue t).queue := by
    intro ps
    induction ps with
    | nil => exact fun t => .refl _
    | cons p ps ih =>
      intro t
      refine .after (ih _) ?_
      unfold State.quoteDue
      split
      · rfl
      · exact .owe _ _ _
  exact hfold _ s

/-! ### Bookings -/

theorem TagsFrame.updateParcel (s : State) (tag : Nat) {f : Parcel → Parcel} (hf : ∀ p, (f p).tag = p.tag) :
    TagsFrame s.queue (s.updateParcel tag f).queue := .update _ _ hf

theorem TagsFrame.bookOn (s : State) (b : Booking) (day slot : Nat) :
    TagsFrame s.queue (s.bookOn b day slot).queue := .update _ _ fun _ => rfl

theorem TagsFrame.bookDeferred (s : State) (b : Booking) : TagsFrame s.queue (s.bookDeferred b).queue :=
  .update _ _ fun _ => rfl

theorem State.openAsk_queue (s : State) (route day slot wanted : Nat) :
    (s.openAsk route day slot wanted).queue = s.queue := by
  unfold State.openAsk
  dsimp only
  split <;> rfl

theorem State.openAsk_dispatch (s : State) (route day slot wanted : Nat) :
    (s.openAsk route day slot wanted).dispatch = s.dispatch := by
  unfold State.openAsk
  dsimp only
  split <;> rfl

theorem TagsFrame.askFor (s : State) (b : Booking) (e : Entry) : TagsFrame s.queue (s.askFor b e).queue := by
  unfold State.askFor
  dsimp only
  rw [State.openAsk_queue]
  exact .update _ _ fun _ => rfl

theorem TagsFrame.tryEntries (n : Nat) (s : State) (b : Booking) :
    TagsFrame s.queue (State.tryEntries n s b).queue := by
  induction n generalizing s b with
  | zero => exact .bookDeferred _ _
  | succ n ih =>
    unfold State.tryEntries
    split
    · exact .bookDeferred _ _
    split
    · exact .bookOn _ _ _ _
    split
    · exact .askFor _ _ _
    · exact .after (ih _ _) (.refl _)

theorem TagsFrame.tryCurrent (s : State) : TagsFrame s.queue s.tryCurrent.queue := by
  unfold State.tryCurrent
  split
  · split
    · rfl
    · exact .tryEntries _ _ _
  · rfl

theorem TagsFrame.serveFor (n : Nat) (s : State) : TagsFrame s.queue (State.serveFor n s).queue := by
  induction n generalizing s with
  | zero => rfl
  | succ n ih =>
    unfold State.serveFor
    split
    · exact .after (ih _) (.after (.tryCurrent _) (.refl _))
    · rfl

theorem TagsFrame.bookings (s : State) : TagsFrame s.queue s.bookings.queue :=
  .after (.serveFor _ _) (.tryCurrent _)

theorem State.closeAsk_queue (s : State) : s.closeAsk.queue = s.queue := by
  unfold State.closeAsk
  split
  · rfl
  · dsimp only
    split <;> rfl

theorem State.closeAsk_dispatch (s : State) : s.closeAsk.dispatch = s.dispatch := by
  unfold State.closeAsk
  split
  · rfl
  · dsimp only
    split <;> rfl

theorem TagsFrame.reportAskEnd (s : State) : TagsFrame s.queue s.reportAskEnd.queue := by
  unfold State.reportAskEnd
  split
  · split
    · exact .after (.bookings _) (.refl _)
    · rfl
  · rfl

theorem TagsFrame.endAskSince (s was : State) : TagsFrame s.queue (s.endAskSince was).queue := by
  unfold State.endAskSince
  split
  · exact .after (.quotesDue _ _) (.after (.reportAskEnd _) (.of_eq s.closeAsk_queue))
  · rfl

theorem TagsFrame.askEnding (s : State) (e : Ending) : TagsFrame s.queue (s.askEnding e).queue := by
  unfold State.askEnding
  split
  · rfl
  · split
    case h_3 => exact .after (.reportAskEnd _) (.of_eq s.closeAsk_queue)
    case h_4 => exact .after (.reportAskEnd _) (.of_eq s.closeAsk_queue)
    all_goals rfl

/-! ### Closings and the hall -/

theorem TagsFrame.closeHead (s : State) (route : Nat) (e : Entry) : TagsFrame s.queue (s.closeHead route e).queue := by
  have hroll : ∀ t : State, TagsFrame t.queue (t.rollClosed route e.day e.slot).queue := by
    intro t
    unfold State.rollClosed
    split
    · split
      · dsimp only
        split
        · rfl
        · exact .bookDeferred _ _
      · rfl
    · rfl
  have hask : ∀ t : State, TagsFrame t.queue (t.closeAskFor route e.day e.slot).queue := by
    intro t
    unfold State.closeAskFor
    split
    · exact .after (hroll _) (.of_eq t.closeAsk_queue)
    · exact hroll t
  unfold State.closeHead
  extract_lets s1 s2 s3 s4 _ s5
  refine TagsFrame.after (.map s5.queue (fun p => ?_) _) (hask s2)
  unfold Parcel.entryClosed
  split
  · rfl
  · split <;> rfl

theorem TagsFrame.closeSpan (n : Nat) (s : State) (c : ClockTime) (d : Nat) :
    TagsFrame s.queue (State.closeSpan n s c d).queue := by
  induction n generalizing s with
  | zero => rfl
  | succ n ih =>
    unfold State.closeSpan
    split
    · exact .after (ih _) (.closeHead _ _ _)
    · rfl

theorem State.giveEnding_queue (s : State) (g : TxGive) (e : Ending) : (s.giveEnding g e).queue = s.queue := by
  unfold State.giveEnding
  dsimp only
  split <;> split <;> rfl

theorem State.dropGives_queue (gs : List TxGive) (s : State) : (State.dropGives gs s).queue = s.queue := by
  induction gs generalizing s with
  | nil => rfl
  | cons g rest ih => exact (ih _).trans (s.giveEnding_queue g _)

theorem State.emptyQueue_queue (s : State) : s.emptyQueue.queue = s.queue := State.dropGives_queue _ _

theorem State.changeBus_queue (s : State) (st : BusState) : (s.changeBus st).queue = s.queue :=
  (s.changeBus_keeps st).2.1

theorem State.raiseBus_queue (s : State) : s.raiseBus.queue = s.queue := by
  obtain ⟨k, -, h⟩ := s.raiseBus_frame
  rw [h]

theorem TagsFrame.enterFailed (s was : State) : TagsFrame s.queue (s.enterFailed was).queue := by
  unfold State.enterFailed
  rw [State.raiseBus_queue]
  exact .after (.endAskSince _ _) (.of_eq (State.emptyQueue_queue _))

theorem TagsFrame.quietTrigger (s was : State) : TagsFrame s.queue (s.quietTrigger was).queue := by
  unfold State.quietTrigger
  dsimp only
  split
  · exact .after (.endAskSince _ _) (.of_eq ((State.emptyQueue_queue _).trans (State.changeBus_queue _ _)))
  · exact .after (.enterFailed _ _) (.refl _)

theorem TagsFrame.handBack (s : State) (was : BusController) (k : TxKind) (e : Ending) :
    TagsFrame s.queue (s.handBack was k e).queue := by
  unfold State.handBack
  split
  · split
    · exact .of_eq (s.giveEnding_queue _ _)
    · rfl
  · exact .askEnding _ _
  · split
    · split
      · split
        · exact .of_eq (s.changeBus_queue _)
        · exact .of_eq (s.changeBus_queue _)
        all_goals rfl
      · rfl
    · rfl

theorem TagsFrame.endFrame (s : State) (k : TxKind) (e : Ending) : TagsFrame s.queue (s.endFrame k e).queue :=
  .after (.quotesDue _ _) (.after (.handBack _ _ _ _) (.refl _))

theorem TagsFrame.abandon (s : State) (k : TxKind) : TagsFrame s.queue (s.abandon k).queue := by
  obtain ⟨-, h⟩ | ⟨-, s2, s3, h2, h3, h⟩ := s.abandon_cases k
  · rw [h]
    exact .after (.endFrame _ _ _) (.refl _)
  · have hs2 : TagsFrame s.queue s2.queue := by
      rw [h2]
      exact .after (.handBack _ _ _ _) (.refl _)
    rw [h]
    refine .after (.quietTrigger _ _) ?_
    obtain rfl | rfl := h3
    · exact hs2
    · exact .after (.quotesDue _ _) hs2

theorem TagsFrame.failAttempt (s : State) (k : TxKind) : TagsFrame s.queue (s.failAttempt k).queue := by
  unfold State.failAttempt
  dsimp only
  split
  · rfl
  · exact .after (.abandon _ _) (.refl _)

/-! ### The belt -/

theorem TagsFrame.discardLabel (s : State) (tag : Nat) : TagsFrame s.queue (s.discardLabel tag).queue :=
  .of_eq (s.discardLabel_prints tag).queue

theorem TagsFrame.rejectOnBelt (s : State) (p : Parcel) (r : Reason) : TagsFrame s.queue (s.rejectOnBelt p r).queue :=
  .after (.discardLabel _ _) (.endParcel _ _ _ _)

theorem TagsFrame.mark (s : State) (tag : Nat) (f : Marks → Marks) : TagsFrame s.queue (s.mark tag f).queue :=
  .update _ _ fun _ => rfl

theorem TagsFrame.endOnBelt (s : State) (p : Parcel) : TagsFrame s.queue (s.endOnBelt p).queue := by
  unfold State.endOnBelt
  split
  · exact .rejectOnBelt _ _ _
  · exact .after (.discardLabel _ _) (.endParcel _ _ _ _)

theorem TagsFrame.carry (s : State) (a : Action) : TagsFrame s.queue (s.carry a).queue := by
  unfold State.carry
  split
  · unfold State.carryApply
    split
    · split
      · exact .of_eq (State.slotEmptied_prints _).queue
      · exact .update _ _ fun _ => rfl
    · exact .update _ _ fun _ => rfl
  · rfl
  · unfold State.carryClear
    extract_lets s1 s2 s3
    have h3 : TagsFrame s.queue s3.queue := by
      show TagsFrame s.queue s2.queue
      unfold s2
      split
      · exact .update _ _ fun _ => rfl
      · rfl
    split
    · exact .after (.endOnBelt _ _) h3
    · exact h3

theorem TagsFrame.makeAction (s : State) (a : Action) : TagsFrame s.queue (s.makeAction a).queue := by
  unfold State.makeAction
  split
  · exact .carry _ _
  · rfl

theorem TagsFrame.freed (s : State) : TagsFrame s.queue s.freed.queue := by
  have hloop : ∀ (n : Nat) (t : State), TagsFrame t.queue (State.fillClears n t).queue := by
    intro n
    induction n with
    | zero => exact fun t => .refl _
    | succ n ih =>
      intro t
      unfold State.fillClears
      split
      · split
        · exact .after (ih _) (.after (.makeAction _ _) (.refl _))
        · rfl
      · rfl
  exact hloop _ s

theorem TagsFrame.breakTaken (s : State) (e : Edge) : TagsFrame s.queue (s.breakTaken e).queue := by
  have horphan : TagsFrame s.queue s.orphanBreak.queue := by
    unfold State.orphanBreak
    split
    · rfl
    · dsimp only
      split
      · unfold State.closeShort
        exact .after (.rejectOnBelt _ _ _) (.refl _)
      · rfl
  refine .after ?_ horphan
  unfold State.breakTaken
  generalize s.orphanBreak = t
  dsimp only
  split
  next p _ =>
    unfold State.matchBreak
    extract_lets s1 _ s2 s3 s4
    have h1 : TagsFrame t.queue s1.queue := .update _ _ fun _ => rfl
    have h3 : TagsFrame s2.queue s3.queue := by
      unfold s3
      split
      · exact .mark _ _ _
      · rfl
    have h4 : TagsFrame s3.queue s4.queue := by
      unfold s4 State.enterApply
      dsimp only
      split
      · exact .mark _ _ _
      · rfl
    exact .after (.makeAction _ _) (.after h4 (.after h3 h1))
  next =>
    unfold State.unmatchedBreak
    dsimp only
    split
    · split
      · split
        · exact .update _ _ fun _ => rfl
        · rfl
      · rfl
    · rfl

theorem TagsFrame.makeTaken (s : State) (e : Edge) : TagsFrame s.queue (s.makeTaken e).queue := by
  have hmeasure : ∀ (p : Parcel) (p0 p1 : Count), TagsFrame s.queue (s.measureBelt p p0 p1).queue := by
    intro p p0 p1
    unfold State.measureBelt
    extract_lets len s1 s2 pos
    have h1 : TagsFrame s.queue s1.queue := .update _ _ fun _ => rfl
    have h2 : TagsFrame s1.queue s2.queue := by
      unfold s2
      split
      · exact .update _ _ fun _ => rfl
      · rfl
    refine .after ?_ (.after h2 h1)
    split
    · exact .after (.freed _) (.makeAction _ _)
    · rfl
  unfold State.makeTaken
  split
  · rfl
  next x _ =>
    dsimp only
    cases x.tag.bind s.queue.beltRecord with
    | some p => exact hmeasure _ _ _
    | none => exact .refl _

theorem TagsFrame.voidEffect (s : State) (p : Parcel) : TagsFrame s.queue (s.voidEffect p).queue := by
  unfold State.voidEffect
  split
  case h_2 => exact .after (.quotesDue _ _) (.after (.serveFor _ _) (.of_eq s.closeAsk_queue))
  case h_3 => split <;> rfl
  case h_4 => exact .after (.discardLabel _ _) (.refl _)
  all_goals rfl

/-! ### Every move -/

theorem TagsFrame.editionChange (s : State) (g : Image) : TagsFrame s.queue (s.editionChange g).queue := by
  have hpeers : ∀ t : State, t.recomputePeers.queue = t.queue := by
    intro t
    unfold State.recomputePeers
    dsimp only
    split
    · rfl
    · exact (Quiet.raisePeer _).queue
  unfold State.editionChange
  extract_lets _ s1 s2
  rw [hpeers]
  show TagsFrame s.queue s2.queue
  unfold s2
  split <;> rfl

theorem TagsFrame.measurementHandOver (s : State) (p : Parcel) (d : Dims) :
    TagsFrame s.queue (s.measurementHandOver p d).queue := by
  unfold State.measurementHandOver
  extract_lets r p' s1
  have h1 : (s1.queue.parcels.map Parcel.tag) = s.queue.parcels.map Parcel.tag := by
    simp only [s1, State.setSummary_queue, State.updateParcel, State.setQueue_queue, ParcelQueue.update, List.map_map]
    refine List.map_congr_left fun q _ => ?_
    simp only [Function.comp_apply]
    split
    next h => exact h.symm
    next => rfl
  have hs1 : TagsFrame s.queue s1.queue := ⟨by rw [h1], rfl⟩
  split
  · exact .after (.endParcel _ _ _ _) hs1
  · exact .after (.quotesDue _ _) (.after (.serveFor _ _) hs1)

/-- No record and a cursor at 1 are in order. -/
theorem State.tagsOk_of_empty {s : State} (h : s.queue.parcels = []) (hlow : 1 ≤ s.queue.cursor)
    (hhigh : s.queue.cursor ≤ 255) : s.TagsOk := by
  refine ⟨?_, ?_, hlow, hhigh, ?_⟩ <;> simp [h]

theorem State.reset_tagsOk : State.reset.TagsOk :=
  State.tagsOk_of_empty rfl (Nat.le_refl 1) (show 1 ≤ 255 by omega)

theorem ParcelQueue.newTag_fresh {s : State} (h : s.TagsOk) :
    1 ≤ s.queue.newTag ∧ s.queue.newTag ≤ 255 ∧ ∀ p ∈ s.queue.parcels, p.tag ≠ s.queue.newTag := by
  obtain ⟨-, -, hlow, hhigh, hlen⟩ := h
  obtain ⟨k, htag, -, hfree⟩ := ParcelQueue.newTag_first hlow hhigh (show s.queue.parcels.length < 255 by omega)
  refine ⟨?_, ?_, fun p hp he => hfree ⟨p, hp, he.trans htag⟩⟩
  all_goals rw [htag, tagFrom]; omega

theorem State.cleared_queue (s : State) (answered : Nat) :
    (s.cleared answered).queue = { s.queue with parcels := [] } := by
  rw [State.cleared, (State.printerSettle_prints _).queue]
  simp only [State.setLink_queue, State.restartValues, State.setBus_queue, State.setLabel_queue, State.setOutfeed_queue,
    State.setStore_queue, State.setSummary_queue, State.setPlate_queue, State.emptied, State.setPeers_queue,
    State.setShare_queue, State.emptyQueue_queue, State.setQueue_queue, State.setDispatch_queue, State.setLoader_queue,
    (Quiet.ceaseWrites s).queue]

theorem Move.keeps_tags {s t : State} (h : Move s t) (hs : s.TagsOk) : t.TagsOk := by
  induction h with
  | quiet h => exact hs.frame (.of_eq h.queue)
  | trans _ _ ih ih' => exact ih' (ih hs)
  | powerOn s answered cellA cellB imageRead beam faultLine =>
    have hq : (s.powerOn answered cellA cellB imageRead beam faultLine).queue = State.reset.queue := by
      rw [State.powerOn_eq, (State.started_keeps _).2.1, (State.printerSettle_prints _).queue]
      simp [State.loaded, State.loadConfig, State.poweredUp]
    exact State.reset_tagsOk.frame (.of_eq hq)
  | restart s answered =>
    have hq : (s.restart answered).queue = { s.queue with parcels := [] } := by
      rw [State.restart_eq, (Quiet.restartCell _).queue, (State.started_keeps _).2.1, State.cleared_queue]
    obtain ⟨-, -, hlow, hhigh, -⟩ := hs
    exact State.tagsOk_of_empty (by rw [hq]) (by rw [hq]; exact hlow) (by rw [hq]; exact hhigh)
  | @accept s g postcode service declared due hplate hroom =>
    obtain ⟨htlow, hthigh, hfresh⟩ := ParcelQueue.newTag_fresh hs
    obtain ⟨hnodup, hrange, hlow, hhigh, hlen⟩ := hs
    refine ⟨?_, ?_, ?_, ?_, ?_⟩
    · simp only [State.setQueue_queue, List.map_append, List.map_cons, List.map_nil]
      refine hnodup.append (by simp) ?_
      simpa [newParcel, List.disjoint_singleton] using hfresh
    · intro p hp
      simp only [State.setQueue_queue, List.mem_append, List.mem_singleton] at hp
      obtain hp | rfl := hp
      · exact hrange p hp
      · exact ⟨htlow, hthigh⟩
    · simp only [State.setQueue_queue, cycle]
      split <;> omega
    · simp only [State.setQueue_queue, cycle]
      split <;> omega
    · simpa using hroom
  | confirm => exact hs.frame (.update _ _ fun _ => rfl)
  | void => exact hs.frame (.after (.voidEffect _ _) (.endParcel _ _ _ _))
  | plateTimeout => exact hs.frame (.endParcel _ _ _ _)
  | placeOwed => exact hs.frame (.placeOwed _)
  | firstClock => exact hs
  | @forward s c new d _ _ =>
    unfold State.stepForward
    extract_lets s1 s2
    have h2 : s2.queue = s1.queue := by
      unfold s2
      split
      · rfl
      · exact (Quiet.labelDay _ _).queue
    refine hs.frame (.after (.quotesDue _ _) (.after (.bookings _) ?_))
    exact .after (.of_eq h2) (.closeSpan _ _ _ _)
  | cutOff => exact hs.frame (.after (.quotesDue _ _) (.after (.bookings _) (.closeHead _ _ _)))
  | imageStored => exact hs.frame (.after (.editionChange _ _) (.refl _))
  | changeBus => exact hs.frame (.of_eq (State.changeBus_queue _ _))
  | plateCleared s =>
    refine hs.frame (.map s.queue (fun p => ?_) _)
    split <;> rfl
  | settle => exact hs.frame (.update _ _ fun _ => rfl)
  | handOver => exact hs.frame (.measurementHandOver _ _ _)
  | failAttempt => exact hs.frame (.failAttempt _ _)
  | endFrame => exact hs.frame (.endFrame _ _ _)
  | meet => exact hs
  | takeAsk s p =>
    unfold State.takeAsk
    split
    · exact hs
    · split
      · exact hs
      · exact hs
  | applyUnits => exact hs
  | endAsk => exact hs.frame (.endAskSince _ _)
  | enterFailed => exact hs.frame (.enterFailed _ _)
  | breakTaken => exact hs.frame (.breakTaken _ _)
  | makeTaken => exact hs.frame (.makeTaken _ _)
  | carryOut => exact hs.frame (.after (.carry _ _) (.refl _))
  | clearIn => exact hs.frame (.after (.makeAction _ _) (.refl _))
  | jam => exact hs.frame (.after (.rejectOnBelt _ _ _) (.refl _))
  | printFailed => exact hs.frame (.of_eq (State.printFailed_prints _).queue)

end Sys2Proof.Machine
end


section
/-! The gate of the link, row by row: which rows are commands, which of those CONFIG-FAULT takes too, and which are events
or frames. -/

namespace Sys2Proof.Machine

/-- How a row reaches the part: by power alone, as a command of the terminal, as an event, or as a frame of the hall. -/
inductive Gated (s : State) (c : Instr) : Prop where
  | power (n : Nat) (a b r : Bool) (beam : Beam) (line : Bool) (hc : c = .powerOn n a b r beam line)
  | command (kind : Nat) (payload : List Byte) (run : State → State) (hkind : kind < 256)
      (hm : encodeMessage c = some (message kind payload)) (h : exec c s = .next (s.command kind run))
  | always (kind : Byte) (rest : List Byte) (run : State → State)
      (hkind : (kind = 6 ∨ kind = 21 ∨ kind = 22 ∨ kind = 23) ∨ ∃ k p, c = .badCommand k p)
      (hm : encodeMessage c = some (kind :: rest)) (h : exec c s = .next (s.commandAlways run))
  | event (run : State → State) (hm : encodeMessage c = none) (h : exec c s = .next (s.event run))
  | frame (f : Frame) (run : State → State) (hm : encodeMessage c = none) (h : exec c s = .next (s.receive f run))

theorem exec_gated (c : Instr) (s : State) : Gated s c := by
  cases c with
  | powerOn => exact .power _ _ _ _ _ _ rfl
  | restart => exact .always 23 _ _ (.inl (by decide)) rfl rfl
  | queryStation => exact .always 6 _ _ (.inl (by decide)) rfl rfl
  | setNextConfig => exact .always 21 _ _ (.inl (by decide)) rfl rfl
  | readConfig => exact .always 22 _ _ (.inl (by decide)) rfl rfl
  | badCommand => exact .always _ _ _ (.inr ⟨_, _, rfl⟩) rfl rfl
  | accept | confirm | void | fetch | queryParcel | queryDispatch | queryPeers | setClock | setTare | zero | clearFlags
  | setAttention | ackAttention | loadBegin | loadChunk | loadEnd | readTariff | releaseJoin | printerRetry =>
    exact .command _ _ _ (by decide) rfl rfl
  | presenceReceived | askReceived | giveReceived => exact .frame _ _ rfl rfl
  | restartInput | imageStoreComplete | configWriteComplete | scanStep | plateTimeout | cutOff | dayChange
  | cellWriteComplete | contentionPoint | lostArbitration | bitError | ackSlot | busyLimit | quietExpiry
  | activeTimerExpiry | listenTimerExpiry | gatherTimerExpiry | presenceTimerExpiry | silenceTimerExpiry
  | frameNotWellFormed | askWindowExpiry | edgeCapture | takeBreak | takeMake | encoderPulse | jam | printerDone
  | printerFault | printTimeout | powerLoss => exact .event _ rfl rfl

theorem exec_of_unpowered {c : Instr} {s : State} (hs : s.powered = false) (hc : ∀ n a b r e f, c ≠ .powerOn n a b r e f) :
    exec c s = .next s := by
  cases exec_gated c s with
  | power n a b r beam line h => exact absurd h (hc n a b r beam line)
  | command kind payload run _ _ h => rw [h, State.command_of_deaf (State.receives_of_unpowered hs)]
  | always kind rest run _ _ h => rw [h, State.commandAlways_of_deaf (State.receives_of_unpowered hs)]
  | event run _ h => rw [h, State.event_of_unpowered hs]
  | frame f run _ h => rw [h, State.receive, hs, Bool.false_and, Bool.false_and, if_neg Bool.false_ne_true]

theorem exec_of_held {c : Instr} {s : State} {m : List Byte} (hm : encodeMessage c = some m) (hs : s.link.held ≠ none) :
    exec c s = .next s := by
  cases exec_gated c s with
  | power n a b r beam line h => simp [h, encodeMessage] at hm
  | command kind payload run _ _ h => rw [h, State.command_of_deaf (State.receives_of_held hs)]
  | always kind rest run _ _ h => rw [h, State.commandAlways_of_deaf (State.receives_of_held hs)]
  | event run hn h => simp [hn] at hm
  | frame f run hn h => simp [hn] at hm

theorem toNat_byteOf {n : Nat} (h : n < 256) : (byteOf n).toNat = n := by
  rw [byteOf, BitVec.toNat_ofNat, Nat.mod_eq_of_lt h]

theorem exec_of_configFault {c : Instr} {s : State} {kind : Byte} {rest : List Byte} (hs : s.Listening)
    (hf : s.loader.station = .configFault) (hm : encodeMessage c = some (kind :: rest))
    (hkind : ¬(kind = 6 ∨ kind = 21 ∨ kind = 22 ∨ kind = 23)) (hbad : ∀ k p, c ≠ .badCommand k p) :
    exec c s = s.answers kind.toNat .notReady [] := by
  cases exec_gated c s with
  | power n a b r beam line h => simp [h, encodeMessage] at hm
  | command k payload run hk hm' h =>
    obtain ⟨rfl, -⟩ : byteOf k = kind ∧ _ := List.cons.inj (Option.some.inj (hm'.symm.trans hm))
    rw [h, State.command_of_configFault hs hf, toNat_byteOf hk]
    rfl
  | always k r run hk hm' h =>
    obtain ⟨rfl, -⟩ : k = kind ∧ _ := List.cons.inj (Option.some.inj (hm'.symm.trans hm))
    exact (hk.elim hkind fun ⟨_, _, hc⟩ => hbad _ _ hc).elim
  | event run hn h => simp [hn] at hm
  | frame f run hn h => simp [hn] at hm

/-- Settles O3, by the gate of each row. -/
theorem linkGate : Obligations.LinkGate := by
  intro s c
  refine ⟨exec_of_unpowered, fun m hm hs => exec_of_held hm hs, fun kind rest hs hf hm hkind hbad => ?_,
    fun kind payload hs hbad hc => ?_⟩
  · obtain ⟨h6, h21, h22, h23⟩ := hkind
    exact exec_of_configFault hs hf hm (not_or.2 ⟨h6, not_or.2 ⟨h21, not_or.2 ⟨h22, h23⟩⟩⟩) hbad
  · subst hc
    exact congrArg Host.Outcome.next ((State.commandAlways_of_listening hs).trans (if_pos hbad))

/-- Settles O1, by the definition of a step. -/
theorem stepRunsFrontCommand : Obligations.StepRunsFrontCommand := by
  intro s c rest hp
  rw [step, hp]
  rfl

end Sys2Proof.Machine
end

section
/-! The commands of a station that takes them: what each answers, and the events of the memories. -/

namespace Sys2Proof.Machine

section Answers
variable {s t : State} {kind : Nat} {run : State → State}

/-- What a command does once the gate has let it through. -/
theorem next_command (hs : s.Ready) (h : run s = t) :
    (Host.Outcome.next (s.command kind run) : Result) = .next t :=
  congrArg Host.Outcome.next ((State.command_of_ready hs).trans h)

theorem next_always (hs : s.Listening) (h : run s = t) :
    (Host.Outcome.next (s.commandAlways run) : Result) = .next t :=
  congrArg Host.Outcome.next ((State.commandAlways_of_listening hs).trans h)

theorem next_event (hs : s.powered = true) (h : run s = t) : (Host.Outcome.next (s.event run) : Result) = .next t :=
  congrArg Host.Outcome.next ((State.event_of_powered hs).trans h)

theorem State.Ready.listening (hs : s.Ready) : s.Listening := ⟨hs.1, hs.2.1⟩

end Answers

/-! ### The clock of the part -/

section Tick
variable {s : State}

theorem State.tick_within (hs : s.powered = true) (hus : s.timer.us + 1 < 1000) :
    s.tick = { s with
      pending := s.tick.pending
      outfeed := { s.outfeed with capture := s.outfeed.capture + 1 }
      timer := ⟨s.timer.ms, s.timer.us + 1⟩ } := by
  have htimer : s.microsecond.timer = ⟨s.timer.ms, s.timer.us + 1⟩ := if_pos hus
  rw [State.tick, if_pos hs, if_neg (by simp [htimer]), State.setPending, ← htimer]
  rfl

theorem State.tick_past (hs : s.powered = true) (hus : s.timer.us = 999) :
    s.tick = { s with
      pending := s.pending ++ s.dispatch.millisecond.2 ++
        ((s.microsecond).setDispatch s.dispatch.millisecond.1).timerEvents
      outfeed := { s.outfeed with capture := s.outfeed.capture + 1 }
      timer := ⟨s.timer.ms + 1, 0⟩
      dispatch := s.dispatch.millisecond.1 } := by
  have htimer : s.microsecond.timer = ⟨s.timer.ms + 1, 0⟩ := if_neg (by omega)
  rw [State.tick, if_pos hs, if_pos (by simp [htimer]), ← htimer]
  rfl

theorem DispatchTable.millisecond_within {d : DispatchTable} {c : ClockTime} (hc : d.clock = some c)
    (hms : c.ms + 1 < 86400000) : d.millisecond.1 = { d with clock := some ⟨c.day, c.ms + 1⟩ } := by
  rw [DispatchTable.millisecond, hc]
  exact congrArg Prod.fst (if_pos hms)

theorem DispatchTable.millisecond_past {d : DispatchTable} {c : ClockTime} (hc : d.clock = some c)
    (hms : 86400000 ≤ c.ms + 1) : d.millisecond = (d, .dayChange :: d.cutOffs ⟨nextDay c.day, 0⟩) := by
  rw [DispatchTable.millisecond, hc]
  exact if_neg (Nat.not_lt.2 hms)

theorem DispatchTable.millisecond_unset {d : DispatchTable} (hc : d.clock = none) : d.millisecond = (d, []) := by
  rw [DispatchTable.millisecond, hc]

end Tick

/-- Settles O2: within a millisecond the two timers alone advance, and at its end the clock does. -/
theorem emptyQueueIsOneMicrosecond : Obligations.EmptyQueueIsOneMicrosecond := by
  intro s hp hus
  have hstep : step s = .next s.tick := by rw [step, hp]
  refine ⟨fun hoff => by rw [hstep, State.tick, hoff, if_neg Bool.false_ne_true], fun hon => ⟨s.tick, hstep, ?_⟩⟩
  by_cases hlast : s.timer.us = 999
  · rw [State.tick_past hon hlast]
    refine ⟨rfl, by simp only; omega, by simp, ?_, ?_, ?_, rfl⟩
    · rintro (h | h)
      · exact absurd hlast h
      · exact congrArg Prod.fst (DispatchTable.millisecond_unset h)
    · exact fun c _ hc hms => DispatchTable.millisecond_within hc hms
    · intro c _ hc hms
      rw [DispatchTable.millisecond_past hc hms, hp]
      exact ⟨rfl, rfl⟩
  · rw [State.tick_within hon (by omega)]
    exact ⟨rfl, by simp only; omega, by simp only; omega, fun _ => rfl, fun c h => absurd h hlast,
      fun c h => absurd h hlast, rfl⟩

end Sys2Proof.Machine
end


section
/-! The commands of the station: queries and reads, tare, zero and flags, attention, the tariff load. -/

namespace Sys2Proof.Machine

/-! ### Queries and reads -/

section Queries
variable {s : State}

theorem State.queryParcel_of_unknown {tag : Nat} (h : ∀ p ∈ s.queue.parcels, p.tag ≠ tag) :
    s.queryParcel tag = s.respond 5 .unknownTag [] := by
  rw [State.queryParcel, ParcelQueue.find_none h]

theorem State.queryParcel_of_holds {older younger : List Parcel} {p : Parcel} (h : s.Holds older p younger) :
    s.queryParcel p.tag = s.respond 5 .ok (parcelBytes s.queue p) := by
  rw [State.queryParcel, h.find]

theorem within_eq_false_iff {lo hi n : Nat} : within lo hi n = false ↔ n < lo ∨ hi < n := by
  simp only [within, Bool.and_eq_false_iff, decide_eq_false_iff_not]
  omega

theorem State.readTariff_of_locked {off n : Nat} (h : s.loader.lockLevel = 2) :
    s.readTariff off n = s.respond 18 .locked [] := if_pos h

theorem State.readTariff_of_no_tariff {off n : Nat} (hl : s.loader.lockLevel ≠ 2) (h : s.store.edition = 0) :
    s.readTariff off n = s.respond 18 .noTariff [] := (if_neg hl).trans (if_pos h)

theorem State.readTariff_of_image {off n : Nat} {g : Image} (hl : s.loader.lockLevel ≠ 2) (hg : s.store.image = some g)
    (hed : imageEdition g ≠ 0) : s.readTariff off n =
      if within 1 128 n = false ∨ 4559 < off + n then s.respond 18 .range [] else s.respond 18 .ok ((g.drop off).take n) := by
  have hne : s.store.edition ≠ 0 := by rwa [ImageStore.edition_of_some hg]
  rw [State.readTariff, if_neg hl, if_neg hne, hg]
  rfl

theorem listed_bytes (bs : List Byte) : listed (fun b => [b]) bs = BitVec.ofNat 8 bs.length :: bs := by
  simp [listed, byteOf]

end Queries

/-- Settles O15, each query by its own case. -/
theorem queriesAndReads : Obligations.QueriesAndReads := by
  refine ⟨fun s => ⟨fun hs tag => ⟨fun h => ?_, fun older p younger h ht => ?_⟩,
    fun hs route => ⟨fun h => ?_, fun h => ?_⟩,
    fun hs off n => ⟨fun h => ?_, fun hl h => ?_, fun g hl hg hed => ⟨fun h => ?_, fun h0 hn hoff => ?_⟩⟩,
    fun hs copy => ⟨fun h => ?_, fun h hn => ?_, fun bs h hn => ?_, fun h0 h1 => ?_⟩⟩,
    fun s => ⟨fun hs => next_always hs rfl, fun hs => next_command hs rfl⟩⟩
  · exact next_command hs (State.queryParcel_of_unknown h)
  · exact next_command hs (ht ▸ State.queryParcel_of_holds h)
  · exact next_command hs (if_pos h)
  · exact next_command hs (if_neg (Nat.not_lt.2 h))
  · exact next_command hs (State.readTariff_of_locked h)
  · exact next_command hs (State.readTariff_of_no_tariff hl h)
  · refine next_command hs ((State.readTariff_of_image hl hg hed).trans (if_pos ?_))
    rw [within_eq_false_iff]
    obtain rfl | h | h := h
    · exact .inl (.inl (by decide))
    · exact .inl (.inr h)
    · exact .inr h
  · refine next_command hs ((State.readTariff_of_image hl hg hed).trans (if_neg ?_))
    have hpos : n.toNat ≠ 0 := fun h => h0 (BitVec.eq_of_toNat_eq h)
    rw [within_eq_false_iff]
    omega
  · refine next_always hs ((if_pos h).trans ?_)
    rw [listed_bytes]
    rfl
  · refine next_always hs ((if_neg (by simp [h])).trans ((if_pos h).trans ?_))
    rw [hn]
    rfl
  · refine next_always hs ((if_neg (by simp [h])).trans ((if_pos h).trans ?_))
    rw [hn, optional, listed_bytes]
    rfl
  · exact next_always hs ((if_neg h0).trans (if_neg h1))

/-! ### Tare, zero and flags -/

theorem ParcelQueue.plateBusy_iff (q : ParcelQueue) : q.plateBusy = true ↔
    ∃ p ∈ q.parcels, p.state = .waitPlate ∨ p.state = .measuring ∨ p.state = .rating ∨ p.state = .seeking := by
  simp only [ParcelQueue.plateBusy, List.any_eq_true]
  refine exists_congr fun p => and_congr_right fun _ => ?_
  cases p.state <;> simp [PState.onPlate]

theorem ParcelQueue.plateBusy_eq_false {q : ParcelQueue} (h : ∀ p ∈ q.parcels,
    p.state ≠ .waitPlate ∧ p.state ≠ .measuring ∧ p.state ≠ .rating ∧ p.state ≠ .seeking) : q.plateBusy = false := by
  rw [← Bool.not_eq_true, ParcelQueue.plateBusy_iff]
  rintro ⟨p, hp, hs⟩
  obtain ⟨h1, h2, h3, h4⟩ := h p hp
  exact hs.elim h1 (·.elim h2 (·.elim h3 h4))

/-- Settles O19, by whether a record is in a plate state. -/
theorem tareZeroAndFlags : Obligations.TareZeroAndFlags := by
  intro s tare hs
  refine ⟨fun h => ?_, fun h => ?_, next_command hs rfl⟩
  · have hbusy := s.queue.plateBusy_iff.2 h
    exact ⟨next_command hs (if_pos hbusy), next_command hs (if_pos hbusy)⟩
  · have hfree : ¬s.queue.plateBusy = true := by rw [ParcelQueue.plateBusy_eq_false h]; exact Bool.false_ne_true
    exact ⟨next_command hs (if_neg hfree), next_command hs (if_neg hfree)⟩

/-! ### Attention -/

section Attention
variable {s : State} {l : Link} {src : Source} {clock : Option ClockTime} {bus : BusState}

theorem State.attentionLine_iff : s.attentionLine = true ↔ ∃ src, s.sourceActive src = true := by
  simp only [State.attentionLine, List.any_eq_true]
  refine ⟨fun ⟨src, _, h⟩ => ⟨src, h⟩, fun ⟨src, h⟩ => ⟨src, ?_, h⟩⟩
  cases src <;> decide

theorem State.sourceActive_iff : s.sourceActive src = true ↔ s.link.mask.getLsbD src.number = false ∧
    (if s.link.isEdge src = true then s.link.latched src = true else s.condition src = true) := by
  simp only [State.sourceActive, Link.masked, Bool.and_eq_true, Bool.not_eq_true']
  refine and_congr_right fun _ => ?_
  split <;> rfl

/-- A source that has an edge choice is active by its latch or by its condition, as the choice says (R189). -/
theorem State.sourceActive_of_pos (h : 1 ≤ src.number) : s.sourceActive src = true ↔
    s.link.mask.getLsbD src.number = false ∧
      ((s.link.edge.getLsbD (src.number - 1) = true ∧ s.link.latch.getLsbD (src.number - 1) = true) ∨
        (s.link.edge.getLsbD (src.number - 1) = false ∧ s.condition src = true)) := by
  rw [State.sourceActive_iff]
  simp only [Link.isEdge, Link.latched, h, decide_true, Bool.true_and]
  cases s.link.edge.getLsbD (src.number - 1) <;> simp

/-- The latch of a source is set if its edge choice is EDGE (R189). -/
theorem Link.latchRise_eq (h : 1 ≤ src.number) : l.latchRise src =
    { l with latch := if l.edge.getLsbD (src.number - 1) then l.latch ||| BitVec.twoPow 8 (src.number - 1) else l.latch } := by
  have hbit : src.latchBit = BitVec.twoPow 8 (src.number - 1) := by
    cases src with
    | reportPending => exact absurd h (by decide)
    | _ => rfl
  rw [Link.latchRise, Link.isEdge, decide_eq_true h, Bool.true_and, hbit]
  split <;> rfl

theorem Link.rise_of_makesEvent (h : src.makesEvent = true) :
    l.rise src clock bus = (l.latchRise src).putEvent src clock bus := if_pos h

theorem Source.makesEvent_of_ne (h : src ≠ .reportPending) (h' : src ≠ .reportLost) :
    src.makesEvent = true ∧ 1 ≤ src.number := by
  cases src <;> simp_all [Source.makesEvent, Source.number]

theorem Link.loseReport_eq : l.loseReport = { l with
    latch := if l.reportLost then l.latch else if l.edge.getLsbD 7 then l.latch ||| BitVec.twoPow 8 7 else l.latch
    reportLost := true, lost := if 255 ≤ l.lost then 255 else l.lost + 1 } := by
  have hlost : satAdd 255 l.lost 1 = if 255 ≤ l.lost then 255 else l.lost + 1 := by
    unfold satAdd
    split <;> split <;> omega
  unfold Link.loseReport
  rw [Link.latchRise_eq (by decide)]
  cases h : l.reportLost
  · simp only [Bool.false_eq_true, if_false, hlost]
    rfl
  · simp only [if_true, hlost, ← h]

theorem Link.hasRoom_iff : l.hasRoom = true ↔ l.reports.length < 16 := decide_eq_true_iff

theorem Link.putEvent_of_room (h : l.reports.length < 16) : l.putEvent src clock bus =
    { l with reports := l.reports ++ [.event src clock (if src = .busState then some bus else none)] } :=
  if_pos (Link.hasRoom_iff.2 h)

theorem Link.putEvent_of_full (h : 16 ≤ l.reports.length) : l.putEvent src clock bus = l.loseReport :=
  if_neg fun hroom => absurd (Link.hasRoom_iff.1 hroom) (Nat.not_lt.2 h)

end Attention

/-- Settles O20: the line by the sources one by one, a rise by its two effects on the link. -/
theorem attentionSettingsAndLine : Obligations.AttentionSettingsAndLine := by
  refine ⟨fun s => ?_, fun l src clock bus hpend hlost => ?_, fun s mask edge payload hs => ?_⟩
  · intro shows
    rw [State.attentionLine_iff]
    have hpending : s.sourceActive .reportPending = true ↔ s.link.mask.getLsbD 0 = false ∧ s.link.reports ≠ [] := by
      rw [State.sourceActive_iff]
      simp [Link.isEdge, Source.number, State.condition]
    have hof : ∀ src : Source, 1 ≤ src.number →
        (s.sourceActive src = true ↔ shows src.number (s.condition src = true)) :=
      fun src h => State.sourceActive_of_pos h
    have hprinter : s.sourceActive .printerFault = true ↔ shows 1 (s.label.printer = .fault) := by
      have h := hof .printerFault (by decide)
      rw [State.condition, beq_iff_eq] at h
      exact h
    constructor
    · rintro ⟨src, h⟩
      cases src with
      | reportPending => exact .inl (hpending.1 h)
      | printerFault => exact .inr (.inl (hprinter.1 h))
      | busState => exact .inr (.inr (.inl ((hof _ (by decide)).1 h)))
      | sensorFault => exact .inr (.inr (.inr (.inl ((hof _ (by decide)).1 h))))
      | edgeOverrun => exact .inr (.inr (.inr (.inr (.inl ((hof _ (by decide)).1 h)))))
      | peerChange => exact .inr (.inr (.inr (.inr (.inr (.inl ((hof _ (by decide)).1 h))))))
      | jam => exact .inr (.inr (.inr (.inr (.inr (.inr (.inl ((hof _ (by decide)).1 h)))))))
      | duplicate => exact .inr (.inr (.inr (.inr (.inr (.inr (.inr (.inl ((hof _ (by decide)).1 h))))))))
      | reportLost => exact .inr (.inr (.inr (.inr (.inr (.inr (.inr (.inr ((hof _ (by decide)).1 h))))))))
    · rintro (h | h | h | h | h | h | h | h | h)
      · exact ⟨_, hpending.2 h⟩
      · exact ⟨.printerFault, hprinter.2 h⟩
      · exact ⟨.busState, (hof _ (by decide)).2 h⟩
      · exact ⟨.sensorFault, (hof _ (by decide)).2 h⟩
      · exact ⟨.edgeOverrun, (hof _ (by decide)).2 h⟩
      · exact ⟨.peerChange, (hof _ (by decide)).2 h⟩
      · exact ⟨.jam, (hof _ (by decide)).2 h⟩
      · exact ⟨.duplicate, (hof _ (by decide)).2 h⟩
      · exact ⟨.reportLost, (hof _ (by decide)).2 h⟩
  · intro latched
    obtain ⟨hevent, hpos⟩ := Source.makesEvent_of_ne hpend hlost
    rw [Link.rise_of_makesEvent hevent, Link.latchRise_eq hpos]
    refine ⟨fun hroom => Link.putEvent_of_room hroom, fun hfull => ?_⟩
    refine (Link.putEvent_of_full ?_).trans ?_
    · exact hfull
    · exact Link.loseReport_eq
  · exact ⟨⟨_, next_command hs rfl, rfl⟩, ⟨_, next_command hs rfl, rfl⟩⟩

/-! ### The tariff load -/

section Load
variable {s : State} {bytes : List Byte}

theorem State.loadChunk_of_staging (hl : s.loader.lockLevel = 0) (hs : s.store.staging = .staging) :
    s.loadChunk bytes = if within 1 128 bytes.length = false ∨ 4559 < s.store.staged.length + bytes.length then
        s.respond 16 .range []
      else (s.setStore { s.store with staged := s.store.staged ++ bytes }).respond 16 .ok
        (be16 (s.store.staged.length + bytes.length)) :=
  (if_neg (by simp [hl])).trans (if_neg (by simp [hs]))

theorem State.loadChunk_of_idle (hl : s.loader.lockLevel = 0) (hs : s.store.staging = .idle) :
    s.loadChunk bytes = s.respond 16 .notReady [] := (if_neg (by simp [hl])).trans (if_pos (by simp [hs]))

theorem State.loadEnd_of_idle (hl : s.loader.lockLevel = 0) (hs : s.store.staging = .idle) :
    s.loadEnd = s.respond 17 .notReady [] := (if_neg (by simp [hl])).trans (if_pos (by simp [hs]))

theorem State.loadEnd_of_invalid {f : ImgFault} (hl : s.loader.lockLevel = 0) (hs : s.store.staging = .staging)
    (hf : imageFault s.store.staged = some f) : s.loadEnd =
      (s.setStore { s.store with staging := .idle, staged := [], fault := some f }).respond 17 .badImage (imgFaultBytes f) := by
  rw [State.loadEnd, if_neg (by simp [hl]), if_neg (by simp [hs]), hf]
  rfl

theorem State.loadEnd_of_valid (hl : s.loader.lockLevel = 0) (hs : s.store.staging = .staging)
    (hf : imageFault s.store.staged = none) : s.loadEnd =
      (s.setStore { s.store with staging := .storing, fault := none }).setLink { s.link with held := some .loadEnd } := by
  rw [State.loadEnd, if_neg (by simp [hl]), if_neg (by simp [hs]), hf]

end Load

/-- Settles O21, command by command along the tests of each. -/
theorem loadTariffCommands : Obligations.LoadTariffCommands := by
  intro s bytes hs
  refine ⟨fun hl => ⟨next_command hs (if_pos hl), next_command hs (if_pos hl), next_command hs (if_pos hl)⟩, fun hl => ?_⟩
  have hopen : ¬s.loader.lockLevel ≠ 0 := by simp [hl]
  refine ⟨fun h => next_command hs ((if_neg hopen).trans (if_pos h)),
    fun h => next_command hs ((if_neg hopen).trans (if_neg (by simp [h]))),
    fun h => ⟨next_command hs (State.loadChunk_of_idle hl h), next_command hs (State.loadEnd_of_idle hl h)⟩,
    fun h => ⟨fun hb => ?_, fun hne hlen hroom => ?_, fun f hf => next_command hs (State.loadEnd_of_invalid hl h hf),
      fun hf => next_command hs (State.loadEnd_of_valid hl h hf)⟩⟩
  · refine next_command hs ((State.loadChunk_of_staging hl h).trans (if_pos ?_))
    rw [within_eq_false_iff]
    obtain rfl | hb | hb := hb
    · exact .inl (.inl (by decide))
    · exact .inl (.inr hb)
    · exact .inr hb
  · refine next_command hs ((State.loadChunk_of_staging hl h).trans (if_neg ?_))
    have hpos := List.length_pos_iff.2 hne
    rw [within_eq_false_iff]
    omega

end Sys2Proof.Machine
end


section
/-! Equations of the shared operations, case by case: the end of a record, a booking's release, the printer, the serial,
and the wait of the busy limit. -/

namespace Sys2Proof.Machine

/-! ### Records -/

theorem satAdd_one (limit n : Nat) : satAdd limit n 1 = if limit ≤ n then limit else n + 1 := by
  unfold satAdd
  split <;> split <;> omega

theorem bne_eq_decide_ne (a b : Nat) : (a != b) = decide (a ≠ b) := by
  by_cases h : a = b <;> simp [h]

/-- A record changed and then made the owner of a report (R82). -/
theorem ParcelQueue.owe_update {q : ParcelQueue} {tag : Nat} {f : Parcel → Parcel} {r : Report} (hf : ∀ p, (f p).tag = p.tag) :
    (q.update tag f).owe tag r =
      { q.update tag (fun p => { f p with owed := some ⟨q.nextDue, r⟩ }) with nextDue := q.nextDue + 1 } := by
  simp only [ParcelQueue.owe, ParcelQueue.update, List.map_map, ParcelQueue.mk.injEq, and_true]
  refine List.map_congr_left fun p _ => ?_
  by_cases h : p.tag = tag <;> simp [h, hf]

section Records
variable {s : State} {older younger : List Parcel} {p : Parcel}

/-- A record that ends leaves with its report while there is room, and otherwise stays and owes it (R82). -/
theorem State.Holds.endParcel (h : s.Holds older p younger) (o : EndOutcome) (r : Option Reason) :
    s.endParcel p o r = { s with
      queue := { s.queue with
        parcels := older ++ (if decide (s.link.reports.length < 16) then []
          else [{ p.ended o r with owed := some ⟨s.queue.nextDue, p.endReport o r⟩ }]) ++ younger
        nextDue := if decide (s.link.reports.length < 16) then s.queue.nextDue else s.queue.nextDue + 1 }
      link := { s.link with
        reports := if decide (s.link.reports.length < 16) then s.link.reports ++ [p.endReport o r]
          else s.link.reports } } := by
  obtain ⟨hroom, he⟩ | ⟨hfull, he⟩ := s.endParcel_cases p o r
  · rw [he, h.remove]
    simp [hroom]
  · rw [he, ParcelQueue.owe_update (f := fun p => p.ended o r) fun _ => rfl, h.update]
    simp [Nat.not_lt.2 hfull]

theorem State.Holds.mem (h : s.Holds older p younger) : p ∈ s.queue.parcels := by simp [h.1]

/-- The records after a record's own are those younger than it (R73). -/
theorem State.Holds.laterOnBelt (h : s.Holds older p younger) :
    laterOnBelt s.queue.parcels p.tag = younger.any (fun q => q.state == .labelPending || q.state == .onBelt) := by
  have hdrop : s.queue.parcels.dropWhile (fun q => q.tag != p.tag) = p :: younger := by
    rw [h.1, List.dropWhile_append_of_pos, List.dropWhile_cons_of_neg]
    · simp
    · exact fun q hq => bne_iff_ne.2 (h.2 q (List.mem_append_left _ hq))
  rw [Machine.laterOnBelt, hdrop]
  rfl

/-- The record in a state is the one, if those older are in another. -/
theorem State.Holds.inState {st : PState} (h : s.Holds older p younger) (hp : p.state = st)
    (ho : ∀ q ∈ older, q.state ≠ st) : s.queue.inState st = some p := by
  have h1 : older.find? (fun q => q.state == st) = none := by
    simpa only [List.find?_eq_none, beq_iff_eq] using ho
  simp [ParcelQueue.inState, h.1, List.find?_append, h1, hp]

end Records

section Release
variable {d : DispatchTable} {p : Parcel}

theorem DispatchTable.release_of_not_holds (h : p.holds = false) : d.release p = d := if_neg (by simp [h])

theorem DispatchTable.release_clock (d : DispatchTable) (p : Parcel) : (d.release p).clock = d.clock := by
  obtain ⟨rs, h⟩ := d.release_frame p
  rw [h]

theorem DispatchTable.release_entry {day slot : Nat} (h : p.holds = true) (hd : p.dispatch = some (.entry day slot)) :
    d.release p = d.updateEntry p.route day slot (fun e => { e with booked := e.booked - p.rating.load.getD 0 }) := by
  rw [DispatchTable.release, if_pos h, hd]

theorem DispatchTable.release_deferred (h : p.holds = true) (hd : p.dispatch = some .deferred) :
    d.release p = d.updateRing p.route (fun r => { r with deferred := r.deferred - p.rating.load.getD 0 }) := by
  rw [DispatchTable.release, if_pos h, hd]

end Release

/-! ### The printer -/

section Printer
variable {s : State}

theorem State.printerSettle_of_busy (h : s.label.printer ≠ .idle) : s.printerSettle = s := if_neg h

theorem State.printerSettle_of_line (h : s.label.printer = .idle) (hl : s.label.faultLine = true) :
    s.printerSettle = (s.setLabel { s.label with printer := .fault }).rise .printerFault := by
  rw [State.printerSettle, if_pos h, if_pos hl, State.printerToFault, if_neg (by simp [h])]

theorem State.printerSettle_of_empty (hl : s.label.faultLine = false) (ho : s.label.printOrder = []) :
    s.printerSettle = s := by
  rw [State.printerSettle, hl, ho]
  split
  · rw [if_neg Bool.false_ne_true]
    cases s.label.slot <;> rfl
  · rfl

theorem State.printerSettle_of_label {l : Label} {rest : List Label} (h : s.label.printer = .idle)
    (hl : s.label.faultLine = false) (hs : s.label.slot = none) (ho : s.label.printOrder = l :: rest) :
    s.printerSettle = s.setLabel { s.label with
      printOrder := rest, printer := .printing, atPrinter := some l, printDue := some (s.timer.ms + 5000)
      sent := some (l, s.label.eject), eject := false } := by
  rw [State.printerSettle, if_pos h, hl, if_neg Bool.false_ne_true, hs, ho]
  rfl

/-- A label that stands elsewhere than in the slot leaves the print order alone (R183). -/
theorem State.discardLabel_of_unslotted {tag : Nat} (h : ∀ l, s.label.slot = some l → l.tag ≠ tag) :
    s.discardLabel tag = s.setLabel { s.label with printOrder := s.label.printOrder.filter (fun l => l.tag ≠ tag) } := by
  rw [State.discardLabel]
  simp only [bne_eq_decide_ne, State.setLabel_label]
  split
  next l hl => rw [if_neg (h l hl)]
  next => rfl

/-- The label unit once the label of a tag has left print order and slot, counted as wasted, with the printer in IDLE
(R183). -/
def LabelUnit.unslotted (u : LabelUnit) (tag : Nat) : LabelUnit :=
  { u with
    printOrder := u.printOrder.filter (fun l => l.tag ≠ tag), slot := none, printer := .idle, eject := true
    wasted := if 65535 ≤ u.wasted then 65535 else u.wasted + 1 }

theorem State.discardLabel_of_slotted {tag : Nat} {l : Label} (h : s.label.slot = some l) (ht : l.tag = tag) :
    s.discardLabel tag = (s.setLabel (s.label.unslotted tag)).printerSettle := by
  rw [State.discardLabel]
  simp only [bne_eq_decide_ne, State.setLabel_label, h, if_pos ht, LabelUnit.waste, satAdd_one]
  rfl

/-- A label discarded from the slot while the fault line is asserted: the printer goes to FAULT (R181, R183). -/
theorem State.discardLabel_to_fault {tag : Nat} {l : Label} (h : s.label.slot = some l) (ht : l.tag = tag)
    (hline : s.label.faultLine = true) : s.discardLabel tag = { s with
      label := { s.label.unslotted tag with printer := .fault }
      link := s.link.rise .printerFault s.dispatch.clock s.bus.state } :=
  (State.discardLabel_of_slotted h ht).trans (State.printerSettle_of_line rfl hline)

/-- A label discarded from the slot with no other to print: the printer rests in IDLE (R181, R183). -/
theorem State.discardLabel_to_idle {tag : Nat} {l : Label} (h : s.label.slot = some l) (ht : l.tag = tag)
    (hline : s.label.faultLine = false) (ho : s.label.printOrder.filter (fun l => l.tag ≠ tag) = []) :
    s.discardLabel tag = { s with label := s.label.unslotted tag } :=
  (State.discardLabel_of_slotted h ht).trans (State.printerSettle_of_empty hline ho)

/-- A label discarded from the slot: the next label is sent, with the eject request (R181, R183). -/
theorem State.discardLabel_to_next {tag : Nat} {l l' : Label} {rest : List Label} (h : s.label.slot = some l)
    (ht : l.tag = tag) (hline : s.label.faultLine = false)
    (ho : s.label.printOrder.filter (fun l => l.tag ≠ tag) = l' :: rest) :
    s.discardLabel tag = { s with
      label := { s.label.unslotted tag with
        printOrder := rest, printer := .printing, atPrinter := some l', printDue := some (s.timer.ms + 5000)
        sent := some (l', true), eject := false } } :=
  (State.discardLabel_of_slotted h ht).trans (State.printerSettle_of_label rfl hline rfl ho)

end Printer

/-! ### The serial -/

section Serial
variable {s : State} {serial day : Nat} {daily : Bool}

theorem State.setSerial_eq : s.setSerial serial day daily = { s with
    label := { s.label with serial := some (serial, day) }
    loader := if serial % 100 = 0 then s.loader.askCell day (blockEndOf serial) daily else s.loader } := by
  unfold State.setSerial
  split <;> rfl

theorem State.labelDay_of_unresolved (h : s.label.serial = none) : s.labelDay day = s := by
  rw [State.labelDay, h]

theorem State.labelDay_of_resolved (h : s.label.serial ≠ none) : s.labelDay day = { s with
    label := { s.label with serial := some (0, day) }, loader := s.loader.askCell day 100 true } := by
  cases hs : s.label.serial with
  | none => exact absurd hs h
  | some x =>
    rw [State.labelDay, hs]
    exact State.setSerial_eq

end Serial

/-! ### The wait of the busy limit (R118) -/

section Wait
variable {b : BusController} {now : Nat}

theorem BusController.chosen_isSome (b : BusController) : b.chosen.isSome = b.offers := by
  cases hst : b.state <;> simp only [BusController.chosen, BusController.offers, BusState.maySend, hst] <;>
    cases b.gives.isEmpty <;> cases b.ask.isSome <;> cases b.presence.isSome <;> rfl

theorem BusController.withWait_eq_waits (b : BusController) (now : Nat) : b.withWait now = b.waits b.waitFrom now := by
  rw [BusController.withWait, BusController.waits, BusController.chosen_isSome]

theorem State.putBus_eq (s : State) (b : BusController) :
    s.putBus b = { s with bus := b.waits b.waitFrom s.timer.ms } := by
  rw [State.putBus, BusController.withWait_eq_waits]
  rfl

theorem BusController.chosen_eq_ask_iff :
    b.chosen = some .ask ↔ b.state = .active ∧ b.gives = [] ∧ b.ask.isSome = true := by
  cases hst : b.state <;> cases hg : b.gives <;> cases ha : b.ask <;> cases hp : b.presence <;>
    simp [BusController.chosen, BusState.maySend, hst, hg, ha, hp]

theorem BusController.chosen_eq_give_iff : b.chosen = some .give ↔ b.state = .active ∧ b.gives ≠ [] := by
  cases hst : b.state <;> cases hg : b.gives <;> cases ha : b.ask <;> cases hp : b.presence <;>
    simp [BusController.chosen, BusState.maySend, hst, hg, ha, hp]

/-- The ASK frame withdrawn, and the wait kept up (R118, R146). -/
theorem BusController.withWait_withdrawAsk (b : BusController) (now : Nat) :
    b.withdrawAsk.withWait now = b.withoutAsk now := by
  rw [BusController.withWait_eq_waits, BusController.withdrawAsk, BusController.withoutAsk]
  cases ha : b.ask with
  | none => rfl
  | some a =>
    cases hbegun : a.begun with
    | true => simp [hbegun]
    | false =>
      have hc : b.chosen = some .ask ↔ (b.state == .active && b.gives.isEmpty) = true := by
        rw [BusController.chosen_eq_ask_iff, ha]
        simp
      simp only [Option.any_some, hbegun, Bool.not_false, if_true, Bool.false_eq_true, if_false, hc]
      rfl

/-- The GIVEs that meet a test withdrawn, and the wait kept up (R118, R121). -/
theorem BusController.withWait_withdrawGives (b : BusController) (test : TxGive → Bool) (now : Nat) :
    (b.withdrawGives test).withWait now = b.withoutGives test now := by
  have hgives : (b.gives.filter (fun g => g.begun || !test g)).map (fun g => if test g then { g with live := false } else g) =
      (b.gives.filter (fun g => g.begun || !test g)).map (fun g => { g with live := g.live && !test g }) := by
    refine List.map_congr_left fun g _ => ?_
    cases test g <;> simp
  have hwait : (match b.gives with
      | g :: _ => if b.chosen = some .give && !g.begun && test g then none else b.waitFrom
      | [] => b.waitFrom) =
      (if b.state == .active && b.gives.head?.any (fun g => !g.begun && test g) then none else b.waitFrom) := by
    cases hg : b.gives with
    | nil => simp
    | cons g rest =>
      have hc : b.chosen = some .give ↔ b.state = .active := by simp [BusController.chosen_eq_give_iff, hg]
      simp [hc, Bool.and_assoc]
  rw [BusController.withWait_eq_waits, BusController.withoutGives, BusController.withdrawGives, hgives]
  exact congrArg (BusController.waits _ · now) hwait

end Wait

end Sys2Proof.Machine
end


section
/-! The parcel commands and the reports: CONFIRM, VOID, FETCH, and the plate timeout. -/

namespace Sys2Proof.Machine

/-! ### CONFIRM -/

section Confirm
variable {s : State} {older younger : List Parcel} {p : Parcel} {quote : Nat}

theorem State.testConfirm_of_unknown {tag : Nat} (h : ∀ p ∈ s.queue.parcels, p.tag ≠ tag) :
    s.testConfirm tag quote = s.respond 2 .unknownTag [] := by
  rw [State.testConfirm, ParcelQueue.find_none h]

theorem State.Holds.testConfirm_of_refused {c : Code} (h : s.Holds older p younger)
    (hc : confirmRefusal s.queue.parcels p quote = some c) : s.testConfirm p.tag quote = s.respond 2 c [] := by
  simp only [State.testConfirm, h.find, hc]

theorem State.Holds.testConfirm_of_serial {serial day : Nat} (h : s.Holds older p younger)
    (hc : confirmRefusal s.queue.parcels p quote = none) (hserial : s.label.serial = some (serial, day)) :
    s.testConfirm p.tag quote =
      if serial < 999999 then s.confirmTaken p serial day else s.respond 2 .serialExhausted [] := by
  simp only [State.testConfirm, h.find, hc, hserial]
  rfl

/-- The quote named stands: the records behind it decide (R73). -/
theorem State.Holds.confirmRefusal_of_standing (h : s.Holds older p younger) (hst : p.state = .quoted)
    (hsd : p.standing = some true) (hq : p.quote = some quote) : confirmRefusal s.queue.parcels p quote =
      if younger.any (fun q => q.state == .labelPending || q.state == .onBelt) then some .busy else none := by
  rw [confirmRefusal, if_neg (by simp [hsd]), if_neg (by simp [hq]), if_neg (by simp [hst]), h.laterOnBelt]

theorem State.confirm_of_writing {tag : Nat} (h : s.loader.cellWriting = true) :
    s.confirm tag quote = s.setLink { s.link with held := some (.confirm tag quote) } := if_pos h

theorem State.confirm_of_idle {tag : Nat} (h : s.loader.cellWriting = false) :
    s.confirm tag quote = s.testConfirm tag quote := if_neg (by simp [h])

end Confirm

/-- Settles O10, along the tests of Table 4 in their order. -/
theorem confirmHeldOrRefused : Obligations.ConfirmHeldOrRefused := by
  intro s tag quote hs refused
  refine ⟨fun hw => next_command hs (State.confirm_of_writing hw), fun hw => ⟨fun h => ?_, fun older p younger h ht => ?_⟩⟩
  · exact next_command hs ((State.confirm_of_idle hw).trans (State.testConfirm_of_unknown h))
  · have hrefused : ∀ c, confirmRefusal s.queue.parcels p quote.toNat = some c → refused c := fun c hc =>
      next_command hs ((State.confirm_of_idle hw).trans (ht ▸ h.testConfirm_of_refused hc))
    refine ⟨fun hst hsd => hrefused _ (if_pos ⟨hst, hsd⟩), fun hst hsd hq => hrefused _ ?_,
      fun hst hsk => hrefused _ ?_, fun hst hsd hq => ⟨fun hlater => hrefused _ ?_, fun hnone day hserial => ?_⟩⟩
    · rw [confirmRefusal, if_neg (by simp [hsd]), if_pos ⟨hst, hq⟩]
    · rw [confirmRefusal, if_neg (fun hc => hsk ⟨hc.1.resolve_left hst, hc.2⟩), if_neg (fun hc => hst hc.1), if_pos hst]
    · rw [h.confirmRefusal_of_standing hst hsd hq, if_pos (by simpa using hlater)]
    · have hc : confirmRefusal s.queue.parcels p quote.toNat = none := by
        rw [h.confirmRefusal_of_standing hst hsd hq, if_neg (by simpa using hnone)]
      exact next_command hs ((State.confirm_of_idle hw).trans (ht ▸ h.testConfirm_of_serial hc hserial))

/-! ### VOID -/

section Void
variable {s : State} {older younger : List Parcel} {p : Parcel}

theorem State.Holds.void_of_unmet (h : s.Holds older p younger) (hm : s.link.metVoid ≠ some p.tag) :
    s.void p.tag = if p.state.voidable then ((s.endParcel p .void (some .command)).voidEffect p).respond 3 .ok []
      else s.respond 3 .notVoidable [] := by
  rw [State.void, if_neg hm, h.find]

theorem State.void_of_unknown {tag : Nat} (h : ∀ p ∈ s.queue.parcels, p.tag ≠ tag) (hm : s.link.metVoid ≠ some tag) :
    s.void tag = s.respond 3 .unknownTag [] := by
  rw [State.void, if_neg hm, ParcelQueue.find_none h]

theorem State.Holds.void_of_voidable (h : s.Holds older p younger) (hm : s.link.metVoid ≠ some p.tag)
    (hv : p.state.voidable = true) :
    s.void p.tag = ((s.endParcel p .void (some .command)).voidEffect p).respond 3 .ok [] :=
  (h.void_of_unmet hm).trans (if_pos hv)

theorem State.voidEffect_measuring (hp : p.state = .measuring) :
    s.voidEffect p = s.setPlate { s.plate with meas := none } := by
  rw [State.voidEffect, hp]

theorem State.voidEffect_waitPlate (hp : p.state = .waitPlate) : s.voidEffect p = s := by
  rw [State.voidEffect, hp]

theorem State.voidEffect_standing (hp : p.state = .quoted) (hsd : p.standing = some true) :
    s.voidEffect p = s.setDispatch (s.dispatch.release p) := by
  rw [State.voidEffect, hp]
  exact if_pos hsd

theorem State.voidEffect_withdrawn (hp : p.state = .quoted) (hsd : p.standing = some false) : s.voidEffect p =
    s.setDispatch { s.dispatch with line := s.dispatch.line.filter (fun r => r.tag ≠ p.tag) } := by
  rw [State.voidEffect, hp]
  simp only [← bne_eq_decide_ne]
  exact if_neg (by simp [hsd])

theorem State.voidEffect_labelPending (hp : p.state = .labelPending) :
    s.voidEffect p = (s.setDispatch (s.dispatch.release p)).discardLabel p.tag := by
  rw [State.voidEffect, hp]
  rfl

/-- The open ask ceases, its ASK frame withdrawn if the ask is SENDING (R146). -/
theorem State.closeAsk_of_open {a : OpenAsk} (h : s.share.openAsk = some a) : s.closeAsk = { s with
    share := { s.share with openAsk := none }
    bus := if a.phase = .sending then s.bus.withoutAsk s.timer.ms else s.bus } := by
  simp only [State.closeAsk, h]
  by_cases hp : a.phase = .sending
  · rw [if_pos hp, if_pos hp, State.putBus, BusController.withWait_withdrawAsk]
    rfl
  · rw [if_neg hp, if_neg hp]
    rfl

/-- The booking and the ask of a record in SEEKING end without a result (R98, R146). -/
theorem State.voidEffect_seeking {a : OpenAsk} (hp : p.state = .seeking) (hl : s.dispatch.line = [])
    (h : s.share.openAsk = some a) : s.voidEffect p = { s with
      dispatch := { s.dispatch with current := none }
      share := { s.share with openAsk := none }
      bus := if a.phase = .sending then s.bus.withoutAsk s.timer.ms else s.bus } := by
  rw [State.voidEffect, hp]
  simp only [State.closeAsk_of_open h, State.serveLine, State.setDispatch, hl, List.length_nil, State.serveFor]
  exact State.quotesDue_none rfl

end Void

/-- Settles O12, by the state the record leaves. -/
theorem voidAtTheCounter : Obligations.VoidAtTheCounter := by
  refine ⟨fun s tag hs hm => next_command hs (State.void_met s _ hm),
    fun s tag hs hm => ⟨fun h => next_command hs (State.void_of_unknown h hm), fun older p younger h ht hst => ?_⟩, ?_⟩
  · refine next_command hs (ht ▸ (h.void_of_unmet (ht ▸ hm)).trans (if_neg ?_))
    obtain hst | hst | hst | hst | hst := hst <;> simp [hst, PState.voidable]
  · intro s tag older younger p hs h ht hm report room queue reports after
    have hvoid : ∀ plate dispatch, p.state.voidable = true → (s.endParcel p .void (some .command)).voidEffect p =
        { s.endParcel p .void (some .command) with plate := plate, dispatch := dispatch } → after plate dispatch := by
      intro plate dispatch hv he
      refine next_command hs (ht ▸ (h.void_of_voidable (ht ▸ hm) hv).trans ?_)
      rw [he, h.endParcel]
      rfl
    have hblocks : (s.endParcel p .void (some .command)).plate = s.plate ∧
        (s.endParcel p .void (some .command)).dispatch = s.dispatch := by
      rw [h.endParcel]
      exact ⟨rfl, rfl⟩
    refine ⟨fun hst => hvoid _ _ (by simp [hst, PState.voidable]) ?_, fun hst => hvoid _ _ (by simp [hst, PState.voidable]) ?_,
      fun hst hsd hh => ⟨fun day slot hd => hvoid _ _ (by simp [hst, PState.voidable]) ?_,
        fun hd => hvoid _ _ (by simp [hst, PState.voidable]) ?_⟩, fun hst hsd => hvoid _ _ (by simp [hst, PState.voidable]) ?_⟩
    · rw [State.voidEffect_waitPlate hst, ← hblocks.1, ← hblocks.2]
    · rw [State.voidEffect_measuring hst, hblocks.1, ← hblocks.2]
      rfl
    · rw [State.voidEffect_standing hst hsd, hblocks.2, DispatchTable.release_entry hh hd, ← hblocks.1]
      rfl
    · rw [State.voidEffect_standing hst hsd, hblocks.2, DispatchTable.release_deferred hh hd, ← hblocks.1]
      rfl
    · rw [State.voidEffect_withdrawn hst hsd, hblocks.2, ← hblocks.1]
      rfl

/-- Settles O13: the booking's release and the label's way out, or the end of ask and booking. -/
theorem voidPendingAndSeeking : Obligations.VoidPendingAndSeeking := by
  refine ⟨?_, ?_⟩
  · intro s tag older younger p hs h ht hst hm report room queue reports order reported after emptied
    let parted : State := { s with dispatch := s.dispatch.release p, queue := queue, link := reported }
    have hvoid : ∀ label link, parted.discardLabel p.tag = { parted with label := label, link := link } →
        after label link := by
      intro label link he
      refine next_command hs (ht ▸ (h.void_of_voidable (ht ▸ hm) (by simp [hst, PState.voidable])).trans ?_)
      rw [State.voidEffect_labelPending hst, h.endParcel]
      exact congrArg (State.respond · 3 .ok []) he
    have hclock : parted.dispatch.clock = s.dispatch.clock := s.dispatch.release_clock p
    exact ⟨DispatchTable.release_of_not_holds, fun day slot hh hd => DispatchTable.release_entry hh hd,
      fun hh hd => DispatchTable.release_deferred hh hd, fun hslot => hvoid _ _ (State.discardLabel_of_unslotted (s := parted) hslot),
      fun l hl hlt => ⟨fun hline => hvoid _ _ (hclock ▸ State.discardLabel_to_fault (s := parted) hl hlt hline),
        fun hline ho => hvoid _ _ (State.discardLabel_to_idle (s := parted) hl hlt hline ho),
        fun l' rest hline ho => hvoid _ _ (State.discardLabel_to_next (s := parted) hl hlt hline ho)⟩⟩
  · intro s tag older younger p a hs h ht hst hl ha hm report room queue reports
    refine next_command hs (ht ▸ (h.void_of_voidable (ht ▸ hm) (by simp [hst, PState.voidable])).trans ?_)
    rw [h.endParcel]
    refine congrArg (State.respond · 3 .ok []) (State.voidEffect_seeking (a := a) hst ?_ ?_)
    · exact hl
    · exact ha

end Sys2Proof.Machine
end


section
/-! CONFIRM taken, FETCH and the plate timeout; the events of the memories; the scan step within a round; the day change. -/

namespace Sys2Proof.Machine

/-! ### CONFIRM taken -/

section ConfirmTaken
variable {s : State}

/-- With the fault line clear the printer goes on from IDLE in its own block (R181). -/
theorem State.printerSettle_label (h : s.label.printer = .idle → s.label.faultLine = false) :
    ∃ u, s.printerSettle = s.setLabel u := by
  unfold State.printerSettle
  split
  next hi =>
    rw [h hi, if_neg Bool.false_ne_true]
    split
    · exact ⟨_, rfl⟩
    · exact ⟨s.label, rfl⟩
  next => exact ⟨s.label, rfl⟩

theorem State.printerSettle_of_slot (h : s.label.printer = .idle → s.label.faultLine = false) (hs : s.label.slot ≠ none) :
    s.printerSettle = s := by
  unfold State.printerSettle
  split
  next hi =>
    rw [h hi, if_neg Bool.false_ne_true]
    split
    next hn _ => exact absurd hn hs
    next => rfl
  next => rfl

/-- A cell write joins writes that hold none at their end (R178). -/
theorem Loader.askCell_of_idle {l : Loader} (h : l.cellWriting = false) (day blockEnd : Nat) (daily : Bool) :
    l.askCell day blockEnd daily = { l with writes := l.writes ++ [.cell day blockEnd daily] } := by
  have hnone : ∀ w ∈ l.writes, w.isCell = false := by simpa [Loader.cellWriting] using h
  unfold Loader.askCell
  cases hw : l.writes with
  | nil => rfl
  | cons w rest =>
    have hrest : rest.filter (fun x => !x.isCell) = rest :=
      List.filter_eq_self.2 fun x hx => by simp [hnone x (hw ▸ List.mem_cons_of_mem _ hx)]
    simp only [hrest, List.cons_append]

end ConfirmTaken

/-- Settles O11: the record's change, then the serial's with its cell write, then the printer's. -/
theorem confirmTaken : Obligations.ConfirmTaken := by
  intro s tag quote older younger p serial day hs hw h ht hst hsd hq hyoung hserial hlt hline digits label
  have hc : confirmRefusal s.queue.parcels p quote.toNat = none := by
    rw [h.confirmRefusal_of_standing hst hsd hq, if_neg (by simpa using hyoung)]
  have htest : s.confirm tag.toNat quote.toNat = s.confirmTaken p serial day := by
    rw [State.confirm_of_idle hw, ← ht, h.testConfirm_of_serial hc hserial, if_pos hlt]
  let taken : State := { s with
    queue := { s.queue with parcels := older ++ { p with state := .labelPending, tracking := some digits } :: younger }
    loader := if (serial + 1) % 100 = 0 then s.loader.askCell day (blockEndOf (serial + 1)) false else s.loader
    label := { s.label with serial := some (serial + 1, day), printOrder := s.label.printOrder ++ [label] } }
  have htaken : s.confirmTaken p serial day = taken.printerSettle.respond 2 .ok (digits.map byteOf) := by
    unfold State.confirmTaken
    dsimp only
    rw [State.setSerial_eq, State.updateParcel, h.update]
    rfl
  have hloader : taken.loader = { s.loader with
      writes := if (serial + 1) % 100 = 0 then s.loader.writes ++ [.cell day (min (serial + 101) 999999) false]
        else s.loader.writes } := by
    show ite _ _ _ = _
    split
    · rw [Loader.askCell_of_idle hw]
      rfl
    · rfl
  obtain ⟨u, hu⟩ := State.printerSettle_label (s := taken) hline
  refine ⟨_, next_command hs (htest.trans htaken), ?_, ?_, ?_, fun hbusy => ?_, fun hidle hslot horder => ?_, ?_⟩
  · rw [hu]
    rfl
  · rw [hu]
    rfl
  · rw [hu]
    exact hloader
  · obtain hbusy | hslot := hbusy
    · rw [State.printerSettle_of_busy (s := taken) hbusy]
      rfl
    · rw [State.printerSettle_of_slot (s := taken) hline hslot]
      rfl
  · have hfirst : taken.label.printOrder = label :: s.label.printOrder := by
      show s.label.printOrder ++ [label] = _
      rw [horder]
      rfl
    rw [State.printerSettle_of_label (s := taken) hidle (hline hidle) hslot hfirst]
    rfl
  · rw [hu]
    rfl

/-! ### FETCH -/

section Fetch

theorem olderOwed_of_none {a : Option (Nat × Parcel)} {p : Parcel} (h : p.owed = none) : olderOwed a p = a := by
  simp only [olderOwed, h]

theorem olderOwed_none {p : Parcel} {o : Owed} (h : p.owed = some o) : olderOwed none p = some (o.due, p) := by
  simp only [olderOwed, h]

theorem olderOwed_some {p q : Parcel} {o : Owed} {d : Nat} (h : p.owed = some o) :
    olderOwed (some (d, q)) p = if o.due < d then some (o.due, p) else some (d, q) := by
  simp only [olderOwed, h]

theorem foldl_olderOwed_of_none {ps : List Parcel} (h : ∀ p ∈ ps, p.owed = none) (a : Option (Nat × Parcel)) :
    ps.foldl olderOwed a = a := by
  induction ps with
  | nil => rfl
  | cons p ps ih =>
    rw [List.foldl_cons, olderOwed_of_none (h p List.mem_cons_self)]
    exact ih fun q hq => h q (List.mem_cons_of_mem _ hq)

/-- What records due after an instant leave the oldest owed at is due after it too. -/
theorem foldl_olderOwed_later {ps : List Parcel} {due : Nat} (h : ∀ p ∈ ps, ∀ o, p.owed = some o → due < o.due)
    {a : Option (Nat × Parcel)} (ha : ∀ x, a = some x → due < x.1) : ∀ x, ps.foldl olderOwed a = some x → due < x.1 := by
  induction ps generalizing a with
  | nil => exact ha
  | cons p ps ih =>
    refine ih (fun q hq => h q (List.mem_cons_of_mem _ hq)) ?_
    cases ho : p.owed with
    | none => rwa [olderOwed_of_none ho]
    | some o =>
      have hlater := h p List.mem_cons_self o ho
      cases a with
      | none => simpa [olderOwed_none ho] using hlater
      | some x =>
        have hx := ha x rfl
        rw [olderOwed_some ho]
        split <;> simpa

/-- A record whose report fell due before all others' stays the oldest. -/
theorem foldl_olderOwed_stays {ps : List Parcel} {due : Nat} (h : ∀ p ∈ ps, ∀ o, p.owed = some o → due < o.due)
    (p : Parcel) : ps.foldl olderOwed (some (due, p)) = some (due, p) := by
  induction ps with
  | nil => rfl
  | cons q ps ih =>
    have hq : olderOwed (some (due, p)) q = some (due, p) := by
      cases ho : q.owed with
      | none => exact olderOwed_of_none ho
      | some o => rw [olderOwed_some ho, if_neg (Nat.not_lt.2 (h q List.mem_cons_self o ho).le)]
    rw [List.foldl_cons, hq]
    exact ih fun r hr => h r (List.mem_cons_of_mem _ hr)

theorem State.Holds.oldestOwed {s : State} {older younger : List Parcel} {p : Parcel} {o : Owed}
    (h : s.Holds older p younger) (ho : p.owed = some o)
    (hdue : ∀ q ∈ older ++ younger, ∀ o', q.owed = some o' → o.due < o'.due) : s.queue.oldestOwed = some p := by
  have hfirst : olderOwed (older.foldl olderOwed none) p = some (o.due, p) := by
    have hlater := foldl_olderOwed_later (a := none) (fun q hq => hdue q (List.mem_append_left _ hq)) (by simp)
    cases hf : older.foldl olderOwed none with
    | none => exact olderOwed_none ho
    | some x => rw [olderOwed_some ho, if_pos (hlater x hf)]
  rw [ParcelQueue.oldestOwed, h.1, List.foldl_append, List.foldl_cons, hfirst,
    foldl_olderOwed_stays fun q hq => hdue q (List.mem_append_right _ hq)]
  rfl

theorem State.placeOwed_of_none {s : State} (h : ∀ p ∈ s.queue.parcels, p.owed = none) : s.placeOwed = s := by
  have hold : s.queue.oldestOwed = none := by rw [ParcelQueue.oldestOwed, foldl_olderOwed_of_none h]; rfl
  rw [State.placeOwed, hold]
  exact ite_self s

theorem PState.final_iff (st : PState) : st.final = true ↔ st = .done ∨ st = .void ∨ st = .rejected := by
  cases st <;> simp [PState.final]

theorem State.Holds.placeOwed {s : State} {older younger : List Parcel} {p : Parcel} {o : Owed}
    (h : s.Holds older p younger) (hroom : s.link.reports.length < 16) (ho : p.owed = some o)
    (hdue : ∀ q ∈ older ++ younger, ∀ o', q.owed = some o' → o.due < o'.due) :
    s.placeOwed = { s with
      queue := { s.queue with
        parcels := if p.state = .done ∨ p.state = .void ∨ p.state = .rejected then older ++ younger
          else older ++ { p with owed := none } :: younger }
      link := { s.link with reports := s.link.reports ++ [o.report] } } := by
  rw [State.placeOwed, if_pos (Link.hasRoom_iff.2 hroom), h.oldestOwed ho hdue]
  simp only [ho, PState.final_iff, h.remove, h.update]
  split <;> rfl

theorem State.fetch_of_empty {s : State} (h : s.link.reports = []) : s.fetch = s.respond 4 .ok [0] := by
  rw [State.fetch, h]
  rfl

theorem State.fetch_of_report {s : State} {r : Report} {rest : List Report} (h : s.link.reports = r :: rest) :
    s.fetch = State.placeOwed { s with
      link := { s.link with reports := rest, response := some ⟨4, .ok, reportBytes (some r)⟩ } } := by
  rw [State.fetch, h]
  rfl

end Fetch

/-- Settles O14: the report taken, and the free place offered to the oldest of those owed. -/
theorem fetchReturnsOldest : Obligations.FetchReturnsOldest := by
  intro s hs
  exact ⟨fun hr => next_command hs (State.fetch_of_empty hr),
    fun r rest hr hnone => next_command hs ((State.fetch_of_report hr).trans (State.placeOwed_of_none hnone)),
    fun r rest older p younger o hr hroom h ho hdue =>
      next_command hs ((State.fetch_of_report hr).trans (State.Holds.placeOwed h hroom ho hdue))⟩

/-! ### The plate timeout -/

section PlateTimeout
variable {s : State} {older younger : List Parcel} {p : Parcel} {due : Nat}

theorem State.plateTimeout_of_early (hin : s.queue.inState .waitPlate = some p) (hdue : p.plateDue = some due)
    (h : s.timer.ms < due) : s.plateTimeout = s := by
  simp only [State.plateTimeout, hin, hdue, expired, decide_eq_false (Nat.not_le.2 h)]
  exact if_neg Bool.false_ne_true

theorem State.plateTimeout_of_due (hin : s.queue.inState .waitPlate = some p) (hdue : p.plateDue = some due)
    (h : due ≤ s.timer.ms) : s.plateTimeout = (s.endParcel p .void (some .plateTimeout)).meetVoid p.tag := by
  simp only [State.plateTimeout, hin, hdue, expired, decide_eq_true h]
  exact if_pos trivial

/-- An event and a VOID of the record meet, as the statements say it (log entry 34). -/
theorem State.meetVoid_eq (s : State) (tag : Nat) : s.meetVoid tag = { s with link := { s.link with
    metVoid := if s.pending.find? (fun c => (encodeMessage c).isSome) = some (.void (BitVec.ofNat 8 tag)) ∧
      s.link.held = none then some tag else s.link.metVoid } } := by
  rw [State.meetVoid, State.nextCommand_eq]
  split
  next h => rw [if_pos (by exact h)]; rfl
  next h => rw [if_neg (by exact h)]

end PlateTimeout

/-- Settles O32: the record's end, the VOID met, and the step that refuses it. -/
theorem plateTimeoutVoids : Obligations.PlateTimeoutVoids := by
  intro s older younger p due hs h hp holder hdue report together met
  have hin := h.inState hp holder
  have hend : due ≤ s.timer.ms → exec .plateTimeout s =
      .next ((s.endParcel p .void (some .plateTimeout)).meetVoid p.tag) := fun hd =>
    next_event hs (State.plateTimeout_of_due hin hdue hd)
  refine ⟨fun hd => next_event hs (State.plateTimeout_of_early hin hdue hd), fun hd hroom => ?_, fun hd hfull => ?_,
    fun tag rest hd hready ht hpending => ⟨_, hend hd, ?_⟩⟩
  · rw [hend hd, h.endParcel, decide_eq_true hroom, State.meetVoid_eq]
    simp only [if_true, List.append_nil]
    rfl
  · rw [hend hd, h.endParcel, decide_eq_false (Nat.not_lt.2 hfull), State.meetVoid_eq]
    simp only [Bool.false_eq_true, if_false, List.append_assoc, List.singleton_append]
    rfl
  · have hmet : s.pending.find? (fun c => (encodeMessage c).isSome) = some (.void (BitVec.ofNat 8 p.tag)) ∧
        s.link.held = none := by
      rw [hpending, ht]
      exact ⟨by simp [encodeMessage], hready.2.1⟩
    rw [h.endParcel, State.meetVoid_eq]
    dsimp only
    rw [if_pos hmet, step]
    dsimp only
    rw [hpending]
    exact next_command hready (ht ▸ State.void_met _ _ rfl)

end Sys2Proof.Machine
end


section
/-! The events of the memories, the day change, the scan step within a round, and the plate's stages. -/

namespace Sys2Proof.Machine

/-! ### The memories -/

/-- Settles O24: the test of SET-NEXT-CONFIG, and the two ways its write ends. -/
theorem nextConfigWrites : Obligations.NextConfigWrites := by
  intro s record
  refine ⟨fun hs f hf => next_always hs ?_, fun hs hf => next_always hs ?_, fun hs hw m => next_event hs ?_,
    fun rest hs hok hw => ⟨⟨_, next_event hs (t := s.recordWritten record true) ?_, ?_, ?_, ?_⟩,
      _, next_event hs (t := s.recordWritten record false) ?_, ?_, ?_⟩⟩
  · rw [State.setNextConfig, hf]
    rfl
  · rw [State.setNextConfig, hf]
    rfl
  · cases hws : s.loader.writes with
    | nil => rfl
    | cons w rest =>
      cases w with
      | cell => rfl
      | record r => simp [hws] at hw
  · rw [hw]
  · intro i b hb
    obtain ⟨hi, rfl⟩ := List.getElem?_eq_some_iff.1 hb
    have hread := Memory.read_writeBytes_inside (m := s.loader.mem) 0 i record record[i] hok.1 hb
    rw [Nat.zero_add] at hread
    exact hread
  · exact fun a ha => Memory.read_writeBytes_outside _ 0 a record (.inr (by simpa using ha))
  · simp only [State.recordWritten, if_true, hw]
    rfl
  · rw [hw]
  · exact fun a ha => Memory.read_writeMixed_outside _ _ 0 a record (.inr (by simpa using ha))
  · simp only [State.recordWritten, Bool.false_eq_true, if_false, hw]
    rfl

theorem length_cellBytes (day blockEnd : Nat) : (cellBytes day blockEnd).length = 7 := rfl

theorem State.releaseConfirm_of_unheld {s : State} (h : s.link.held = none) : s.releaseConfirm = s := by
  rw [State.releaseConfirm, h]

theorem State.releaseConfirm_of_idle {s : State} {tag quote : Nat} (h : s.link.held = some (.confirm tag quote))
    (hw : s.loader.cellWriting = false) :
    s.releaseConfirm = (s.setLink { s.link with held := none }).testConfirm tag quote := by
  rw [State.releaseConfirm, h]
  exact if_neg (by simp [hw])

/-- The end of a cell write, before a held CONFIRM is tested (R178). -/
def State.cellEnded (s : State) (day blockEnd : Nat) (daily matched : Bool) : State :=
  if matched then s.cellWritten day blockEnd daily else s.cellFailed day blockEnd

theorem exec_cellWriteComplete {s : State} {day blockEnd : Nat} {daily : Bool} {rest : List MemWrite}
    (hs : s.powered = true) (hw : s.loader.writes = .cell day blockEnd daily :: rest) (matched : Bool) :
    exec (.cellWriteComplete matched) s = .next (s.cellEnded day blockEnd daily matched).releaseConfirm := by
  refine next_event hs ?_
  rw [hw]
  rfl

theorem State.cellEnded_writing {s : State} {day blockEnd : Nat} {daily matched : Bool} {w : MemWrite}
    {rest : List MemWrite} (hw : s.loader.writes = w :: rest) (hrest : ∀ w ∈ rest, w.isCell = false) :
    (s.cellEnded day blockEnd daily matched).loader.cellWriting = false := by
  cases matched with
  | true =>
    show (s.loader.writes.drop 1).any MemWrite.isCell = false
    rw [hw]
    simpa using hrest
  | false =>
    show ((s.loader.writes.drop 1).filter (fun w => !w.isCell)).any MemWrite.isCell = false
    rw [hw]
    simp

/-- Settles O25: the two ends of a cell write, and the CONFIRM that waited for it. -/
theorem cellWriteEnds : Obligations.CellWriteEnds := by
  intro s day blockEnd daily rest hs hok hw
  refine ⟨fun hheld => ⟨⟨s.cellWritten day blockEnd daily, ?_, ?_, ?_, ?_⟩, s.cellFailed day blockEnd, ?_, ?_, ?_⟩,
    fun tag quote matched hst hheld hrest => ⟨State.cellEnded { s with link := { s.link with held := none } } day blockEnd
      daily matched, ?_, ?_⟩⟩
  · exact (exec_cellWriteComplete hs hw true).trans (congrArg Host.Outcome.next (State.releaseConfirm_of_unheld hheld))
  · exact Memory.readBytes_writeBytes _ _ hok.1
  · exact fun a ha => Memory.read_writeBytes_outside _ _ a _ ha
  · simp only [State.cellWritten, hw, List.drop_succ_cons, List.drop_zero]
    cases s.label.nextCopy <;> rfl
  · exact (exec_cellWriteComplete hs hw false).trans (congrArg Host.Outcome.next (State.releaseConfirm_of_unheld hheld))
  · exact fun a ha => Memory.read_writeMixed_outside _ _ _ a _ ha
  · simp only [State.cellFailed, hw, List.drop_succ_cons, List.drop_zero]
    rfl
  · refine (exec_cellWriteComplete (s := { s with link := { s.link with held := none } }) hs hw matched).trans
      (congrArg Host.Outcome.next (State.releaseConfirm_of_unheld ?_))
    cases matched <;> rfl
  · have hidle := State.cellEnded_writing (s := s) (day := day) (blockEnd := blockEnd) (daily := daily)
      (matched := matched) hw hrest
    have hidle' := State.cellEnded_writing (s := { s with link := { s.link with held := none } }) (day := day)
      (blockEnd := blockEnd) (daily := daily) (matched := matched) hw hrest
    have hready : (State.cellEnded { s with link := { s.link with held := none } } day blockEnd daily matched).Ready := by
      cases matched <;> exact ⟨hs, rfl, hst⟩
    have hstill : (s.cellEnded day blockEnd daily matched).link.held = some (.confirm tag.toNat quote.toNat) := by
      cases matched <;> exact hheld
    rw [exec_cellWriteComplete hs hw, State.releaseConfirm_of_idle hstill hidle]
    refine (next_command hready ((State.confirm_of_idle hidle').trans ?_)).symm
    cases matched <;> rfl

/-! ### The day change and the scan step -/

theorem nextDay_eq (d : Nat) : nextDay d = if d ≥ 366 then 1 else d + 1 := rfl

/-- Settles O33, by whether the serial is resolved. -/
theorem dayChangeResetsSerial : Obligations.DayChangeResetsSerial := by
  intro s c hs hc day
  have hlast : c.ms + 1 = Config.dayMs ↔ c.ms = 86399999 := by
    unfold Config.dayMs
    omega
  refine ⟨fun hms => next_event hs ?_, fun hms hserial => next_event hs ?_, fun hms hserial => next_event hs ?_⟩
  · simp only [hc]
    exact if_neg (mt hlast.1 hms)
  · simp only [hc]
    rw [if_pos (hlast.2 hms), State.labelDay_of_unresolved]
    · rfl
    · exact hserial
  · simp only [hc]
    rw [if_pos (hlast.2 hms), State.labelDay_of_resolved]
    · rfl
    · exact hserial

theorem Plate.endConversion_eq (p : Plate) (l : Loader) (code : BitVec 16) : p.endConversion l code = { p with
    converting := false
    results := match p.converting, l.scanned p.cur with
      | true, some c => p.results.set p.cur (some (convert c code))
      | _, _ => p.results } := by
  unfold Plate.endConversion
  split <;> simp_all

theorem State.scanDue_iff {s : State} : s.scanDue = true ↔
    s.plate.running = true ∧ s.plate.stepDue ≤ s.timer.ms * 1000 + s.timer.us :=
  Bool.and_eq_true_iff.trans (and_congr_right fun _ => decide_eq_true_iff)

/-- Settles O26: an entry before the last writes its result and hands on to the next. -/
theorem scanStepWithinRound : Obligations.ScanStepWithinRound := by
  intro s code hs
  refine ⟨fun h => next_event hs (if_neg fun hdue => ?_),
    fun hrun hdue hcur => next_event hs ((if_pos (State.scanDue_iff.2 ⟨hrun, hdue⟩)).trans ?_)⟩
  · obtain ⟨hrun, hdue⟩ := State.scanDue_iff.1 hdue
    exact h.elim (fun hoff => Bool.false_ne_true (hoff.symm.trans hrun)) (Nat.not_lt.2 hdue)
  · simp only [State.scan, if_pos hcur, if_neg (Nat.succ_ne_zero _), Plate.endConversion_eq]
    rfl

/-! ### The settle band and the zero -/

section Plate
variable {p : Plate} {l : Loader}

theorem Plate.moves_iff {w : Nat} : p.moves l w = true ↔ p.lo + 2 * l.halfWidth < w ∨ (w : Int) < p.lo :=
  Bool.or_eq_true_iff.trans (or_congr decide_eq_true_iff decide_eq_true_iff)

theorem Plate.settleStage_of_moves {w : Nat} (h : p.lo + 2 * l.halfWidth < w ∨ (w : Int) < p.lo) :
    p.settleStage l (.value w) = { p with lo := p.bandLo l w, parity := !p.parity, quiet := 0, history := [] } :=
  if_pos (Plate.moves_iff.2 h)

theorem Plate.settleStage_of_stays {w : Nat} (hl : p.lo ≤ w) (hh : (w : Int) ≤ p.lo + 2 * l.halfWidth) :
    p.settleStage l (.value w) = { p with quiet := satAdd 255 p.quiet 1, history := pushHistory p.history w } :=
  if_neg (mt Plate.moves_iff.1 (by omega))

/-- The band rises by the fewest half-widths that bring its top to the weight (R9). -/
theorem Plate.bandLo_above {w : Nat} (h1 : 1 ≤ l.halfWidth) (h : p.lo + 2 * l.halfWidth < w) :
    ∃ k : Nat, p.bandLo l w = p.lo + k * l.halfWidth ∧ (w : Int) ≤ p.bandLo l w + 2 * l.halfWidth ∧
      p.bandLo l w + l.halfWidth < w := by
  have hlow := le_ceilDiv_mul ((w : Int) - p.hi l).toNat h1
  have hhigh := ceilDiv_mul_lt ((w : Int) - p.hi l).toNat h1
  have heq : p.bandLo l w = p.lo + (ceilDiv ((w : Int) - p.hi l).toNat l.halfWidth * l.halfWidth : Nat) := by
    rw [Plate.bandLo, if_pos (show p.hi l < w from h)]
    push_cast
    rfl
  refine ⟨ceilDiv ((w : Int) - p.hi l).toNat l.halfWidth, by rw [heq]; push_cast; rfl, ?_⟩
  unfold Plate.hi at hlow hhigh heq
  omega

/-- The band falls by the fewest half-widths that bring its bottom to the weight (R9). -/
theorem Plate.bandLo_below {w : Nat} (h1 : 1 ≤ l.halfWidth) (h : (w : Int) < p.lo) :
    ∃ k : Nat, p.bandLo l w = p.lo - k * l.halfWidth ∧ p.bandLo l w ≤ w ∧ (w : Int) < p.bandLo l w + l.halfWidth := by
  have hlow := le_ceilDiv_mul (p.lo - (w : Int)).toNat h1
  have hhigh := ceilDiv_mul_lt (p.lo - (w : Int)).toNat h1
  have heq : p.bandLo l w = p.lo - (ceilDiv (p.lo - (w : Int)).toNat l.halfWidth * l.halfWidth : Nat) := by
    rw [Plate.bandLo, if_neg (by unfold Plate.hi; omega), if_pos h]
    push_cast
    rfl
  refine ⟨ceilDiv (p.lo - (w : Int)).toNat l.halfWidth, by rw [heq]; push_cast; rfl, ?_⟩
  omega

theorem pushHistory_eq {h : List Nat} {w : Nat} (hlen : h.length ≤ 64) :
    pushHistory h w = (h ++ [w]).drop (h.length + 1 - 64) := by
  unfold pushHistory Config.historyLen
  split
  next hlt => rw [show h.length + 1 - 64 = 0 by omega, List.drop_zero]
  next hge => rw [show h.length + 1 - 64 = 1 by omega, List.drop_append_of_le_length (by omega)]

end Plate

/-- Settles O28: the band stays, rises or falls. -/
theorem bandFollowsWeight : Obligations.BandFollowsWeight := by
  intro p l w h1 hquiet hhist q h
  refine ⟨rfl, rfl, ?_⟩
  by_cases habove : p.lo + 2 * l.halfWidth < w
  · have hq : q = { p with lo := p.bandLo l w, parity := !p.parity, quiet := 0, history := [] } :=
      Plate.settleStage_of_moves (.inl habove)
    obtain ⟨k, hk, hw, hnext⟩ := Plate.bandLo_above h1 habove
    rw [hq]
    exact ⟨by dsimp only; omega, hw, ⟨k, hk⟩, fun _ _ => by omega, fun _ => hnext, fun _ => by omega, fun _ => rfl⟩
  by_cases hbelow : (w : Int) < p.lo
  · have hq : q = { p with lo := p.bandLo l w, parity := !p.parity, quiet := 0, history := [] } :=
      Plate.settleStage_of_moves (.inr hbelow)
    obtain ⟨k, hk, hw, hnext⟩ := Plate.bandLo_below h1 hbelow
    rw [hq]
    exact ⟨hw, by dsimp only; omega, ⟨-k, by rw [hk]; push_cast; ring⟩, fun _ _ => by omega, fun _ => by omega,
      fun _ => hnext, fun _ => rfl⟩
  · have hq : q = { p with quiet := satAdd 255 p.quiet 1, history := pushHistory p.history w } :=
      Plate.settleStage_of_stays (by omega) (by omega)
    rw [hq]
    refine ⟨by dsimp only; omega, by dsimp only; omega, ⟨0, by simp⟩, fun _ _ => ?_, fun _ => by omega, fun _ => by omega,
      fun _ => by omega⟩
    have hcount : satAdd 255 p.quiet 1 = if p.quiet = 255 then 255 else p.quiet + 1 := by
      rw [satAdd_one]
      split <;> split <;> omega
    rw [pushHistory_eq hhist, hcount]

/-- Settles O29, along the tests of R6. -/
theorem zeroCaptureRuns : Obligations.ZeroCaptureRuns := by
  intro p l
  refine ⟨fun hz => ?_, fun hz => ⟨fun hsum => ?_, fun x hsum => ?_⟩⟩
  · unfold Plate.capture
    cases h : p.zero with
    | none => exact absurd h hz
    | some z => rfl
  · simp only [Plate.capture, hz, hsum]
  · have hcap : p.capture l =
        if p.capRun = 0 then { p with capRun := 1, capFirst := x, capTotal := x }
        else if (x - p.capFirst).natAbs ≤ l.zeroWindow then
          (if p.capRun + 1 < 8 then { p with capRun := p.capRun + 1, capTotal := p.capTotal + x }
           else { p with capRun := 0, capFirst := 0, capTotal := 0, zero := some (roundDivInt (p.capTotal + x) 8) })
        else { p with capRun := 1, capFirst := x, capTotal := x } := by
      simp only [Plate.capture, hz, hsum]
    have habs : ((x - p.capFirst).natAbs : Int) = |x - p.capFirst| := Int.natCast_natAbs _
    refine ⟨fun h => ?_, fun hrun hwin => ?_⟩
    · rw [hcap]
      obtain h | h := h
      · rw [if_pos h]
      · rw [if_neg (show ¬(x - p.capFirst).natAbs ≤ l.zeroWindow by omega)]
        exact ite_self _
    · rw [hcap, if_neg hrun, if_pos (show (x - p.capFirst).natAbs ≤ l.zeroWindow by omega)]
      refine ⟨fun h => if_pos (by omega), fun h => ?_⟩
      rw [if_neg (by omega)]
      refine ⟨rfl, _, rfl, ?_⟩
      unfold roundDivInt
      push_cast
      omega

/-- Settles O60: every block at reset is empty or at rest. -/
theorem resetMeetsInvariants : Obligations.ResetMeetsInvariants := by
  simp [Obligations.ResetMeetsInvariants, State.reset, State.MemoriesOk, State.PrinterOk, State.HallOk, State.TagsOk,
    State.PlateOk, State.BeltOk, State.Bounded, State.CountersOk, State.UnitsOk, Memory.wf, LabelUnit.powerOn,
    BusController.powerOn, Outfeed.powerOn, Plate.powerOn, Link.powerOn]

end Sys2Proof.Machine
end


section
/-! Equations of the hall bus: changes of state, the conditions raised, contention, failed attempts and endings. -/

namespace Sys2Proof.Machine

/-! ### Changes of bus state -/

section Change
variable {s : State} {b : BusController}

theorem BusController.queuePresence_eq (b : BusController) (join : Bool) :
    b.queuePresence join = { b with presence := some (b.presence.getD ⟨join, none, 0⟩) } := by
  unfold BusController.queuePresence
  split
  next h => rw [h]; rfl
  next p h => rw [h, Option.getD_some, ← h]

theorem BusController.enter_waitFrom (b : BusController) (l : Loader) (now : Nat) (st : BusState) :
    (b.enter l now st).waitFrom = none ∧ (b.enter l now st).changed = b.changed := by
  cases st <;> simp [BusController.enter, BusController.leave, BusController.queuePresence_eq]

/-- BUS-STATE raised, its event carrying the state (R111). -/
theorem State.raiseBus_eq (s : State) : s.raiseBus = { s with
    bus := { s.bus with changed := true }, link := s.risen s.bus.changed .busState s.bus.state } := by
  unfold State.raiseBus State.risen
  cases h : s.bus.changed
  · rfl
  · rw [if_pos rfl, if_pos rfl, ← h]

theorem State.raisePeer_eq (s : State) : s.raisePeer = { s with
    peers := { s.peers with changed := true }, link := s.risen s.peers.changed .peerChange s.bus.state } := by
  unfold State.raisePeer State.risen
  cases h : s.peers.changed
  · rfl
  · rw [if_pos rfl, if_pos rfl, ← h]

theorem State.enterBus_eq (s : State) (st : BusState) :
    s.enterBus st = { s with bus := (s.bus.enter s.loader s.timer.ms st).waits none s.timer.ms } := by
  rw [State.enterBus, State.putBus_eq, (BusController.enter_waitFrom _ _ _ _).1]

/-- A change of bus state: what entering it starts, and BUS-STATE raised (R111). -/
theorem State.changeBus_eq (s : State) (st : BusState) : s.changeBus st = { s with
    bus := { (s.bus.enter s.loader s.timer.ms st).waits none s.timer.ms with changed := true }
    link := s.risen s.bus.changed .busState st } := by
  have hchanged : ((s.bus.enter s.loader s.timer.ms st).waits none s.timer.ms).changed = s.bus.changed :=
    (BusController.enter_waitFrom _ _ _ _).2
  have hstate : ((s.bus.enter s.loader s.timer.ms st).waits none s.timer.ms).state = st :=
    BusController.enter_state _ _ _ _
  rw [State.changeBus, State.raiseBus_eq, State.enterBus_eq]
  simp only [hchanged, hstate, State.risen]

theorem State.timed_of_due {st : BusState} {due : Nat} {d : Option Nat} {run : State → State} (hst : s.bus.state = st)
    (hd : d = some due) (h : due ≤ s.timer.ms) : s.timed st d run = run s :=
  if_pos ⟨hst, by rw [hd]; exact decide_eq_true h⟩

end Change

/-! ### Failed attempts -/

section Fails
variable {s : State} {b : BusController} {k : TxKind}

theorem BusController.fails_countFail_le (b : BusController) (k : TxKind) : (b.countFail k).fails k ≤ b.fails k + 1 := by
  cases k with
  | give => cases h : b.gives <;> simp [BusController.countFail, BusController.fails, h]
  | ask => cases h : b.ask <;> simp [BusController.countFail, BusController.fails, h]
  | presence => cases h : b.presence <;> simp [BusController.countFail, BusController.fails, h]

theorem BusController.fails_countFail (h : b.fails k ≠ 0) : (b.countFail k).fails k = b.fails k + 1 := by
  cases k with
  | give => cases hg : b.gives <;> simp_all [BusController.countFail, BusController.fails]
  | ask => cases ha : b.ask <;> simp_all [BusController.countFail, BusController.fails]
  | presence => cases hp : b.presence <;> simp_all [BusController.countFail, BusController.fails]

theorem BusController.countFail_give {g : TxGive} {rest : List TxGive} (h : b.gives = g :: rest) :
    b.countFail .give = { b with
      gives := { g with fails := g.fails + 1 } :: rest, sending := none, waitFrom := none
      failedAttempts := if 255 ≤ b.failedAttempts then 255 else b.failedAttempts + 1 } := by
  rw [← satAdd_one, BusController.countFail, h]
  rfl

theorem BusController.countFail_ask {a : TxAsk} (h : b.ask = some a) : b.countFail .ask = { b with
    ask := some { a with fails := a.fails + 1 }, sending := none, waitFrom := none
    failedAttempts := if 255 ≤ b.failedAttempts then 255 else b.failedAttempts + 1 } := by
  rw [← satAdd_one, BusController.countFail, h]
  rfl

theorem BusController.countFail_presence {p : TxPresence} (h : b.presence = some p) : b.countFail .presence = { b with
    presence := some { p with fails := p.fails + 1 }, sending := none, waitFrom := none
    failedAttempts := if 255 ≤ b.failedAttempts then 255 else b.failedAttempts + 1 } := by
  rw [← satAdd_one, BusController.countFail, h]
  rfl

theorem BusController.fails_give {g : TxGive} {rest : List TxGive} (h : b.gives = g :: rest) : b.fails .give = g.fails := by
  rw [BusController.fails, h]

theorem BusController.fails_ask {a : TxAsk} (h : b.ask = some a) : b.fails .ask = a.fails := by
  rw [BusController.fails, h]

theorem BusController.fails_presence {p : TxPresence} (h : b.presence = some p) : b.fails .presence = p.fails := by
  rw [BusController.fails, h]

/-- A failed attempt before the eighth is counted, and the frame waits anew (R117). -/
theorem State.failAttempt_of_lt (h : s.bus.fails k < 7) :
    s.failAttempt k = { s with bus := (s.bus.countFail k).waits none s.timer.ms } := by
  have hlt : ((s.bus.countFail k).waits none s.timer.ms).fails k < 8 := by
    have hle := s.bus.fails_countFail_le k
    have hsame : ((s.bus.countFail k).waits none s.timer.ms).fails k = (s.bus.countFail k).fails k := by cases k <;> rfl
    omega
  rw [State.failAttempt, State.putBus_eq]
  exact if_pos hlt

/-- The eighth failed attempt abandons the frame (R117). -/
theorem State.failAttempt_of_seven (h : s.bus.fails k = 7) :
    s.failAttempt k = State.abandon { s with bus := (s.bus.countFail k).waits none s.timer.ms } k := by
  have hge : ¬((s.bus.countFail k).waits none s.timer.ms).fails k < 8 := by
    have heq := BusController.fails_countFail (b := s.bus) (k := k) (by omega)
    have hsame : ((s.bus.countFail k).waits none s.timer.ms).fails k = (s.bus.countFail k).fails k := by cases k <;> rfl
    omega
  rw [State.failAttempt, State.putBus_eq]
  exact if_neg hge

theorem exec_bitError {s : State} (hs : s.powered = true) (h : s.bus.sending = some k) :
    exec .bitError s = .next (State.failAttempt { s with bus := { s.bus with observing := false } } k) := by
  refine next_event hs ?_
  rw [State.whileSending, h]
  rfl

theorem exec_ackSlot {s : State} (hs : s.powered = true) (h : s.bus.sending = some k) (d : Bool) :
    exec (.ackSlot d) s = .next (s.slotSeen k d) := by
  refine next_event hs ?_
  rw [State.whileSending, h]

theorem State.busyDue_iff : s.busyDue = true ↔ ∃ w, s.bus.waitFrom = some w ∧ w + 50 ≤ s.timer.ms := by
  unfold State.busyDue
  cases h : s.bus.waitFrom with
  | none => simp
  | some t =>
    refine decide_eq_true_iff.trans ⟨fun hle => ⟨t, rfl, hle⟩, ?_⟩
    rintro ⟨w, hw, hle⟩
    obtain rfl := Option.some.inj hw
    exact hle

theorem exec_busyLimit {s : State} (hs : s.powered = true) (hk : s.bus.chosen = some k)
    (hw : ∃ w, s.bus.waitFrom = some w ∧ w + 50 ≤ s.timer.ms) : exec .busyLimit s = .next (s.failAttempt k) := by
  refine next_event hs ?_
  rw [State.busyDue_iff.2 hw, hk]

end Fails

/-! ### The endings of frames -/

section Endings
variable {s : State} {k : TxKind} {e : Ending}

theorem State.endFrame_eq (s : State) (k : TxKind) (e : Ending) : s.endFrame k e =
    (State.handBack { s with bus := (s.bus.offeredLeaves k).waits none s.timer.ms } s.bus k e).quotesDue s := by
  rw [State.endFrame, State.putBus_eq]
  rfl

theorem State.abandon_of_lt (h : s.bus.consecutive < 3) :
    s.abandon k = State.endFrame { s with bus := { s.bus with consecutive := s.bus.consecutive + 1 } } k .abandoned := by
  unfold State.abandon
  exact if_pos (show s.bus.consecutive + 1 < 4 by omega)

/-- The QUOTEs due depend on the queue as it was alone. -/
theorem State.quotesDue_congr {s was was' : State} (h : was'.queue = was.queue) : s.quotesDue was' = s.quotesDue was := by
  rw [State.quotesDue, State.quotesDue, h]

theorem State.quotesDue_of_queue {s was : State} (h : s.queue = was.queue) : s.quotesDue was = s :=
  State.quotesDue_none (by rw [h])

theorem State.handBack_give {b : BusController} {g : TxGive} {rest : List TxGive} (h : b.gives = g :: rest) :
    s.handBack b .give e = s.giveEnding g e := by
  rw [State.handBack, h]

theorem State.handBack_presence {b : BusController} {p : TxPresence} (h : b.presence = some p)
    (hp : (p.join && s.bus.state == .announce) = false) : s.handBack b .presence e = s := by
  simp only [State.handBack, h, hp, Bool.false_eq_true, if_false]

/-- A join PRESENCE that completes in ANNOUNCE leads to GATHER (R130). -/
theorem State.handBack_join_done {b : BusController} {p : TxPresence} (h : b.presence = some p) (hj : p.join = true)
    (hst : s.bus.state = .announce) (he : e = .acknowledged ∨ e = .unheard) :
    s.handBack b .presence e = s.changeBus .gather := by
  simp only [State.handBack, h, hj, hst, Bool.true_and, beq_self_eq_true, if_true]
  obtain rfl | rfl := he <;> rfl

/-- After a join PRESENCE abandoned in ANNOUNCE a new one is queued (R130). -/
theorem State.handBack_join_abandoned {b : BusController} {p : TxPresence} (h : b.presence = some p) (hj : p.join = true)
    (hst : s.bus.state = .announce) : s.handBack b .presence .abandoned = s.putBus (s.bus.queuePresence true) := by
  simp only [State.handBack, h, hj, hst, Bool.true_and, beq_self_eq_true, if_true]

end Endings

end Sys2Proof.Machine
end

section
/-! The statements about the bus: timers, contention, the attempts and their endings. -/

namespace Sys2Proof.Machine

/-- Settles O23: the change to ANNOUNCE, and the printer's way on from IDLE. -/
theorem releaseJoinAndPrinterRetry : Obligations.ReleaseJoinAndPrinterRetry := by
  intro s hs
  refine ⟨fun h => next_command hs (if_neg h), fun h => next_command hs ((if_pos h).trans ?_), fun h => ?_,
    fun hf hl hslot => ⟨fun ho => ?_, fun l rest ho => ?_⟩⟩
  · rw [State.changeBus_eq]
    simp only [BusController.enter, BusController.queuePresence_eq]
    rfl
  · have hsame : s.retryPrinter = s := if_neg (by
      rintro ⟨hf, hl⟩
      exact h.elim (fun h => h hf) fun h => Bool.false_ne_true (hl.symm.trans h))
    refine next_command hs ?_
    rw [hsame]
    rfl
  · have hretry : s.retryPrinter = s.setLabel { s.label with printer := .idle } :=
      (if_pos ⟨hf, hl⟩).trans (State.printerSettle_of_empty hl ho)
    refine next_command hs ?_
    rw [hretry]
    rfl
  · have hretry : s.retryPrinter = s.setLabel { s.label with
        printOrder := rest, printer := .printing, atPrinter := some l, printDue := some (s.timer.ms + 5000)
        sent := some (l, s.label.eject), eject := false } :=
      (if_pos ⟨hf, hl⟩).trans (State.printerSettle_of_label rfl hl hslot ho)
    refine next_command hs ?_
    rw [hretry]
    rfl

/-- Settles O41, timer by timer. -/
theorem busTimersAtExpiry : Obligations.BusTimersAtExpiry := by
  intro s due hs hdue now began idle
  refine ⟨fun hst hd => next_event hs ((State.timed_of_due hst hd hdue).trans ?_),
    fun hst hd => next_event hs ((State.timed_of_due hst hd hdue).trans ?_),
    fun hst hd => next_event hs ((State.timed_of_due hst hd hdue).trans ?_),
    fun hst hd => next_event hs (State.timed_of_due hst hd hdue),
    fun hst hd => next_event hs ((State.timed_of_due hst hd hdue).trans ?_)⟩
  · rw [State.changeBus_eq]
    simp only [BusController.waits, BusController.offers, BusController.enter, Bool.and_false]
    rfl
  · rw [State.changeBus_eq]
    cases s.loader.holdAtJoin
    · simp only [Bool.false_eq_true, if_false, BusController.enter, BusController.queuePresence_eq]
      rfl
    · rfl
  · rw [State.changeBus_eq]
    simp only [BusController.enter, BusController.queuePresence_eq]
    rfl
  · rw [BusController.queuePresence_eq, State.putBus_eq]

section Contention
variable {s : State}

theorem State.contention_of_sending {k : TxKind} (h : s.bus.sending = some k) : s.contention = s := by
  unfold State.contention
  rw [h]
  cases s.bus.state <;> rfl

theorem State.contention_of_off (h : s.bus.state = .off) : s.contention = s := by
  unfold State.contention
  rw [h]

theorem State.contention_of_idle (hst : s.bus.state ≠ .off) (h : s.bus.sending = none) :
    s.contention = { s with bus := match s.bus.chosen with
      | some k => BusController.begin { s.bus with observing := true } s.store.edition s.store.routeCount k
      | none => { s.bus with observing := true } } := by
  unfold State.contention
  rw [h]
  cases hs : s.bus.state with
  | off => exact absurd hs hst
  | _ => rfl

theorem BusController.chosen_eq_none_iff {b : BusController} : b.chosen = none ↔ b.offers = false := by
  rw [← BusController.chosen_isSome, Option.isSome_eq_false_iff, Option.isNone_iff_eq_none]

theorem BusController.chosen_eq_presence_iff {b : BusController} : b.chosen = some .presence ↔ b.presence.isSome = true ∧
    (b.state = .active ∧ b.gives = [] ∧ b.ask = none ∨ b.state = .announce) := by
  cases hst : b.state <;> cases hg : b.gives <;> cases ha : b.ask <;> cases hp : b.presence <;>
    simp [BusController.chosen, BusState.maySend, hst, hg, ha, hp]

end Contention

/-- Settles O36: the frame chosen begins, by kind. -/
theorem contentionAndArbitration : Obligations.ContentionAndArbitration := by
  intro s hs
  have hidle : ∀ {b : BusController}, s.bus.state ≠ .off → s.bus.sending = none →
      (match s.bus.chosen with
        | some k => BusController.begin { s.bus with observing := true } s.store.edition s.store.routeCount k
        | none => { s.bus with observing := true }) = b →
      exec .contentionPoint s = .next { s with bus := b } := fun hst hn hb =>
    next_event hs (hb ▸ State.contention_of_idle hst hn)
  refine ⟨fun k hk => ⟨next_event hs (State.contention_of_sending hk), next_event hs ?_⟩,
    fun hn => ⟨next_event hs ?_, fun hoff => next_event hs (State.contention_of_off hoff), fun hst h => hidle hst hn ?_,
      fun g rest hst hg => hidle (by simp [hst]) hn ?_, fun a hst hg ha => hidle (by simp [hst]) hn ?_,
      fun p hst hp => hidle ?_ hn ?_⟩⟩
  · rw [State.whileSending, hk]
    exact State.putBus_eq _ _
  · rw [State.whileSending, hn]
  · have hnone : s.bus.chosen = none := by
      rw [BusController.chosen_eq_none_iff, BusController.offers]
      obtain ⟨h1, h2⟩ | ⟨hp, h | ⟨hg, ha⟩⟩ := h
      · cases hs : s.bus.state <;> simp_all
      · simp [h, hp]
      · cases hs : s.bus.state <;> simp [hg, ha, hp]
    rw [hnone]
  · rw [BusController.chosen_eq_give_iff.2 ⟨hst, by simp [hg]⟩]
    simp only [BusController.begin, hg]
    rfl
  · rw [BusController.chosen_eq_ask_iff.2 ⟨hst, hg, by simp [ha]⟩]
    simp only [BusController.begin, ha]
    rfl
  · rintro hoff
    simp [hoff] at hst
  · rw [BusController.chosen_eq_presence_iff.2 ⟨by simp [hp], hst⟩]
    simp only [BusController.begin, hp]
    cases s.bus.state <;> rfl

/-- Settles O37, kind by kind. -/
theorem failedAttemptIsCounted : Obligations.FailedAttemptIsCounted := by
  intro s hs counted byLimit
  have hbit : ∀ {k} {b : BusController}, s.bus.sending = some k → s.bus.fails k < 7 →
      (BusController.countFail { s.bus with observing := false } k).waits none s.timer.ms = BusController.waits
        { b with
          observing := false, sending := none
          failedAttempts := if 255 ≤ s.bus.failedAttempts then 255 else s.bus.failedAttempts + 1 } none s.timer.ms →
      counted { b with observing := false } (exec .bitError s) := by
    intro k b hk hlt hb
    have hlt' : BusController.fails { s.bus with observing := false } k < 7 := by cases k <;> exact hlt
    exact (exec_bitError hs hk).trans (congrArg Host.Outcome.next
      ((State.failAttempt_of_lt (s := { s with bus := { s.bus with observing := false } }) hlt').trans
        (congrArg (fun b => { s with bus := b }) hb)))
  have hlimit : ∀ {k} {b : BusController}, byLimit k → s.bus.fails k < 7 →
      (s.bus.countFail k).waits none s.timer.ms = BusController.waits
        { b with
          sending := none
          failedAttempts := if 255 ≤ s.bus.failedAttempts then 255 else s.bus.failedAttempts + 1 } none s.timer.ms →
      counted b (exec .busyLimit s) := fun hk hlt hb =>
    (exec_busyLimit hs hk.1 hk.2).trans (congrArg Host.Outcome.next
      ((State.failAttempt_of_lt hlt).trans (congrArg (fun b => { s with bus := b }) hb)))
  refine ⟨fun g rest hg hlt => ?_, fun a ha hlt => ?_, fun p hp hlt => ?_, fun w hw hlt => next_event hs ?_⟩
  · intro b
    have hfails : s.bus.fails .give < 7 := by rwa [BusController.fails_give hg]
    refine ⟨fun hk => ⟨hbit hk hfails ?_, (exec_ackSlot hs hk false).trans (congrArg Host.Outcome.next
      ((State.failAttempt_of_lt hfails).trans ?_))⟩, fun hk => hlimit hk hfails ?_⟩
    · rw [BusController.countFail_give (b := { s.bus with observing := false }) hg]
      rfl
    · rw [BusController.countFail_give hg]
      rfl
    · rw [BusController.countFail_give hg]
      rfl
  · intro b
    have hfails : s.bus.fails .ask < 7 := by rwa [BusController.fails_ask ha]
    refine ⟨fun hk => hbit hk hfails ?_, fun hk => hlimit hk hfails ?_⟩
    · rw [BusController.countFail_ask (b := { s.bus with observing := false }) ha]
      rfl
    · rw [BusController.countFail_ask ha]
      rfl
  · intro b
    have hfails : s.bus.fails .presence < 7 := by rwa [BusController.fails_presence hp]
    refine ⟨fun hk => hbit hk hfails ?_, fun hk => hlimit hk hfails ?_⟩
    · rw [BusController.countFail_presence (b := { s.bus with observing := false }) hp]
      rfl
    · rw [BusController.countFail_presence hp]
      rfl
  · have hdue : s.busyDue = false := by
      rw [← Bool.not_eq_true, State.busyDue_iff]
      rintro ⟨w', hw', hle⟩
      obtain rfl := Option.some.inj (hw'.symm.trans hw)
      omega
    rw [hdue]

end Sys2Proof.Machine
end


section
/-! The endings of frames and the frames received: what an abandoned, completed, or received frame does. -/

namespace Sys2Proof.Machine

/-! ### Abandoned frames -/

section Abandoned
variable {s : State} {k : TxKind} {hears : Bool}

/-- The controller once the frame offered has left after its eighth failed attempt, the fourth not in a row. -/
def BusController.abandoned (b : BusController) (k : TxKind) (now : Nat) : BusController :=
  BusController.waits
    { b with
      gives := if k = .give then b.gives.drop 1 else b.gives
      ask := if k = .ask then none else b.ask
      presence := if k = .presence then none else b.presence
      sending := none, consecutive := b.consecutive + 1
      failedAttempts := if 255 ≤ b.failedAttempts then 255 else b.failedAttempts + 1 }
    none now

/-- The eighth failed attempt, the frame's ending handed back (R117, R121). -/
theorem State.failAttempt_abandons (h : s.bus.fails k = 7) (hc : s.bus.consecutive < 3) :
    s.failAttempt k = (State.handBack { s with bus := s.bus.abandoned k s.timer.ms } (s.bus.countFail k) k .abandoned).quotesDue
      s := by
  rw [State.failAttempt_of_seven h, State.abandon_of_lt (by exact hc), State.endFrame_eq, State.quotesDue_congr (was := s)]
  swap
  · rfl
  have hwas : ∀ (t : State) (w : Option Nat) (n : Nat),
      t.handBack { s.bus.countFail k with waitFrom := w, consecutive := n } k .abandoned =
        t.handBack (s.bus.countFail k) k .abandoned := fun t w n => by cases k <;> rfl
  have hbus : BusController.waits (BusController.offeredLeaves
      { (s.bus.countFail k).waits none s.timer.ms with consecutive := s.bus.consecutive + 1 } k) none s.timer.ms =
        s.bus.abandoned k s.timer.ms := by
    unfold BusController.abandoned
    rw [← satAdd_one]
    cases k with
    | give => cases hg : s.bus.gives <;> simp [BusController.countFail, BusController.offeredLeaves, BusController.waits,
        BusController.offers, hg]
    | ask => rfl
    | presence => rfl
  rw [← hbus]
  exact congrArg (State.quotesDue · s) (hwas _ _ _)

end Abandoned

theorem State.giveEnding_abandoned (s : State) (g : TxGive) : s.giveEnding g .abandoned = { s with
    dispatch := if g.live then
        { s.dispatch.updateEntry g.route g.day g.slot
            (fun e => { e with reserved := e.reserved - g.units, held := e.held - g.units }) with
          stranded := if 65535 < s.dispatch.stranded + g.units then 65535 else s.dispatch.stranded + g.units }
      else s.dispatch } := by
  unfold State.giveEnding
  rw [if_neg (by simp)]
  split <;> rfl

theorem State.sendAsk_eq (s : State) (a : OpenAsk) : s.sendAsk a = { s with
    share := { s.share with openAsk := some { a with phase := .sending } }
    bus := BusController.waits
      { s.bus with
        ask := some {
          askNo := a.askNo, route := a.route, day := a.day, slot := a.slot, units := a.wanted, begun := false, fails := 0 } }
      s.bus.waitFrom s.timer.ms } := by
  rw [State.sendAsk, State.putBus_eq]
  rfl

theorem State.askEnding_of_none {s : State} {e : Ending} (h : s.share.openAsk = none) : s.askEnding e = s := by
  rw [State.askEnding, h]

theorem State.askEnding_of_waiting {s : State} {e : Ending} {a : OpenAsk} (h : s.share.openAsk = some a)
    (hp : a.phase = .waiting) : s.askEnding e = s.sendAsk a := by
  rw [State.askEnding, h]
  simp only [hp]

theorem State.askEnding_of_sending {s : State} {e : Ending} {a : OpenAsk} (h : s.share.openAsk = some a)
    (hp : a.phase = .sending) (he : e = .abandoned ∨ e = .unheard) : s.askEnding e = s.closeAsk.reportAskEnd := by
  rw [State.askEnding, h]
  obtain rfl | rfl := he <;> simp only [hp]

theorem State.askEnding_acknowledged {s : State} {a : OpenAsk} (h : s.share.openAsk = some a) (hp : a.phase = .sending) :
    s.askEnding .acknowledged = { s with share := { s.share with
      openAsk := some { a with phase := .window, windowEnd := s.timer.ms + s.loader.askWindow } } } := by
  rw [State.askEnding, h]
  simp only [hp]
  rfl

theorem State.endAsk_of_open {s : State} {a : OpenAsk} (h : s.share.openAsk = some a) :
    s.endAsk = s.closeAsk.reportAskEnd.quotesDue s := by
  rw [State.endAsk, State.endAskSince, h]

/-- Settles O38, by what each kind's ending hands back. -/
theorem eighthFailureAbandons : Obligations.EighthFailureAbandons := by
  intro s hs hc now abandoned byLimit fails
  have hfails : ∀ {k} {after : Bool → Host.Outcome State Fault Refusal → Prop}, s.bus.fails k = 7 →
      (∀ hears, after hears (.next ((State.handBack
        { s with bus := BusController.abandoned { s.bus with observing := hears } k now } (s.bus.countFail k) k
          .abandoned).quotesDue s))) → fails k after := by
    intro k after hk hafter
    have hfail : ∀ hears, State.failAttempt { s with bus := { s.bus with observing := hears } } k =
        (State.handBack { s with bus := BusController.abandoned { s.bus with observing := hears } k now }
          (s.bus.countFail k) k .abandoned).quotesDue s := by
      intro hears
      have hk' : BusController.fails { s.bus with observing := hears } k = 7 := by cases k <;> exact hk
      refine (State.failAttempt_abandons (s := { s with bus := { s.bus with observing := hears } }) hk' hc).trans ?_
      rw [State.quotesDue_congr (was := s) rfl]
      cases k <;> rfl
    refine ⟨fun hsend => ?_, fun hl => ?_⟩
    · rw [exec_bitError hs hsend, hfail]
      exact hafter _
    · rw [exec_busyLimit hs hl.1 hl.2]
      exact (hfail s.bus.observing) ▸ hafter _
  clear_value fails
  refine ⟨fun g rest hg hg7 => ?_, fun f hf hf7 => ?_, fun p hp hp7 => ?_⟩
  · intro after
    have hk : s.bus.fails .give = 7 := (BusController.fails_give hg).trans hg7
    have hafter : ∀ hears, after hears (.next ((State.handBack
        { s with bus := BusController.abandoned { s.bus with observing := hears } .give now } (s.bus.countFail .give) .give
          .abandoned).quotesDue s)) := by
      intro hears
      rw [BusController.countFail_give hg, State.handBack_give rfl, State.giveEnding_abandoned, State.quotesDue_of_queue (by rfl)]
      simp only [after, BusController.abandoned, hg, if_true, List.drop_succ_cons, List.drop_zero]
      rfl
    refine ⟨hfails hk hafter, fun hsend => ?_⟩
    rw [exec_ackSlot hs hsend]
    have h := hafter s.bus.observing
    rwa [← State.failAttempt_abandons hk hc] at h
  · refine hfails ((BusController.fails_ask hf).trans hf7) fun hears => ?_
    refine ⟨fun ha => ?_, fun a ha hph => ?_, fun a ha hph => ?_⟩
    · rw [State.handBack, State.askEnding_of_none (by exact ha), State.quotesDue_of_queue (by rfl)]
      rfl
    · rw [State.handBack, State.askEnding_of_sending (a := a) (by exact ha) hph (.inl rfl),
        State.endAsk_of_open (a := a) (by exact ha)]
      rfl
    · rw [State.handBack, State.askEnding_of_waiting (a := a) (by exact ha) hph, State.sendAsk_eq, State.quotesDue_of_queue (by rfl)]
      rfl
  · refine hfails ((BusController.fails_presence hp).trans hp7) fun hears => ?_
    rw [BusController.countFail_presence hp]
    by_cases hj : p.join = true ∧ s.bus.state = .announce
    · rw [State.handBack_join_abandoned (p := { p with fails := p.fails + 1 }) rfl hj.1 (by exact hj.2), State.putBus_eq, State.quotesDue_of_queue (by rfl), if_pos hj,
        BusController.queuePresence_eq]
      simp [BusController.abandoned, BusController.waits, BusController.offers, hj.2, abandoned, now]
    · rw [State.handBack_presence (p := { p with fails := p.fails + 1 }) rfl, State.quotesDue_of_queue (by rfl), if_neg hj]
      · rfl
      · simpa [BusController.abandoned, BusController.waits] using hj

/-! ### Completed frames -/

/-- A wait that goes on since now is one that begins now. -/
theorem BusController.waits_of_begun (b c : BusController) (now : Nat) :
    b.waits (c.waits none now).waitFrom now = b.waits none now := by
  have hnow : (c.waits none now).waitFrom.getD now = now := by
    simp only [BusController.waits]
    split <;> rfl
  simp only [BusController.waits, Option.getD_none] at hnow ⊢
  rw [hnow]

/-- The controller once a frame has completed and left (R116, R121). -/
def BusController.completed (b : BusController) (k : TxKind) (e : Ending) (now : Nat) : BusController :=
  BusController.waits
    { b with
      gives := if k = .give then b.gives.drop 1 else b.gives
      ask := if k = .ask then none else b.ask
      presence := if k = .presence then none else b.presence
      sending := none, consecutive := 0
      unheardPresence := if k = .presence ∧ e = .unheard then satAdd 255 b.unheardPresence 1 else b.unheardPresence }
    none now

theorem State.complete_eq (s : State) (k : TxKind) (e : Ending) : s.complete k e =
    (State.handBack { s with bus := s.bus.completed k e s.timer.ms } s.bus k e).quotesDue s := by
  have hwas : ∀ (t : State) (c n : Nat), t.handBack { s.bus with consecutive := c, unheardPresence := n } k e =
      t.handBack s.bus k e := fun t c n => by cases k <;> rfl
  unfold State.complete
  rw [State.endFrame_eq, State.quotesDue_congr (was := s)]
  · exact congrArg (State.quotesDue · s) (hwas _ _ _)
  · rfl

theorem State.slotSeen_dominant (s : State) (k : TxKind) : s.slotSeen k true = s.complete k .acknowledged := rfl

theorem State.slotSeen_presence (s : State) (d : Bool) :
    s.slotSeen .presence d = s.complete .presence (if d then .acknowledged else .unheard) := by
  cases d <;> rfl

theorem State.slotSeen_ask (s : State) (d : Bool) :
    s.slotSeen .ask d = s.complete .ask (if d then .acknowledged else .unheard) := by
  cases d <;> rfl

theorem State.giveEnding_acknowledged (s : State) (g : TxGive) : s.giveEnding g .acknowledged = { s with
    dispatch := if g.live then s.dispatch.updateEntry g.route g.day g.slot
        (fun e => { e with reserved := e.reserved - g.units, held := e.held - g.units })
      else s.dispatch
    peers := s.peers.update g.target (fun p => { p with given := satAdd 65535 p.given g.units }) } := by
  unfold State.giveEnding
  rw [if_pos rfl]
  split <;> rfl

/-- Settles O40, by what each kind's ending hands back. -/
theorem ackSlotCompletesFrames : Obligations.AckSlotCompletesFrames := by
  intro s hs began
  refine ⟨fun d hn => next_event hs ?_, fun g rest hk hg => ?_, fun f a hk hf ha hph => ?_, fun f a d hk hf ha hph => ?_,
    fun p d hk hp hj => ?_, fun p d hk hp hj hst => ?_⟩
  · rw [State.whileSending, hn]
  · rw [exec_ackSlot hs hk, State.slotSeen_dominant, State.complete_eq, State.handBack_give hg,
      State.giveEnding_acknowledged, State.quotesDue_of_queue (by rfl)]
    simp only [BusController.completed, hg]
    rfl
  · rw [exec_ackSlot hs hk, State.slotSeen_dominant, State.complete_eq, State.handBack,
      State.askEnding_acknowledged (a := a) (by exact ha) hph, State.quotesDue_of_queue (by rfl)]
    rfl
  · rw [exec_ackSlot hs hk, State.slotSeen_ask, State.complete_eq, State.handBack,
      State.askEnding_of_waiting (a := a) (by exact ha) hph, State.sendAsk_eq, State.quotesDue_of_queue (by rfl)]
    simp only [BusController.completed, BusController.waits_of_begun]
    cases d <;> rfl
  · rw [exec_ackSlot hs hk, State.slotSeen_presence, State.complete_eq, State.handBack_presence hp,
      State.quotesDue_of_queue (by rfl)]
    · cases d <;> rfl
    · show (p.join && s.bus.state == .announce) = false
      obtain hj | hj := hj <;> simp [hj]
  · rw [exec_ackSlot hs hk, State.slotSeen_presence, State.complete_eq,
      State.handBack_join_done hp hj (by exact hst) (by cases d <;> simp), State.changeBus_eq,
      State.quotesDue_of_queue (by rfl)]
    cases d <;> simp [BusController.enter, BusController.completed, BusController.leave, BusController.waits,
      BusController.offers, State.risen]

end Sys2Proof.Machine
end


section
/-! Frames received: who hears them, what they do to the peer table, and what each kind does besides. -/

namespace Sys2Proof.Machine

/-! ### Hearing (R112) -/

section Hearing
variable {s : State} {b : BusController} {f : Frame} {use : State → State}

theorem BusController.hears_of_idle (hst : b.state ≠ .off) (hn : b.sending = none) (ho : b.observing = true) :
    b.hears = true := by
  simp [BusController.hears, hst, hn, ho]

theorem BusController.hears_of_deaf (h : b.state = .off ∨ b.sending ≠ none ∨ b.observing = false) : b.hears = false := by
  obtain h | h | h := h
  · simp [BusController.hears, h]
  · cases hb : b.sending <;> simp_all [BusController.hears]
  · simp [BusController.hears, h]

theorem State.receive_of_deaf (h : s.bus.hears = false) : s.receive f use = s := if_neg (by simp [h])

/-- The state once a well-formed frame's slot has been driven or left (R115). -/
def State.slotted (s : State) (f : Frame) : State :=
  { s with bus := { s.bus with slotDriven := drivesSlot s.bus.state s.loader.stationNo f } }

theorem State.receive_of_other (hs : s.powered = true) (hh : s.bus.hears = true) (hf : f.wf = true)
    (h : f.sender ≠ s.loader.stationNo) : s.receive f use = use (s.slotted f) := by
  rw [State.receive, if_pos (by simp [hs, hh, hf])]
  exact if_neg h

theorem State.receive_of_own (hs : s.powered = true) (hh : s.bus.hears = true) (hf : f.wf = true)
    (h : f.sender = s.loader.stationNo) : s.receive f use = (s.slotted f).duplicate := by
  rw [State.receive, if_pos (by simp [hs, hh, hf])]
  exact if_pos h

end Hearing

/-! ### The peer table -/

section Peers
variable {s : State} {p : Peer} {sender : Nat}

theorem PeerTable.find_eq_none_iff {t : PeerTable} {station : Nat} :
    t.find station = none ↔ ∀ q ∈ t.peers, q.station ≠ station := by
  simp [PeerTable.find]

theorem PeerTable.station_of_find {t : PeerTable} {station : Nat} (h : t.find station = some p) : p.station = station := by
  simpa using List.find?_some h

/-- The silence timer's expiry: SILENT, and PEER-CHANGE for another status before (R136). -/
theorem State.silence_eq (s : State) (p : Peer) : s.silence p = { s with
    peers := { s.peers with
      peers := s.peers.peers.map (fun q => if q.station = p.station then { q with status := .silent, timing := false } else q)
      changed := s.peers.changed || p.status != .silent }
    link := if p.status = .silent then s.link else s.risen s.peers.changed .peerChange s.bus.state } := by
  unfold State.silence
  by_cases h : p.status = .silent
  · simp only [h, if_true, bne_self_eq_false, Bool.or_false]
    rfl
  · simp only [h, if_false, State.raisePeer_eq, bne_iff_ne.2 h, Bool.or_true]
    rfl

theorem insertPeer_split {ps : List Peer} (h : ∀ q ∈ ps, q.station ≠ p.station) : ∃ before after, ps = before ++ after ∧
    (∀ q ∈ before, q.station < p.station) ∧ (∀ q ∈ after.head?, p.station < q.station) ∧
    insertPeer p ps = before ++ p :: after := by
  induction ps with
  | nil => exact ⟨[], [], rfl, by simp, by simp, rfl⟩
  | cons q rest ih =>
    rw [insertPeer]
    by_cases hlt : p.station < q.station
    · exact ⟨[], q :: rest, rfl, by simp, by simpa using hlt, if_pos hlt⟩
    · obtain ⟨before, after, hrest, hbefore, hafter, hins⟩ := ih fun x hx => h x (List.mem_cons_of_mem _ hx)
      have hq : q.station < p.station := by
        have hne := h q List.mem_cons_self
        omega
      exact ⟨q :: before, after, by rw [hrest]; rfl, by simpa [hq] using hbefore, hafter, by rw [if_neg hlt, hins]; rfl⟩

theorem State.takePresence_of_unknown {edition code routes : Nat} {join : Bool} (h : s.peers.find sender = none) :
    s.takePresence sender edition code routes join = { s with
      peers := { s.peers with
        peers := insertPeer (newPeer s.store.edition s.timer.ms s.dispatch.clock sender edition code routes) s.peers.peers
        changed := true }
      link := s.risen s.peers.changed .peerChange s.bus.state } := by
  rw [State.takePresence, h]
  exact State.raisePeer_eq _

theorem State.takePresence_of_known {edition code routes : Nat} {join : Bool} (h : s.peers.find sender = some p) :
    s.takePresence sender edition code routes join = { s with
      peers := { s.peers with
        peers := s.peers.peers.map (fun q => if q.station = sender then
          q.refreshed s.store.edition s.timer.ms s.dispatch.clock edition code routes join else q)
        changed := if p.status = statusFor s.store.edition edition then s.peers.changed else true }
      link := if p.status = statusFor s.store.edition edition then s.link
        else s.risen s.peers.changed .peerChange s.bus.state } := by
  rw [State.takePresence, h]
  dsimp only
  by_cases hst : p.status = statusFor s.store.edition edition
  · simp only [if_pos hst]
    rfl
  · simp only [if_neg hst, State.raisePeer_eq]
    rfl

theorem State.answerJoin_eq (s : State) (join : Bool) : s.answerJoin join = { s with
    bus := if join && s.bus.state == .active then BusController.waits
        { s.bus with presence := some (s.bus.presence.getD ⟨false, none, 0⟩) } s.bus.waitFrom s.timer.ms
      else s.bus } := by
  unfold State.answerJoin
  split
  · rw [State.putBus_eq, BusController.queuePresence_eq]
  · rfl

theorem State.fromPeer_of_unknown {use : Peer → State → State} (h : s.peers.find sender = none) :
    s.fromPeer sender use = { s with bus := { s.bus with unknownSender := satAdd 255 s.bus.unknownSender 1 } } := by
  rw [State.fromPeer, h]
  rfl

theorem State.fromPeer_of_known {use : Peer → State → State} (h : s.peers.find sender = some p) :
    s.fromPeer sender use = use p (s.refreshPeer sender) := by
  rw [State.fromPeer, h]

end Peers

/-- Settles O42: the silence timer, and what a station hears. -/
theorem silenceAndDiscardedFrames : Obligations.SilenceAndDiscardedFrames := by
  intro s station p bytes hs
  refine ⟨fun hp => ⟨fun hlt => next_event hs ?_, fun hle htiming => next_event hs ?_⟩,
    fun hst hn ho hparse => next_event hs (if_pos ⟨BusController.hears_of_idle hst hn ho, hparse⟩), fun h => ?_⟩
  · have hfind : s.peers.find station = some p := hp
    rw [hfind]
    exact if_neg (by simp [Peer.silentNow]; omega)
  · have hfind : s.peers.find station = some p := hp
    rw [hfind, ← PeerTable.station_of_find hfind]
    exact (if_pos (by simp [Peer.silentNow, htiming, hle])).trans (State.silence_eq _ _)
  · have hdeaf := BusController.hears_of_deaf h
    exact ⟨next_event hs (if_neg (by simp [hdeaf])), fun _ _ _ _ _ => congrArg _ (State.receive_of_deaf hdeaf),
      fun _ _ _ _ _ _ => congrArg _ (State.receive_of_deaf hdeaf),
      fun _ _ _ _ _ _ _ _ => congrArg _ (State.receive_of_deaf hdeaf)⟩

/-- Settles O43, for a sender unknown and one known. -/
theorem presenceReceivedSetsPeer : Obligations.PresenceReceivedSetsPeer := by
  intro s sender edition join code routes hs hst hn ho hlow hhigh hother hedition hcode hroutes status same
  have hwf : (Frame.presence sender edition (if join then 1 else 0) code routes).wf = true := by
    cases join <;> simp [Frame.wf, *]
  have hexec : exec (.presenceReceived sender edition join code routes) s =
      .next ((State.takePresence (s.slotted (.presence sender edition (if join then 1 else 0) code routes))
        sender edition code routes join).answerJoin join) :=
    congrArg _ (State.receive_of_other hs (BusController.hears_of_idle hst hn ho) hwf hother)
  have hactive : (join && s.bus.state == .active) = true →
      (s.bus.state == .gather || s.bus.state == .active) = true := by
    intro h
    rw [(Bool.and_eq_true_iff.1 h).2, Bool.or_true]
  have hbus : (if join && s.bus.state == .active then BusController.waits
        { s.bus with slotDriven := true, presence := some (s.bus.presence.getD ⟨false, none, 0⟩) }
        s.bus.waitFrom s.timer.ms
      else { s.bus with slotDriven := s.bus.state == .gather || s.bus.state == .active }) =
      (if join && s.bus.state == .active then BusController.waits
        { s.bus with
          slotDriven := s.bus.state == .gather || s.bus.state == .active
          presence := some (s.bus.presence.getD ⟨false, none, 0⟩) } s.bus.waitFrom s.timer.ms
      else { s.bus with slotDriven := s.bus.state == .gather || s.bus.state == .active }) := by
    split
    next h => rw [hactive h]
    next => rfl
  refine ⟨_, hexec, ?_⟩
  cases hfind : s.peers.find sender with
  | none =>
    have hfresh := PeerTable.find_eq_none_iff.1 hfind
    have hsame : ¬same := by
      rintro ⟨q, hq, -⟩
      exact Option.some_ne_none q (hq.symm.trans hfind)
    rw [State.takePresence_of_unknown (by exact hfind), State.answerJoin_eq]
    refine ⟨fun _ => ?_, fun ⟨q, hq, hqs⟩ => absurd hqs (hfresh q hq), fun h => absurd h hsame, fun _ => ⟨rfl, rfl⟩, ?_⟩
    · obtain ⟨before, after, h, hb, ha, hins⟩ := insertPeer_split
        (p := newPeer s.store.edition s.timer.ms s.dispatch.clock sender edition code routes) hfresh
      exact ⟨before, after, h, hb, ha, hins⟩
    · rw [hbus]
      rfl
  | some p =>
    have hp := PeerTable.station_of_find hfind
    have hmem : p ∈ s.peers.peers := List.mem_of_find?_eq_some hfind
    have hsame : same ↔ p.status = status := by
      refine ⟨?_, fun h => ⟨p, hfind, h⟩⟩
      rintro ⟨q, hq, hqs⟩
      obtain rfl := Option.some.inj (hq.symm.trans hfind)
      exact hqs
    rw [State.takePresence_of_known (p := p) (by exact hfind), State.answerJoin_eq]
    refine ⟨fun h => absurd hp (h p hmem), fun _ => rfl, fun h => ?_, fun h => ?_, ?_⟩
    · exact ⟨if_pos (hsame.1 h), if_pos (hsame.1 h)⟩
    · exact ⟨if_neg (mt hsame.2 h), if_neg (mt hsame.2 h)⟩
    · rw [hbus]
      rfl

/-! ### ASK and GIVE -/

section AskGive
variable {s : State} {p : Peer}

theorem ShareAgent.asksFor_eq_false_iff {a : ShareAgent} {route day slot : Nat} : a.asksFor route day slot = false ↔
    ¬∃ x, a.openAsk = some x ∧ x.route = route ∧ x.day = day ∧ x.slot = slot := by
  unfold ShareAgent.asksFor
  cases a.openAsk <;> simp

/-- An ASK answered: the units reserved and the GIVE queued (R148). -/
theorem State.answerAsk_eq {target askNo route day slot m : Nat} (h : s.bus.gives.length < 4) :
    s.answerAsk target askNo route day slot m = { s with
      dispatch := s.dispatch.updateEntry route day slot (fun e => { e with reserved := e.reserved + m })
      share := { s.share with nextGive := cycle 0 255 s.share.nextGive }
      bus := BusController.waits
        { s.bus with
          gives := s.bus.gives ++ [
            {
              target := target, askNo := askNo, giveNo := s.share.nextGive, route := route, day := day, slot := slot
              units := m, begun := false, fails := 0, live := true }] }
        s.bus.waitFrom s.timer.ms } := by
  rw [State.answerAsk, State.putBus_eq, BusController.queueGive, if_pos (by exact h)]
  rfl

theorem State.takeAsk_of_open {askNo route day slot units : Nat} {e : Entry} (h : s.dispatch.entry route day slot = some e) :
    s.takeAsk p askNo route day slot units =
      if p.status = .present ∧ s.share.asksFor route day slot = false ∧ s.bus.gives.length < 4 ∧ 0 < s.spare route e then
        s.answerAsk p.station askNo route day slot (min units (s.spare route e))
      else s := by
  rw [State.takeAsk, h]
  rfl

theorem State.takeAsk_of_closed {askNo route day slot units : Nat} (h : s.dispatch.entry route day slot = none) :
    s.takeAsk p askNo route day slot units = s := by
  rw [State.takeAsk, h]

end AskGive

/-- Settles O44, by the conditions of R147. -/
theorem askReceivedIsAnswered : Obligations.AskReceivedIsAnswered := by
  intro s p sender askNo route day slot units hs hst hn ho hother hwf hfind keep spare ownAsk answers heard
  have hexec : ∀ {t : State}, (if s.bus.state = .active then
      (State.refreshPeer (s.slotted (.ask sender askNo route day slot units)) sender).takeAsk p askNo route day slot units
      else (s.slotted (.ask sender askNo route day slot units)).refreshPeer sender) = t →
      exec (.askReceived sender askNo route day slot units) s = .next t := fun h =>
    congrArg _ ((State.receive_of_other hs (BusController.hears_of_idle hst hn ho) hwf hother).trans
      ((State.fromPeer_of_known (by exact hfind)).trans h))
  have hsender := PeerTable.station_of_find hfind
  refine ⟨fun e he ⟨hactive, hpresent, hask, hgives⟩ hspare => hexec ?_, fun h => hexec ?_⟩
  · rw [if_pos hactive, State.takeAsk_of_open (e := e) (by exact he), if_pos, State.answerAsk_eq (by exact hgives)]
    · simp only [State.slotted, State.refreshPeer, drivesSlot, hactive, hsender, beq_self_eq_true, Bool.or_true]
      rfl
    · exact ⟨hpresent, ShareAgent.asksFor_eq_false_iff.2 hask, hgives, hspare⟩
  · have hsame : (s.slotted (.ask sender askNo route day slot units)).refreshPeer sender = { s with
        bus := { s.bus with slotDriven := s.bus.state == .gather || s.bus.state == .active }, peers := heard } := rfl
    split
    next hactive =>
      cases he : s.dispatch.entry route day slot with
      | none => exact (State.takeAsk_of_closed (by exact he)).trans hsame
      | some e =>
        refine (State.takeAsk_of_open (by exact he)).trans ((if_neg ?_).trans hsame)
        rintro ⟨hpresent, hask, hgives, hspare⟩
        obtain h | h | ⟨e', he', hzero⟩ := h
        · exact h ⟨hactive, hpresent, ShareAgent.asksFor_eq_false_iff.1 hask, hgives⟩
        · exact Option.some_ne_none e (he.symm.trans h)
        · obtain rfl := Option.some.inj (he.symm.trans he')
          exact Nat.ne_of_gt hspare hzero
    next => exact hsame

end Sys2Proof.Machine
end


section
/-! Units: a GIVE received, and the GIVEs ended together when the transmit queue is emptied. -/

namespace Sys2Proof.Machine

/-! ### A GIVE received (R151, R152) -/

section Received
variable {s : State} {p : Peer} {askNo giveNo route day slot units : Nat}

theorem DispatchTable.applyUnits_of_open {d : DispatchTable} {e : Entry} (h : d.entry route day slot = some e) :
    d.applyUnits route day slot units =
      { d.updateEntry route day slot (fun e => { e with held := satAdd 65535 e.held units }) with
        expired := satAdd 65535 d.expired (e.held + units - 65535) } := by
  rw [DispatchTable.applyUnits, h]
  rfl

theorem DispatchTable.applyUnits_of_closed {d : DispatchTable} (h : d.entry route day slot = none) :
    d.applyUnits route day slot units = { d with expired := satAdd 65535 d.expired units } := by
  rw [DispatchTable.applyUnits, h]
  rfl

theorem State.matchGive_of_late
    (h : ∀ a, s.share.openAsk = some a → ¬(a.askNo = askNo ∧ a.route = route ∧ a.day = day ∧ a.slot = slot)) :
    s.matchGive askNo route day slot units = { s with share := { s.share with late := satAdd 255 s.share.late 1 } } := by
  unfold State.matchGive
  split
  next a ha => exact if_neg (h a ha)
  next => rfl

theorem State.matchGive_of_short {a : OpenAsk} (h : s.share.openAsk = some a)
    (hm : a.askNo = askNo ∧ a.route = route ∧ a.day = day ∧ a.slot = slot)
    (hlt : satAdd 65535 a.received units < a.wanted) :
    s.matchGive askNo route day slot units =
      { s with share := { s.share with openAsk := some { a with received := satAdd 65535 a.received units } } } := by
  rw [State.matchGive, h]
  exact (if_pos hm).trans (if_neg (Nat.not_le.2 hlt))

theorem State.matchGive_of_enough {a : OpenAsk} (h : s.share.openAsk = some a)
    (hm : a.askNo = askNo ∧ a.route = route ∧ a.day = day ∧ a.slot = slot)
    (hle : a.wanted ≤ satAdd 65535 a.received units) :
    s.matchGive askNo route day slot units = State.endAsk
      { s with share := { s.share with openAsk := some { a with received := satAdd 65535 a.received units } } } := by
  rw [State.matchGive, h]
  exact (if_pos hm).trans (if_pos hle)

/-- The state in which an accepted GIVE is matched: heard, its number remembered, its units applied (R138, R151). -/
def State.given (s : State) (sender giveNo route day slot units : Nat) (driven : Bool) : State :=
  { s with
    bus := { s.bus with slotDriven := driven }
    peers := { s.peers with
      peers := s.peers.peers.map (fun q => if q.station = sender then
        { q with
          lastHeard := s.dispatch.clock, heardMs := s.timer.ms, timing := true, lastGive := some giveNo
          received := satAdd 65535 q.received units } else q) }
    dispatch := s.dispatch.applyUnits route day slot units }

theorem exec_giveReceived {sender target : Nat} {t : State} (hs : s.powered = true) (hh : s.bus.hears = true)
    (hother : sender ≠ s.loader.stationNo)
    (hwf : (Frame.give sender target askNo giveNo route day slot units).wf = true)
    (h : State.fromPeer (s.slotted (.give sender target askNo giveNo route day slot units)) sender (fun p s =>
      if s.bus.state = .active ∧ target = s.loader.stationNo then s.takeGive p askNo giveNo route day slot units
      else s) = t) :
    exec (.giveReceived sender target askNo giveNo route day slot units) s = .next t :=
  congrArg _ ((State.receive_of_other hs hh hwf hother).trans h)

/-- A new GIVE addressed here in ACTIVE is taken (R151, R152). -/
theorem exec_giveReceived_of_taken {sender target : Nat} {t : State} (hs : s.powered = true) (hh : s.bus.hears = true)
    (hother : sender ≠ s.loader.stationNo)
    (hwf : (Frame.give sender target askNo giveNo route day slot units).wf = true) (hp : s.peers.find sender = some p)
    (hactive : s.bus.state = .active) (htarget : target = s.loader.stationNo) (hnew : p.lastGive ≠ some giveNo)
    (h : (s.given sender giveNo route day slot units true).matchGive askNo route day slot units = t) :
    exec (.giveReceived sender target askNo giveNo route day slot units) s = .next t := by
  refine exec_giveReceived hs hh hother hwf ((State.fromPeer_of_known (by exact hp)).trans ((if_pos ?_).trans ?_))
  · exact ⟨hactive, htarget⟩
  · refine (if_neg hnew).trans (Eq.trans (congrArg (State.matchGive · askNo route day slot units) ?_) h)
    have hsender := PeerTable.station_of_find hp
    have hpeers : (s.peers.peers.map (fun q => if q.station = sender then
        { q with lastHeard := s.dispatch.clock, heardMs := s.timer.ms, timing := true } else q)).map
        (fun q => if q.station = p.station then
          { q with lastGive := some giveNo, received := satAdd 65535 q.received units } else q) =
        (s.given sender giveNo route day slot units true).peers.peers := by
      rw [List.map_map, hsender]
      refine List.map_congr_left fun q _ => ?_
      by_cases hq : q.station = sender <;> simp [hq]
    have hdriven : drivesSlot s.bus.state s.loader.stationNo
        (.give sender target askNo giveNo route day slot units) = true := by
      simp [drivesSlot, hactive, htarget]
    simp only [State.slotted, State.refreshPeer, State.given, PeerTable.update, hdriven,
      State.setPeers, State.setDispatch] at hpeers ⊢
    rw [hpeers]

end Received

/-- Settles O45, by who sent the GIVE, whether it is taken, and what it matches. -/
theorem giveReceivedCases : Obligations.GiveReceivedCases := by
  intro s sender target askNo giveNo route day slot units hs hst hn ho hother hwf event taken heard bus
  have hh := BusController.hears_of_idle hst hn ho
  refine ⟨fun hnone => ?_, fun p hp h => ?_, fun p hp ⟨hactive, htarget⟩ hnew => ?_⟩
  · exact exec_giveReceived hs hh hother hwf (State.fromPeer_of_unknown (by exact hnone))
  · refine exec_giveReceived hs hh hother hwf ((State.fromPeer_of_known (by exact hp)).trans ?_)
    split
    next htaken => exact if_pos (h.resolve_left (not_not_intro htaken))
    next => rfl
  · intro accepted applied
    have happlied : ∀ {share : ShareAgent}, (s.given sender giveNo route day slot units true).matchGive askNo route day slot
        units = { s.given sender giveNo route day slot units true with share := share } → applied share := by
      intro share h
      have hdriven : (s.bus.state == .active && target == s.loader.stationNo) = true := by simp [hactive, htarget]
      refine ⟨fun e he => exec_giveReceived_of_taken hs hh hother hwf hp hactive htarget hnew (h.trans ?_),
        fun he => exec_giveReceived_of_taken hs hh hother hwf hp hactive htarget hnew (h.trans ?_)⟩
      · simp only [State.given, DispatchTable.applyUnits_of_open he, bus, hdriven, heard]
      · simp only [State.given, DispatchTable.applyUnits_of_closed he, bus, hdriven, heard]
    exact ⟨fun h => happlied (State.matchGive_of_late h), fun a ha hm hlt => happlied (State.matchGive_of_short ha hm hlt)⟩

/-! ### GIVEs ended together (R121, R149) -/

/-- The units of the GIVEs with a reservation that meet a test. -/
def liveUnits (gs : List TxGive) (test : TxGive → Bool) : Nat :=
  ((gs.filter (fun x => x.live && test x)).map TxGive.units).sum

theorem liveUnits_cons (g : TxGive) (gs : List TxGive) (test : TxGive → Bool) :
    liveUnits (g :: gs) test = (if g.live && test g then g.units else 0) + liveUnits gs test := by
  rw [liveUnits, List.filter_cons]
  split
  · rfl
  · rw [Nat.zero_add, liveUnits]

/-- A GIVE is for a dispatch. -/
def TxGive.isOn (route day slot : Nat) (x : TxGive) : Bool := x.route == route && x.day == day && x.slot == slot

theorem TxGive.isOn_iff {route day slot : Nat} {x : TxGive} :
    TxGive.isOn route day slot x = true ↔ route = x.route ∧ day = x.day ∧ slot = x.slot := by
  simp only [TxGive.isOn, Bool.and_eq_true, beq_iff_eq, and_assoc, @eq_comm _ x.route, @eq_comm _ x.day, @eq_comm _ x.slot]

/-- The table once GIVEs have ended abandoned if begun and dropped otherwise: begun ones' units written off, the others'
returned (R149). -/
def DispatchTable.dropped (d : DispatchTable) (gs : List TxGive) : DispatchTable :=
  { d with
    stranded := min 65535 (d.stranded + liveUnits gs TxGive.begun)
    rings := d.rings.map (fun r => { r with
      entries := r.entries.map (fun e => { e with
        reserved := e.reserved - liveUnits gs (TxGive.isOn r.route e.day e.slot)
        held := e.held - liveUnits gs (fun x => x.begun && TxGive.isOn r.route e.day e.slot x) }) }) }

theorem DispatchTable.updateEntry_eq (d : DispatchTable) (route day slot : Nat) (f : Entry → Entry) :
    d.updateEntry route day slot f = { d with
      rings := d.rings.map (fun r => { r with
        entries := r.entries.map (fun e => if r.route = route ∧ e.day = day ∧ e.slot = slot then f e else e) }) } := by
  unfold DispatchTable.updateEntry DispatchTable.updateRing
  congr 1
  refine List.map_congr_left fun r _ => ?_
  by_cases hr : r.route = route
  · simp [hr, Entry.names]
  · simp [hr]

theorem DispatchTable.dropped_nil {d : DispatchTable} (h : d.stranded ≤ 65535) : d.dropped [] = d := by
  have hrings : d.rings.map (fun r => { r with
      entries := r.entries.map (fun e => { e with reserved := e.reserved - 0, held := e.held - 0 }) }) = d.rings := by
    simp
  exact congrArg₂ (fun n rs => { d with stranded := n, rings := rs }) (Nat.min_eq_right h) hrings

theorem satAdd_eq_min (limit n m : Nat) : satAdd limit n m = min limit (n + m) := by
  unfold satAdd
  split <;> omega

/-- A GIVE that ends as the queue is emptied: its units leave the reserved ones, and the held ones too if it had begun
(R149). -/
theorem DispatchTable.giveEnds_removed {d : DispatchTable} (h : d.stranded ≤ 65535) (g : TxGive) :
    d.giveEnds g (if g.begun then .abandoned else .dropped) =
      { d.updateEntry g.route g.day g.slot (fun e => { e with
          reserved := e.reserved - g.units, held := e.held - if g.begun then g.units else 0 }) with
        stranded := min 65535 (d.stranded + if g.begun then g.units else 0) } := by
  cases g.begun
  · refine congrArg (fun n => { d.giveBack g.route g.day g.slot g.units with stranded := n }) ?_
    exact (Nat.min_eq_right h).symm
  · exact congrArg (fun n => { d.transferOut g.route g.day g.slot g.units with stranded := n }) (satAdd_eq_min _ _ _)

/-- The first GIVE ended, the others end after it. -/
theorem DispatchTable.dropped_cons {d : DispatchTable} (h : d.stranded ≤ 65535) (g : TxGive) (gs : List TxGive) :
    (if g.live then d.giveEnds g (if g.begun then .abandoned else .dropped) else d).dropped gs = d.dropped (g :: gs) := by
  cases hlive : g.live with
  | false => simp [DispatchTable.dropped, liveUnits_cons, hlive]
  | true =>
    rw [if_pos rfl, giveEnds_removed h, updateEntry_eq]
    simp only [DispatchTable.dropped, liveUnits_cons, hlive, Bool.true_and, List.map_map, DispatchTable.mk.injEq, true_and]
    refine ⟨List.map_congr_left fun r _ => ?_, by omega⟩
    simp only [Function.comp_apply, List.map_map, Ring.mk.injEq, true_and, and_true]
    refine List.map_congr_left fun e _ => ?_
    by_cases hon : r.route = g.route ∧ e.day = g.day ∧ e.slot = g.slot
    · simp [hon, TxGive.isOn_iff.2, Nat.sub_sub]
    · simp [hon, TxGive.isOn_iff]

theorem State.giveEnding_removed (s : State) (g : TxGive) : s.giveEnding g (if g.begun then .abandoned else .dropped) =
    { s with dispatch := if g.live then s.dispatch.giveEnds g (if g.begun then .abandoned else .dropped) else s.dispatch } := by
  unfold State.giveEnding
  rw [if_neg (by cases g.begun <;> simp)]
  split <;> rfl

theorem State.dropGives_eq (gs : List TxGive) (s : State) (h : s.dispatch.stranded ≤ 65535) :
    State.dropGives gs s = { s with dispatch := s.dispatch.dropped gs } := by
  induction gs generalizing s with
  | nil => rw [State.dropGives, DispatchTable.dropped_nil h]
  | cons g gs ih =>
    rw [State.dropGives, State.giveEnding_removed, ih]
    · exact congrArg (fun d => { s with dispatch := d }) (DispatchTable.dropped_cons h g gs)
    · dsimp only
      split
      · rw [DispatchTable.giveEnds_removed h]
        exact Nat.min_le_left _ _
      · exact h

/-- The transmit queue emptied: its GIVEs have ended, and nothing is sent or waits (R121). -/
theorem State.emptyQueue_eq {s : State} (h : s.dispatch.stranded ≤ 65535) : s.emptyQueue = { s with
    bus := { s.bus with gives := [], ask := none, presence := none, sending := none, waitFrom := none }
    dispatch := s.dispatch.dropped s.bus.gives } :=
  State.dropGives_eq _ _ h

/-! ### The own number heard (R141) -/

theorem State.raiseDuplicate_eq (s : State) : s.raiseDuplicate = { s with
    peers := { s.peers with duplicate := true }, link := s.risen s.peers.duplicate .duplicate s.bus.state } := by
  unfold State.raiseDuplicate State.risen
  cases h : s.peers.duplicate
  · rfl
  · rw [if_pos rfl, if_pos rfl, ← h]

theorem State.duplicate_of_failed {s : State} (h : s.bus.state = .failed) : s.duplicate = s.raiseDuplicate := by
  unfold State.duplicate
  exact if_pos (by rw [State.raiseDuplicate_eq]; exact h)

theorem State.duplicate_of_running {s : State} (h : s.bus.state ≠ .failed) :
    s.duplicate = s.raiseDuplicate.enterFailed s.raiseDuplicate := by
  unfold State.duplicate
  exact if_neg (by rw [State.raiseDuplicate_eq]; exact h)

theorem State.endAskSince_congr {s was was' : State} (h : was'.queue = was.queue) :
    s.endAskSince was' = s.endAskSince was := by
  unfold State.endAskSince
  split
  · exact State.quotesDue_congr h
  · rfl

theorem State.endAsk_of_none {s : State} (h : s.share.openAsk = none) : s.endAsk = s := by
  rw [State.endAsk, State.endAskSince, h]

/-- The state in FAILED before its ask ends: the queue empty and the timers stopped (R124). -/
def State.failing (s : State) : State :=
  { s with
    bus := { s.bus with
      state := .failed, gives := [], ask := none, presence := none, sending := none, waitFrom := none
      listenDue := none, gatherDue := none, presenceDue := none, activeDue := none, quietDue := none }
    dispatch := s.dispatch.dropped s.bus.gives }

/-- FAILED entered: BUS-STATE rises after the ask's end (R124, R157). -/
theorem State.enterFailed_eq {s was : State} (hq : was.queue = s.queue) (h : s.dispatch.stranded ≤ 65535) :
    s.enterFailed was = { s.failing.endAsk with
      bus := { s.failing.endAsk.bus with changed := true }
      link := if s.bus.changed then s.failing.endAsk.link
        else s.failing.endAsk.link.rise .busState s.dispatch.clock .failed } := by
  have hfailing : (s.enterBus .failed).emptyQueue = s.failing := by
    rw [State.enterBus_eq, State.emptyQueue_eq (by exact h)]
    rfl
  have hend : s.failing.endAskSince was = s.failing.endAsk := State.endAskSince_congr hq
  obtain ⟨ask, wait, hbus⟩ : AsksFrame s.failing.bus s.failing.endAsk.bus := State.endAskSince_asks _ _
  have hstate : s.failing.endAsk.bus.state = .failed := by rw [hbus]; rfl
  have hchanged : s.failing.endAsk.bus.changed = s.bus.changed := by rw [hbus]; rfl
  have hclock : s.failing.endAsk.dispatch.clock = s.dispatch.clock := (State.endAskSince_books _ _).clock
  rw [State.enterFailed, hfailing, hend, State.raiseBus_eq, State.risen, hstate, hchanged, hclock]

/-- Settles O46: DUPLICATE raised, and FAILED entered with its GIVEs and its ask ended. -/
theorem ownNumberHeardIsDuplicate : Obligations.OwnNumberHeardIsDuplicate := by
  intro s c f hs hst hn ho hwf hown hc drives noticed
  have hh := BusController.hears_of_idle hst hn ho
  have hdrives : drivesSlot s.bus.state s.loader.stationNo f = drives := by cases f <;> rfl
  have hexec : exec c s = .next (State.duplicate { s with bus := { s.bus with slotDriven := drives } }) := by
    have hreceive : ∀ use, s.receive f use = State.duplicate { s with bus := { s.bus with slotDriven := drives } } :=
      fun use => by rw [State.receive_of_own hs hh hwf hown, State.slotted, hdrives]
    cases f with
    | give a b d e g h i j =>
      subst hc
      exact congrArg _ (hreceive _)
    | ask a b d e g h =>
      subst hc
      exact congrArg _ (hreceive _)
    | presence a b j d e =>
      have hj : (if j == 1 then 1 else 0) = j := by
        have hj := (of_decide_eq_true hwf).2.2.2.1
        split <;> simp_all
        omega
      subst hc
      rw [← hreceive, exec, execPresenceReceived, hj]
  refine ⟨fun hfailed => ?_, fun hrunning hfirst hstranded => ?_⟩
  · have hsilent : drives = false := by
      rw [← hdrives, hfailed]
      cases f <;> rfl
    rw [hexec, State.duplicate_of_failed (by exact hfailed), State.raiseDuplicate_eq, hsilent]
  · intro units on emptied failed
    have hemptied : State.failing { s with
        peers := { s.peers with duplicate := true }, link := noticed
        bus := { s.bus with slotDriven := drives } } = emptied := by
      simp only [State.failing, emptied, hn]
      rfl
    refine ⟨fun hask => State.endAsk_of_none hask, ?_⟩
    rw [hexec, State.duplicate_of_running (by exact hrunning), State.raiseDuplicate_eq,
      State.enterFailed_eq (by rfl) (by exact hstranded)]
    exact congrArg (fun t => Host.Outcome.next { State.endAsk t with
      bus := { (State.endAsk t).bus with changed := true }
      link := if s.bus.changed then (State.endAsk t).link
        else (State.endAsk t).link.rise .busState s.dispatch.clock .failed }) hemptied

end Sys2Proof.Machine
end


section
/-! The laws of booking: what trying an entry does, by whether it has room and may be asked for (R93 to R97), and the QUOTE
that a booking makes due (R83). -/

namespace Sys2Proof.Machine

/-! ### The entry under trial -/

/-- The entry under trial of a booking is an open one of its ring, between those before and those after it. -/
def DispatchTable.OnTrial (d : DispatchTable) (b : Booking) (before : List Entry) (e : Entry) (after : List Entry) : Prop :=
  ∃ ring, d.ring b.request.route = some ring ∧ ring.entries = before ++ e :: after ∧
    ((before ++ e :: after).map (fun x => (x.day, x.slot))).Nodup ∧ b.trial = some (e.day, e.slot)

section Trial
variable {d : DispatchTable} {b : Booking} {before after rest : List Entry} {e e2 : Entry}

theorem Entry.names_self (e : Entry) : e.names e.day e.slot = true := by simp [Entry.names]

/-- Entries that stand before another in a ring name other dispatches. -/
theorem names_eq_false_of_nodup (h : ((before ++ e :: after).map (fun x => (x.day, x.slot))).Nodup) :
    ∀ x ∈ before, x.names e.day e.slot = false := by
  intro x hx
  rw [List.map_append, List.nodup_append] at h
  have hne := h.2.2 _ (List.mem_map_of_mem hx) _ (List.mem_map_of_mem (List.mem_cons_self (a := e) (l := after)))
  by_contra hnames
  simp only [Entry.names, Bool.not_eq_false, Bool.and_eq_true, beq_iff_eq] at hnames
  exact hne (Prod.ext hnames.1 hnames.2)

/-- The entry under trial is the first of the ring that its dispatch names. -/
theorem DispatchTable.trialEntry_of_split {ring : Ring} (hring : d.ring b.request.route = some ring)
    (hentries : ring.entries = before ++ e :: after) (hbefore : ∀ x ∈ before, x.names e.day e.slot = false)
    (htrial : b.trial = some (e.day, e.slot)) : d.trialEntry b = some e := by
  have hnone : before.find? (fun x => x.names e.day e.slot) = none := by
    rw [List.find?_eq_none]
    exact fun x hx => by simp [hbefore x hx]
  simp [DispatchTable.trialEntry, htrial, DispatchTable.entry, hring, hentries, List.find?_append, hnone, e.names_self]

theorem entryAfter_split (h : ∀ x ∈ before, x.names e.day e.slot = false) :
    entryAfter (before ++ e :: after) e.day e.slot = after.head?.map (fun x => (x.day, x.slot)) := by
  have hdrop : (before ++ e :: after).dropWhile (fun x => !x.names e.day e.slot) = e :: after := by
    rw [List.dropWhile_append_of_pos, List.dropWhile_cons_of_neg]
    · simp [e.names_self]
    · exact fun x hx => by simp [h x hx]
  rw [entryAfter, hdrop]
  cases after <;> rfl

theorem DispatchTable.rolled_of_split {ring : Ring} (hring : d.ring b.request.route = some ring)
    (hentries : ring.entries = before ++ e :: after) (hbefore : ∀ x ∈ before, x.names e.day e.slot = false)
    (htrial : b.trial = some (e.day, e.slot)) : d.rolled b = { b with
      trial := after.head?.map (fun x => (x.day, x.slot)), tries := b.tries + 1, asked := false, asking := false } := by
  simp [DispatchTable.rolled, hring, hentries, htrial, entryAfter_split hbefore]

theorem DispatchTable.OnTrial.entry (h : d.OnTrial b before e after) : d.trialEntry b = some e := by
  obtain ⟨ring, hring, hentries, hnodup, htrial⟩ := h
  exact trialEntry_of_split hring hentries (names_eq_false_of_nodup hnodup) htrial

theorem DispatchTable.OnTrial.rolled (h : d.OnTrial b before e after) : d.rolled b = { b with
    trial := after.head?.map (fun x => (x.day, x.slot)), tries := b.tries + 1, asked := false, asking := false } := by
  obtain ⟨ring, hring, hentries, hnodup, htrial⟩ := h
  exact rolled_of_split hring hentries (names_eq_false_of_nodup hnodup) htrial

/-- After a roll the next entry is under trial. -/
theorem DispatchTable.OnTrial.next (h : d.OnTrial b before e (e2 :: rest)) :
    d.OnTrial (d.rolled b) (before ++ [e]) e2 rest := by
  rw [h.rolled]
  obtain ⟨ring, hring, hentries, hnodup, -⟩ := h
  exact ⟨ring, hring, by simp [hentries], by simpa using hnodup, rfl⟩

theorem DispatchTable.trialEntry_of_none (h : b.trial = none) : d.trialEntry b = none := by
  rw [DispatchTable.trialEntry, h]
  rfl

/-- After the last entry of a ring nothing is under trial. -/
theorem DispatchTable.OnTrial.last (h : d.OnTrial b before e []) : d.trialEntry (d.rolled b) = none :=
  DispatchTable.trialEntry_of_none (by rw [h.rolled]; rfl)

end Trial

/-! ### Trying an entry -/

section Tries
variable {s : State} {b : Booking} {e : Entry} {n : Nat}

theorem State.tryEntries_of_none (h : s.dispatch.trialEntry b = none) (n : Nat) :
    State.tryEntries n s b = s.bookDeferred b := by
  cases n with
  | zero => rfl
  | succ n => rw [State.tryEntries, h]

theorem State.tryEntries_of_room (h : s.dispatch.trialEntry b = some e) (hle : b.request.load ≤ e.free) :
    State.tryEntries (n + 1) s b = s.bookOn b e.day e.slot := by
  rw [State.tryEntries, h]
  exact if_pos hle

theorem State.tryEntries_of_ask (h : s.dispatch.trialEntry b = some e) (hlt : e.free < b.request.load)
    (hask : s.mayAsk b = true) : State.tryEntries (n + 1) s b = s.askFor b e := by
  rw [State.tryEntries, h]
  exact (if_neg (Nat.not_le.2 hlt)).trans (if_pos hask)

/-- What trying entries does does not depend on the current booking that stands while it does. -/
theorem State.tryEntries_setCurrent (n : Nat) (s : State) (b : Booking) (c : Option Booking) :
    State.tryEntries n (s.setDispatch { s.dispatch with current := c }) b = State.tryEntries n s b := by
  cases n <;> rfl

theorem State.tryEntries_of_roll (h : s.dispatch.trialEntry b = some e) (hlt : e.free < b.request.load)
    (hask : s.mayAsk b = false) : State.tryEntries (n + 1) s b = State.tryEntries n s (s.dispatch.rolled b) := by
  rw [State.tryEntries, h]
  exact (if_neg (Nat.not_le.2 hlt)).trans ((if_neg (by simp [hask])).trans (State.tryEntries_setCurrent _ _ _ _))

theorem State.tryEntries_line (n : Nat) (s : State) (b : Booking) :
    (State.tryEntries n s b).dispatch.line = s.dispatch.line := by
  induction n generalizing s b with
  | zero => rfl
  | succ n ih =>
    rw [State.tryEntries]
    repeat' split
    · rfl
    · rfl
    · rw [State.askFor, State.openAsk_dispatch]
      rfl
    · exact ih _ _

theorem State.serveLine_of_empty (h : s.dispatch.line = []) : s.serveLine = s := by
  rw [State.serveLine, h]
  rfl

theorem State.serveLine_of_current (h : s.dispatch.current = some b) : s.serveLine = s := by
  rw [State.serveLine]
  cases hl : s.dispatch.line with
  | nil => rfl
  | cons r rest => rw [List.length_cons, State.serveFor, h]

/-- The only request of the line, no booking being current, is served (R93). -/
theorem State.serveLine_of_one {r : Request} (hc : s.dispatch.current = none) (hl : s.dispatch.line = [r]) :
    s.serveLine = State.tryEntries 3 (s.setDispatch { s.dispatch with line := [] }) (s.dispatch.start r) := by
  rw [State.serveLine, hl, List.length_singleton, State.serveFor, hc, hl]
  exact State.tryEntries_setCurrent 3 (s.setDispatch { s.dispatch with line := [] }) _ _

/-- The current booking in phase TESTING is tried, and no request follows it. -/
theorem State.bookings_of_testing (hc : s.dispatch.current = some b) (hb : b.asking = false) (hl : s.dispatch.line = []) :
    s.bookings = State.tryEntries (3 - b.tries) s b := by
  have htry : s.tryCurrent = State.tryEntries (3 - b.tries) s b := by
    rw [State.tryCurrent, hc]
    exact if_neg (by simp [hb])
  rw [State.bookings, htry, State.serveLine_of_empty]
  rw [State.tryEntries_line, hl]

/-- The end of an ask: its booking is tried again (R96). -/
theorem State.reportAskEnd_of_asking (hc : s.dispatch.current = some b) (hb : b.asking = true) (hl : s.dispatch.line = []) :
    s.reportAskEnd = State.tryEntries (3 - b.tries) s { b with asking := false } := by
  rw [State.reportAskEnd, hc]
  refine (if_pos hb).trans ?_
  rw [State.bookings_of_testing (b := { b with asking := false }) (by rfl) (by rfl) (by exact hl)]
  exact State.tryEntries_setCurrent _ _ _ _

end Tries

/-! ### Asking and booking for a record -/

section Record
variable {s t : State} {b : Booking} {older younger : List Parcel} {p : Parcel}

theorem State.mayAsk_iff (h : s.Holds older p younger) (ht : p.tag = b.request.tag) : s.mayAsk b = true ↔
    b.asked = false ∧ s.bus.state = .active ∧ (∃ q ∈ s.peers.peers, q.status = .present) ∧ s.share.openAsk = none ∧
      (b.request.rated = true ∨ ∀ q ∈ older ++ younger, q.state.onPlate = false) := by
  have hother : s.queue.otherOnPlate b.request.tag = false ↔ ∀ q ∈ older ++ younger, q.state.onPlate = false := by
    simp only [ParcelQueue.otherOnPlate, h.1, ← ht, List.any_eq_false, List.mem_append, List.mem_cons]
    refine ⟨fun hq q hm => ?_, fun hq q hm => ?_⟩
    · have hne := h.2 q (List.mem_append.2 hm)
      have hq := hq q (hm.imp id .inr)
      simpa [hne] using hq
    · obtain hm | rfl | hm := hm
      · simp [hq q (.inl hm)]
      · simp
      · simp [hq q (.inr hm)]
  simp [State.mayAsk, hother, PeerTable.anyPresent, and_assoc, Option.isNone_iff_eq_none]

theorem Parcel.quote_ne_quoted (p : Parcel) (on : Booked) : p.quote ≠ (p.quoted on).quote := by
  cases hq : p.quote with
  | none => simp [Parcel.quoted, hq]
  | some n =>
    have hne : n ≠ cycle 1 255 n := by
      unfold cycle
      split <;> omega
    simpa [Parcel.quoted, hq] using hne

theorem State.Holds.bookOn (h : s.Holds older p younger) (ht : p.tag = b.request.tag) (day slot : Nat) :
    s.bookOn b day slot = { s with
      dispatch := { s.dispatch.updateEntry b.request.route day slot
          (fun e => { e with booked := e.booked + b.request.load }) with current := none }
      queue := { s.queue with parcels := older ++ p.quoted (.entry day slot) :: younger } } := by
  rw [State.bookOn, State.placeQuote, State.updateParcel, ← ht]
  exact congrArg (fun q => { s with
    dispatch := { s.dispatch.updateEntry b.request.route day slot
        (fun e => { e with booked := e.booked + b.request.load }) with current := none }
    queue := q }) (h.update _)

theorem State.Holds.bookDeferred (h : s.Holds older p younger) (ht : p.tag = b.request.tag) :
    s.bookDeferred b = { s with
      dispatch := { s.dispatch.updateRing b.request.route
          (fun r => { r with deferred := satAdd 65535 r.deferred b.request.load }) with current := none }
      queue := { s.queue with parcels := older ++ p.quoted .deferred :: younger } } := by
  rw [State.bookDeferred, State.placeQuote, State.updateParcel, ← ht]
  exact congrArg (fun q => { s with
    dispatch := { s.dispatch.updateRing b.request.route
        (fun r => { r with deferred := satAdd 65535 r.deferred b.request.load }) with current := none }
    queue := q }) (h.update _)

/-- An ask opened, its frame queued unless that of an older ask still stands in the queue (R143, R144). -/
theorem State.openAsk_eq (s : State) (route day slot wanted : Nat) : s.openAsk route day slot wanted = { s with
    share := { s.share with
      openAsk := some {
        askNo := s.share.nextAsk, route := route, day := day, slot := slot, wanted := wanted, received := 0
        phase := if s.bus.ask = none then .sending else .waiting, windowEnd := 0 }
      nextAsk := if s.share.nextAsk ≥ 255 then 0 else s.share.nextAsk + 1 }
    bus := if s.bus.ask = none then BusController.waits
        { s.bus with
          ask := some {
            askNo := s.share.nextAsk, route := route, day := day, slot := slot, units := wanted, begun := false
            fails := 0 } }
        s.bus.waitFrom s.timer.ms
      else s.bus } := by
  rw [State.openAsk]
  cases ha : s.bus.ask with
  | none =>
    simp only [State.sendAsk_eq, if_true]
    rfl
  | some a =>
    simp only [reduceCtorEq, if_false]
    rfl

theorem State.Holds.askFor (h : s.Holds older p younger) (ht : p.tag = b.request.tag) (e : Entry) :
    s.askFor b e = State.openAsk { s with
      dispatch := { s.dispatch with current := some { b with asked := true, asking := true } }
      queue := { s.queue with parcels := older ++ { p with state := .seeking } :: younger } }
      b.request.route e.day e.slot (b.request.load - e.free) := by
  rw [State.askFor, State.updateParcel, ← ht]
  exact congrArg (fun q => State.openAsk { s with
    dispatch := { s.dispatch with current := some { b with asked := true, asking := true } }, queue := q }
      b.request.route e.day e.slot (b.request.load - e.free)) (h.update _)

/-- The QUOTE of a record becomes due: placed while there is room, and otherwise owed (R83). -/
theorem State.Holds.quoteDue (h : s.Holds older p younger) : s.quoteDue p = { s with
    queue := { s.queue with
      parcels := older ++ { p with
        owed := if decide (s.link.reports.length < 16) then p.owed else some ⟨s.queue.nextDue, p.quoteReport⟩ } :: younger
      nextDue := if decide (s.link.reports.length < 16) then s.queue.nextDue else s.queue.nextDue + 1 }
    link := { s.link with
      reports := if decide (s.link.reports.length < 16) then s.link.reports ++ [p.quoteReport] else s.link.reports } } := by
  unfold State.quoteDue
  by_cases hroom : s.link.reports.length < 16
  · rw [if_pos (Link.hasRoom_iff.2 hroom)]
    simp only [hroom, decide_true, if_true, ← h.1]
    rfl
  · rw [if_neg (mt Link.hasRoom_iff.1 hroom)]
    simp only [hroom, decide_false, Bool.false_eq_true, if_false]
    exact congrArg (fun q => { s with queue := { q with nextDue := s.queue.nextDue + 1 } }) (h.update _)

theorem ParcelQueue.newlyQuoted_congr {q was was' : ParcelQueue}
    (h : was.parcels.map Parcel.quote = was'.parcels.map Parcel.quote) : q.newlyQuoted was = q.newlyQuoted was' := by
  have hquotes : ∀ ps qs : List Parcel, ((ps.zip qs).filter (fun x => x.1.quote != x.2.quote)).map Prod.snd =
      (((ps.map Parcel.quote).zip qs).filter (fun x => x.1 != x.2.quote)).map Prod.snd := by
    intro ps qs
    rw [List.zip_map_left, List.filter_map, List.map_map]
    rfl
  rw [ParcelQueue.newlyQuoted, ParcelQueue.newlyQuoted, hquotes, hquotes, h]

/-- The one record with another quote number than before has its QUOTE become due (R83). -/
theorem State.quotesDue_one {was : State} {p' : Parcel} {os ys : List Parcel} (ht : t.queue.parcels = older ++ p' :: younger)
    (hw : was.queue.parcels = os ++ p :: ys) (ho : os.map Parcel.quote = older.map Parcel.quote)
    (hy : ys.map Parcel.quote = younger.map Parcel.quote) (h : p.quote ≠ p'.quote) :
    t.quotesDue was = t.quoteDue p' := by
  have hnew : t.queue.newlyQuoted was.queue = [p'] :=
    (ParcelQueue.newlyQuoted_congr (was' := { was.queue with parcels := older ++ p :: younger })
      (by simp [hw, ho, hy])).trans (ParcelQueue.newlyQuoted_one rfl ht h)
  rw [State.quotesDue, hnew]
  rfl

end Record

end Sys2Proof.Machine
end


section
/-! The statements about asks that end and about bookings made at a measurement hand-over. -/

namespace Sys2Proof.Machine

/-- What a quote placed on a record, and its QUOTE put in a report queue with room, make of a state. -/
theorem State.quotesDue_placed {t was : State} {older younger os ys : List Parcel} {p : Parcel} {on : Booked}
    (h : t.Holds older (p.quoted on) younger) (hw : was.queue.parcels = os ++ p :: ys)
    (ho : os.map Parcel.quote = older.map Parcel.quote) (hy : ys.map Parcel.quote = younger.map Parcel.quote)
    (hroom : t.link.reports.length < 16) :
    t.quotesDue was = { t with link := { t.link with reports := t.link.reports ++ [(p.quoted on).quoteReport] } } := by
  rw [State.quotesDue_one h.1 hw ho hy (p.quote_ne_quoted on), State.quoteDue, if_pos (Link.hasRoom_iff.2 hroom)]
  rfl

theorem exec_askWindowExpiry {s : State} {a : OpenAsk} (hs : s.powered = true) (ha : s.share.openAsk = some a)
    (hw : a.phase = .window) :
    exec .askWindowExpiry s = .next (if a.windowEnd ≤ s.timer.ms then s.endAsk else s) := by
  refine next_event hs ?_
  rw [ha]
  dsimp only
  simp only [hw, true_and]

/-- Settles O47: the three ends of an ask, and the booking tried again on its entry and on the next. -/
theorem askEndsAndBookingRetries : Obligations.AskEndsAndBookingRetries := by
  refine ⟨fun s a hs ha => ⟨fun hw hlt => ?_, fun hw hle => ?_, fun f hph hsend hf => ?_,
      fun p e sender giveNo units hactive hn ho hother hp hnew hwf he hle => ?_⟩,
    fun s a b older younger p ring before after e ha hb hasking hasked htrial hline hring hentries hnodup hp htag hroom =>
      ?_⟩
  · rw [exec_askWindowExpiry hs ha hw, if_neg (Nat.not_le.2 hlt)]
  · rw [exec_askWindowExpiry hs ha hw, if_pos hle]
  · rw [exec_ackSlot hs hsend, State.slotSeen_ask, if_neg Bool.false_ne_true, State.complete_eq, State.handBack,
      State.askEnding_of_sending (a := a) (by exact ha) hph (.inr rfl), State.endAsk_of_open (a := a) (by exact ha)]
    rfl
  · refine exec_giveReceived_of_taken hs (BusController.hears_of_idle (by simp [hactive]) hn ho) hother hwf hp hactive rfl
      hnew ?_
    rw [State.matchGive_of_enough (a := a) (by exact ha) ⟨rfl, rfl, rfl, rfl⟩ hle]
    simp only [State.given, DispatchTable.applyUnits_of_open he]
  · intro load free n asks left quoted onEntry
    let c : State := { s with share := { s.share with openAsk := none }, bus := left }
    let b' : Booking := { b with asking := false }
    have hc : c.Holds older p younger := hp
    have hend : s.endAsk = (State.tryEntries (3 - b.tries) c b').quotesDue s := by
      rw [State.endAsk_of_open ha, State.closeAsk_of_open ha]
      exact congrArg (State.quotesDue · s) (State.reportAskEnd_of_asking (s := c) hb hasking hline)
    have hfirst : c.dispatch.OnTrial b' before e after := ⟨ring, hring, hentries, hnodup, htrial⟩
    have hno : c.mayAsk b' = false := by simp [State.mayAsk, b', hasked]
    have hplaced : ∀ {on : Booked} {d : DispatchTable}, State.tryEntries (3 - b.tries) c b' = { c with
        dispatch := { d with current := none }
        queue := { s.queue with parcels := older ++ p.quoted on :: younger } } → quoted on d := by
      intro on d h
      refine hend.trans ((congrArg (State.quotesDue · s) h).trans ?_)
      exact State.quotesDue_placed (p := p) (on := on) ⟨rfl, hp.2⟩ hp.1 rfl rfl hroom
    have hentry : ∀ {x : Entry}, State.tryEntries (3 - b.tries) c b' = c.bookOn b' x.day x.slot → onEntry x :=
      fun h => hplaced (h.trans (hc.bookOn htag _ _))
    clear_value onEntry
    refine ⟨fun hlt hle => hentry ?_, fun e2 rest hlt hfull hafter => ?_, fun hlt hfull hafter => hplaced ?_⟩
    · obtain ⟨k, hk⟩ : ∃ k, 3 - b.tries = k + 1 := ⟨2 - b.tries, by omega⟩
      rw [hk]
      exact State.tryEntries_of_room hfirst.entry hle
    · obtain ⟨k, hk⟩ : ∃ k, 3 - b.tries = k + 1 + 1 := ⟨1 - b.tries, by omega⟩
      subst hafter
      have hroll : State.tryEntries (3 - b.tries) c b' = State.tryEntries (k + 1) c (c.dispatch.rolled b') := by
        rw [hk]
        exact State.tryEntries_of_roll hfirst.entry hfull hno
      have hsecond := hfirst.next
      rw [hfirst.rolled] at hroll hsecond
      refine ⟨fun hle => hentry (hroll.trans (State.tryEntries_of_room hsecond.entry hle)), fun hfull2 hasks => ?_⟩
      have hactive : c.bus.state = .active := by
        simp only [c, left]
        split
        · rw [← BusController.withWait_withdrawAsk]
          obtain ⟨ask, wait, h⟩ := s.bus.withdrawAsk_asks
          rw [h]
          exact hasks.1
        · exact hasks.1
      let b2 : Booking :=
        { b' with trial := some (e2.day, e2.slot), tries := b.tries + 1, asked := false, asking := false }
      have hmay : c.mayAsk b2 = true := by
        rw [State.mayAsk_iff hc (by exact htag)]
        exact ⟨rfl, hactive, hasks.2.1, rfl, hasks.2.2⟩
      intro wanted
      refine hend.trans ((congrArg (State.quotesDue · s) (hroll.trans
        ((State.tryEntries_of_ask hsecond.entry hfull2 hmay).trans ((hc.askFor (b := b2) htag e2).trans (State.openAsk_eq _ _ _ _ _))))).trans
        (State.quotesDue_none ?_))
      simp [hp.1]
    · obtain ⟨k, hk⟩ : ∃ k, 3 - b.tries = k + 1 := ⟨2 - b.tries, by omega⟩
      subst hafter
      rw [hk, State.tryEntries_of_roll hfirst.entry hfull hno, State.tryEntries_of_none hfirst.last]
      have h := hc.bookDeferred (b := c.dispatch.rolled b') htag
      exact h

end Sys2Proof.Machine
end


section
/-! The measurement hand-over (R15, R66): the rating's rejection, the request that waits, and the booking made at once. -/

namespace Sys2Proof.Machine

section HandOver
variable {s : State} {older younger : List Parcel} {p : Parcel} {d : Dims}

/-- The record as its measurement's rating leaves it (R66). -/
def Parcel.rated (p : Parcel) (d : Dims) (r : Rating) : Parcel := { p with state := .rating, dims := some d, rating := r }

/-- The state once a record has been rated, before its rating's outcome is acted on (R57, R66). -/
def State.ratedAs (s : State) (older younger : List Parcel) (p : Parcel) (d : Dims) : State :=
  { s with
    summary := s.summary.after (rate (s.store.image.getD []) (p.ratingInput d))
    queue := { s.queue with
      parcels := older ++ p.rated d (rate (s.store.image.getD []) (p.ratingInput d)).rating :: younger } }

theorem State.Holds.ratedAs (h : s.Holds older p younger) (d : Dims) :
    (s.updateParcel p.tag (fun _ => p.rated d (rate (s.store.image.getD []) (p.ratingInput d)).rating)).setSummary
      (s.summary.after (rate (s.store.image.getD []) (p.ratingInput d))) = s.ratedAs older younger p d :=
  congrArg (fun q => { s with
    summary := s.summary.after (rate (s.store.image.getD []) (p.ratingInput d)), queue := q }) (h.update _)

theorem State.Holds.handOver_of_reject (h : s.Holds older p younger) {reason : Reason}
    (hr : (rate (s.store.image.getD []) (p.ratingInput d)).reject = some reason) :
    s.measurementHandOver p d = (s.ratedAs older younger p d).endParcel
      (p.rated d (rate (s.store.image.getD []) (p.ratingInput d)).rating) .rejected (some reason) := by
  rw [State.measurementHandOver, ← h.ratedAs]
  simp only [hr]
  rfl

theorem State.Holds.handOver_of_rated (h : s.Holds older p younger)
    (hr : (rate (s.store.image.getD []) (p.ratingInput d)).reject = none) :
    s.measurementHandOver p d = (State.serveLine { s.ratedAs older younger p d with
      dispatch := { s.dispatch with
        line := s.dispatch.line ++
          [⟨p.tag, p.route, (rate (s.store.image.getD []) (p.ratingInput d)).rating.load.getD 0, true⟩] } }).quotesDue
      (s.ratedAs older younger p d) := by
  rw [State.measurementHandOver, ← h.ratedAs]
  simp only [hr]
  rfl

end HandOver

/-- What a quote placed on a record, and its QUOTE made due, make of a state. -/
theorem State.quotesDue_quoted {t was : State} {older younger os ys : List Parcel} {p : Parcel} {on : Booked}
    (h : t.Holds older (p.quoted on) younger) (hw : was.queue.parcels = os ++ p :: ys)
    (ho : os.map Parcel.quote = older.map Parcel.quote) (hy : ys.map Parcel.quote = younger.map Parcel.quote) :
    t.quotesDue was = { t with
      queue := { t.queue with
        parcels := older ++ { p.quoted on with
          owed := if decide (t.link.reports.length < 16) then none
            else some ⟨t.queue.nextDue, (p.quoted on).quoteReport⟩ } :: younger
        nextDue := if decide (t.link.reports.length < 16) then t.queue.nextDue else t.queue.nextDue + 1 }
      link := { t.link with
        reports := if decide (t.link.reports.length < 16) then t.link.reports ++ [(p.quoted on).quoteReport]
          else t.link.reports } } := by
  rw [State.quotesDue_one h.1 hw ho hy (p.quote_ne_quoted on), h.quoteDue]
  rfl

/-- Settles O31, by the rating's outcome and, for the booking, by the first entry with room. -/
theorem measurementHandOverBooks : Obligations.MeasurementHandOverBooks := by
  intro s older younger p d g hp hg rated room summary reports due owed
  have himage : s.store.image.getD [] = g := by rw [hg]; rfl
  refine ⟨fun hd => ?_, fun reason hr => ?_, fun b load hb hr hload => ?_,
    fun ring e1 e2 e3 load hcur hline hr hload hquote hring hentries h12 h13 h23 => ?_⟩
  · exact congrArg Rated.reject (rate_of_invalid g (x := p.ratingInput d) hd)
  · intro report
    have hrated : (s.ratedAs older younger p d).Holds older (p.rated d rated.rating) younger :=
      ⟨by rw [State.ratedAs, himage], hp.2⟩
    rw [hp.handOver_of_reject (reason := reason) (by rw [himage]; exact hr), himage, hrated.endParcel]
    simp only [State.ratedAs, himage, owed, reports, due, room]
    by_cases hroom : s.link.reports.length < 16
    · simp only [hroom, decide_true, if_true]
      rfl
    · simp only [hroom, decide_false, Bool.false_eq_true, if_false]
      rfl
  · intro waiting
    have hwaiting : s.measurementHandOver p d = waiting := by
      rw [hp.handOver_of_rated (by rw [himage]; exact hr), State.serveLine_of_current (b := b) (by exact hb),
        State.quotesDue_of_queue (by rfl), himage, show (rate g (p.ratingInput d)).rating.load.getD 0 = load by rw [hload]; rfl]
      simp only [State.ratedAs, himage]
      rfl
    refine ⟨hwaiting, fun tag hs htag hmet => next_command (s := waiting) hs ?_⟩
    have hheld : waiting.Holds older (p.rated d rated.rating) younger := ⟨rfl, hp.2⟩
    rw [← htag]
    exact (hheld.void_of_unmet hmet).trans (if_neg (by simp [Parcel.rated, PState.voidable]))
  · intro free r asks quoted onEntry
    let req : Request := ⟨p.tag, p.route, load, true⟩
    let b : Booking := ⟨req, some (e1.day, e1.slot), 0, false, false⟩
    let c : State := { s with
      summary := summary
      queue := { s.queue with parcels := older ++ p.rated d r :: younger } }
    have hc : c.Holds older (p.rated d r) younger := ⟨rfl, hp.2⟩
    have hsame : { s.dispatch with line := [] } = s.dispatch := by rw [← hline]
    have hstart : s.dispatch.start req = b := by
      rw [DispatchTable.start, hring]
      simp only [hentries]
      rfl
    have hover : s.measurementHandOver p d = (State.tryEntries 3 c b).quotesDue c := by
      have hc' : s.ratedAs older younger p d = c := by
        simp only [State.ratedAs, himage]
        rfl
      rw [hp.handOver_of_rated (by rw [himage]; exact hr), hc', himage,
        show (rate g (p.ratingInput d)).rating.load.getD 0 = load by rw [hload]; rfl,
        State.serveLine_of_one (r := req) (by exact hcur) (by rw [hline]; rfl)]
      refine congrArg (State.quotesDue · c) ?_
      refine congrArg₂ (State.tryEntries 3) ?_ ?_
      · exact congrArg (fun d => { c with dispatch := d }) hsame
      · exact hstart
    have hfirst : c.dispatch.OnTrial b [] e1 [e2, e3] :=
      ⟨ring, hring, hentries, by simpa using ⟨⟨fun h h' => h12 (Prod.ext h h'), fun h h' => h13 (Prod.ext h h')⟩,
        fun h h' => h23 (Prod.ext h h')⟩, rfl⟩
    have hplaced : ∀ {on : Booked} {t : DispatchTable}, State.tryEntries 3 c b = { c with
        dispatch := { t with current := none }
        queue := { s.queue with parcels := older ++ (p.rated d r).quoted on :: younger } } →
        t.current = none → quoted on t := by
      intro on t h ht
      have hn : (p.rated d r).quoted on = { p with
          state := .quoted, dims := some d, rating := r, quote := some 1, standing := some true, dispatch := some on
          holds := true, owed := none } := by
        simp [Parcel.quoted, Parcel.rated, hquote]
      have ht' : { t with current := none } = t := by rw [← ht]
      refine hover.trans ((congrArg (State.quotesDue · c) h).trans ?_)
      rw [State.quotesDue_quoted (p := p.rated d r) (on := on) ⟨rfl, hp.2⟩ (by rfl) rfl rfl, ht', hn]
      simp only [Parcel.quoteReport, Option.getD_some, show r.load = some load from hload]
      rfl
    have hentry : ∀ {x : Entry}, State.tryEntries 3 c b = c.bookOn b x.day x.slot → onEntry x :=
      fun h => hplaced (h.trans (hc.bookOn (by rfl) _ _)) hcur
    have hmay : c.mayAsk b = true ↔ asks := by
      rw [State.mayAsk_iff hc (by rfl)]
      simp [b, req, asks, c]
    clear_value onEntry
    refine ⟨fun hle => hentry (State.tryEntries_of_room hfirst.entry hle), fun hfull hno => ?_, fun hfull hasks => ?_⟩
    · have hsilent : ∀ x : Booking, x.request = req → c.mayAsk x = false := by
        intro x hx
        rw [← Bool.not_eq_true, State.mayAsk_iff hc (by rw [hx]; rfl)]
        rintro ⟨-, h1, h2, h3, -⟩
        exact hno ⟨h1, h2, h3⟩
      have hroll := State.tryEntries_of_roll (n := 2) hfirst.entry hfull (hsilent b rfl)
      have hsecond := hfirst.next
      rw [hfirst.rolled] at hroll hsecond
      refine ⟨fun hle => hentry (hroll.trans (State.tryEntries_of_room hsecond.entry hle)), fun hfull2 hle => ?_,
        fun hfull2 hfull3 => ?_⟩
      · have hroll2 := State.tryEntries_of_roll (n := 1) hsecond.entry hfull2 (hsilent _ rfl)
        have hthird := hsecond.next
        rw [hsecond.rolled] at hroll2 hthird
        exact hentry (hroll.trans (hroll2.trans (State.tryEntries_of_room hthird.entry hle)))
      · have hroll2 := State.tryEntries_of_roll (n := 1) hsecond.entry hfull2 (hsilent _ rfl)
        have hthird := hsecond.next
        rw [hsecond.rolled] at hroll2 hthird
        have hroll3 := State.tryEntries_of_roll (n := 0) hthird.entry hfull3 (hsilent _ rfl)
        exact hplaced (hroll.trans (hroll2.trans (hroll3.trans (hc.bookDeferred (by rw [hthird.rolled]; rfl))))) hcur
    · intro wanted
      refine hover.trans ((congrArg (State.quotesDue · c) ((State.tryEntries_of_ask hfirst.entry hfull (hmay.2 hasks)).trans
        ((hc.askFor (b := b) rfl e1).trans (State.openAsk_eq _ _ _ _ _)))).trans (State.quotesDue_none ?_))
      simp [c, Parcel.rated]

end Sys2Proof.Machine
end


section
/-! The closing of a head (R103): the units it takes from the table, the booking that rolls from it, the records requoted,
and what its event books afterwards. -/

namespace Sys2Proof.Machine

/-! ### Rings -/

section Rings
variable {d : DispatchTable} {r : Ring} {route day slot : Nat}

theorem DispatchTable.route_of_ring (h : d.ring route = some r) : r.route = route := by
  simpa using List.find?_some h

theorem DispatchTable.ring_updateRing {f : Ring → Ring} (hf : ∀ r, (f r).route = r.route) (h : d.ring route = some r) :
    (d.updateRing route f).ring route = some (f r) := by
  have hcomp : ((fun r => r.route == route) ∘ fun r => if r.route = route then f r else r) =
      fun r : Ring => r.route == route := by
    funext r
    by_cases hr : r.route = route <;> simp [hr, hf]
  have hfind : d.rings.find? (fun r => r.route == route) = some r := h
  rw [DispatchTable.ring, DispatchTable.updateRing, List.find?_map, hcomp, hfind, Option.map_some,
    if_pos (DispatchTable.route_of_ring h)]

theorem DispatchTable.updateRing_updateRing {f g : Ring → Ring} (hf : ∀ r, (f r).route = r.route) :
    (d.updateRing route f).updateRing route g = d.updateRing route (fun r => g (f r)) := by
  unfold DispatchTable.updateRing
  rw [List.map_map]
  congr 1
  refine List.map_congr_left fun r _ => ?_
  by_cases hr : r.route = route <;> simp [hr, hf]

theorem DispatchTable.updateEntry_updateEntry {f g : Entry → Entry} (hf : ∀ e, (f e).names day slot = e.names day slot) :
    (d.updateEntry route day slot f).updateEntry route day slot g = d.updateEntry route day slot (fun e => g (f e)) := by
  rw [DispatchTable.updateEntry, DispatchTable.updateEntry, DispatchTable.updateRing_updateRing (by exact fun _ => rfl),
    DispatchTable.updateEntry]
  congr 1
  funext r
  simp only [List.map_map, Ring.mk.injEq, true_and, and_true]
  refine List.map_congr_left fun e _ => ?_
  by_cases he : e.names day slot = true <;> simp [he, hf]

/-- A ring refilled from an image: the head leaves, and the slot after the tail's is appended (R91). -/
theorem Ring.refill_of_image {t : ImageStore} {g : Image} {tail : Entry} (hg : t.image = some g)
    (h : r.entries.getLast? = some tail) : r.refill t = { r with
      entries := r.entries.drop 1 ++ [newEntry g r.route (slotAfter g r.route tail.day tail.slot).1
        (slotAfter g r.route tail.day tail.slot).2] } := by
  simp only [Ring.refill, hg, h]

theorem Ring.refill_route (t : ImageStore) (r : Ring) : (r.refill t).route = r.route := by
  unfold Ring.refill
  split <;> rfl

/-- A refill and a deferred count's rise, in either order. -/
theorem DispatchTable.updateRing_refill_deferred (t : ImageStore) (f : Nat → Nat) :
    (d.updateRing route (fun r => { r with deferred := f r.deferred })).updateRing route (fun r => r.refill t) =
      (d.updateRing route (fun r => r.refill t)).updateRing route (fun r => { r with deferred := f r.deferred }) := by
  rw [DispatchTable.updateRing_updateRing (by exact fun _ => rfl),
    DispatchTable.updateRing_updateRing (fun r => r.refill_route t)]
  congr 1
  funext r
  unfold Ring.refill
  cases t.image <;> cases r.entries.getLast? <;> rfl

end Rings

theorem Entry.reachedAt_iff {e : Entry} {c : ClockTime} :
    e.reachedAt c = true ↔ forwardFrom e.instant c.instant < 15811200000 := decide_eq_true_iff

/-! ### Records at a closing -/

section Requoted
variable {p : Parcel} {route day slot : Nat}

theorem Parcel.entryClosed_tag (p : Parcel) (route day slot : Nat) : (p.entryClosed route day slot).tag = p.tag := by
  unfold Parcel.entryClosed
  repeat' split
  all_goals rfl

theorem Parcel.entryClosed_quote (p : Parcel) (route day slot : Nat) : (p.entryClosed route day slot).quote = p.quote := by
  unfold Parcel.entryClosed
  repeat' split
  all_goals rfl

/-- A quote placed on a record does not show what a closing took from it. -/
theorem Parcel.quoted_entryClosed (p : Parcel) (route day slot : Nat) (on : Booked) :
    (p.entryClosed route day slot).quoted on = p.quoted on := by
  unfold Parcel.entryClosed
  repeat' split
  all_goals rfl

theorem Parcel.quotedOn_iff : p.quotedOn route day slot = true ↔
    (p.state = .quoted ∧ p.standing = some true) ∧ p.route = route ∧ p.dispatch = some (.entry day slot) := by
  simp [Parcel.quotedOn, and_assoc]

theorem requotes_eq_nil {ps : List Parcel} (h : ∀ p ∈ ps, p.quotedOn route day slot = false) :
    requotes ps route day slot = [] := by
  have hnone : ps.filter (fun p => p.quotedOn route day slot) = [] :=
    List.filter_eq_nil_iff.2 fun p hp => by simp [h p hp]
  rw [requotes, hnone]
  rfl

theorem Parcel.entryClosed_of_unquoted (h : p.quotedOn route day slot = false) : p.entryClosed route day slot =
    if p.route = route ∧ p.dispatch = some (.entry day slot) then { p with holds := false } else p :=
  if_neg (by simp [h])

end Requoted

/-! ### The closing -/

section Closing
variable {s : State} {route : Nat} {e : Entry}

/-- The state once a head's units are counted and its GIVEs withdrawn, the first two steps of its closing (R103). -/
def State.headGone (s : State) (route : Nat) (e : Entry) : State :=
  { s with
    dispatch := s.dispatch.expire e.held
    bus := s.bus.withoutGives (fun g => g.names route e.day e.slot) s.timer.ms }

/-- The state once a head has left its ring and its records, the last three steps of its closing (R103). -/
def State.headLeft (s : State) (store : ImageStore) (route : Nat) (e : Entry) : State :=
  { s with
    dispatch := { s.dispatch.updateRing route (fun r => r.refill store) with
      line := s.dispatch.line ++ requotes s.queue.parcels route e.day e.slot }
    queue := { s.queue with parcels := s.queue.parcels.map (fun p => p.entryClosed route e.day e.slot) } }

theorem State.closeHead_eq (s : State) (route : Nat) (e : Entry) :
    s.closeHead route e = ((s.headGone route e).closeAskFor route e.day e.slot).headLeft s.store route e := by
  have hgone : (s.setDispatch (s.dispatch.expire e.held)).putBus
      (s.bus.withdrawGives (fun g => g.names route e.day e.slot)) = s.headGone route e :=
    congrArg (fun b => { s with dispatch := s.dispatch.expire e.held, bus := b })
      (BusController.withWait_withdrawGives _ _ _)
  rw [← hgone]
  rfl

theorem ShareAgent.asksFor_iff {a : ShareAgent} {day slot : Nat} : a.asksFor route day slot = true ↔
    ∃ x, a.openAsk = some x ∧ x.route = route ∧ x.day = day ∧ x.slot = slot := by
  rw [← Bool.not_eq_false, ShareAgent.asksFor_eq_false_iff, not_not]

/-- With no ask and no booking on the head, its closing leaves both as they stand. -/
theorem State.closeAskFor_of_other {day slot : Nat}
    (ha : ∀ a, s.share.openAsk = some a → ¬(a.route = route ∧ a.day = day ∧ a.slot = slot))
    (hb : ∀ b, s.dispatch.current = some b → ¬(b.request.route = route ∧ b.trial = some (day, slot))) :
    s.closeAskFor route day slot = s := by
  have hno : s.share.asksFor route day slot = false := by
    rw [ShareAgent.asksFor_eq_false_iff]
    rintro ⟨x, hx, hon⟩
    exact ha x hx hon
  rw [State.closeAskFor, hno, if_neg Bool.false_ne_true, State.rollClosed]
  split
  next b hc => exact if_neg (hb b hc)
  next => rfl

/-- The open ask for the head ends, and its booking rolls without a trial (R103, R154). -/
theorem State.closeAskFor_of_asked {a : OpenAsk} {b : Booking} {day slot : Nat} (ha : s.share.openAsk = some a)
    (hon : a.route = route ∧ a.day = day ∧ a.slot = slot) (hb : s.dispatch.current = some b)
    (hhead : b.request.route = route ∧ b.trial = some (day, slot)) :
    s.closeAskFor route day slot = if (s.dispatch.rolled b).tries < 3 then
        s.closeAsk.setDispatch { s.dispatch with current := some (s.dispatch.rolled b) }
      else s.closeAsk.bookDeferred (s.dispatch.rolled b) := by
  have hcur : s.closeAsk.dispatch.current = some b := (congrArg _ (State.closeAsk_dispatch s)).trans hb
  rw [State.closeAskFor, if_pos (ShareAgent.asksFor_iff.2 ⟨a, ha, hon⟩), State.rollClosed, hcur]
  refine (if_pos hhead).trans ?_
  rw [State.closeAsk_dispatch]

/-- After an event with no booking in TESTING and nothing that waits without one, nothing is booked. -/
theorem State.bookings_of_settled (h : s.dispatch.current = none → s.dispatch.line = [])
    (hb : ∀ b, s.dispatch.current = some b → b.asking = true) : s.bookings = s := by
  rw [State.bookings, State.tryCurrent]
  cases hc : s.dispatch.current with
  | none => exact State.serveLine_of_empty (h hc)
  | some b =>
    dsimp only
    rw [if_pos (hb b hc)]
    exact State.serveLine_of_current hc

/-- A head's closing that neither an ask nor a booking is touched by (R103). -/
def State.closing (s : State) (route : Nat) (e : Entry) : State := (s.headGone route e).headLeft s.store route e

theorem State.closeHead_of_other
    (ha : ∀ a, s.share.openAsk = some a → ¬(a.route = route ∧ a.day = e.day ∧ a.slot = e.slot))
    (hb : ∀ b, s.dispatch.current = some b → ¬(b.request.route = route ∧ b.trial = some (e.day, e.slot))) :
    s.closeHead route e = s.closing route e := by
  rw [State.closeHead_eq, State.closeAskFor_of_other (s := s.headGone route e) ha hb, State.closing]

/-- The controller after a closing that ends an ask: the ASK frame is withdrawn if it was queued for it (R146). -/
def State.asklessBus (s : State) (a : OpenAsk) (route : Nat) (e : Entry) : BusController :=
  if a.phase = .sending then (s.closing route e).bus.withoutAsk s.timer.ms else (s.closing route e).bus

/-- The booking that rolls from a closed head to the entry that follows it. -/
def Booking.past (b : Booking) (rest : List Entry) : Booking :=
  { b with
    trial := rest.head?.map (fun x => (x.day, x.slot)), tries := b.tries + 1, asked := false, asking := false }

section Asked
variable {a : OpenAsk} {b : Booking} {ring : Ring} {rest : List Entry}

theorem State.closeAskFor_head (ha : s.share.openAsk = some a) (hon : a.route = route ∧ a.day = e.day ∧ a.slot = e.slot)
    (hb : s.dispatch.current = some b) (hhead : b.request.route = route ∧ b.trial = some (e.day, e.slot))
    (hring : s.dispatch.ring route = some ring) (hentries : ring.entries = e :: rest) :
    (s.headGone route e).closeAskFor route e.day e.slot = if b.tries + 1 < 3 then
        { s.headGone route e with
          share := { s.share with openAsk := none }, bus := s.asklessBus a route e
          dispatch := { s.dispatch.expire e.held with current := some (b.past rest) } }
      else State.bookDeferred
        { s.headGone route e with share := { s.share with openAsk := none }, bus := s.asklessBus a route e } (b.past rest) := by
  have hrolled : (s.headGone route e).dispatch.rolled b = b.past rest :=
    DispatchTable.rolled_of_split (before := []) (ring := ring) (by rw [hhead.1]; exact hring) hentries (by simp) hhead.2
  rw [State.closeAskFor_of_asked (s := s.headGone route e) ha hon hb hhead, hrolled, State.closeAsk_of_open (by exact ha)]
  rfl

/-- A head's closing that ends its ask, the booking rolled to the entry that follows (R103). -/
theorem State.closeHead_of_asked (ha : s.share.openAsk = some a)
    (hon : a.route = route ∧ a.day = e.day ∧ a.slot = e.slot) (hb : s.dispatch.current = some b)
    (hhead : b.request.route = route ∧ b.trial = some (e.day, e.slot)) (hring : s.dispatch.ring route = some ring)
    (hentries : ring.entries = e :: rest) (htries : b.tries < 2) : s.closeHead route e = { s.closing route e with
      share := { s.share with openAsk := none }, bus := s.asklessBus a route e
      dispatch := { (s.closing route e).dispatch with current := some (b.past rest) } } := by
  rw [State.closeHead_eq, State.closeAskFor_head ha hon hb hhead hring hentries, if_pos (by omega)]
  rfl

/-- A head's closing that ends its ask and, as the third entry tried, books on DEFERRED (R103). -/
theorem State.closeHead_of_third {older younger : List Parcel} {p : Parcel} (ha : s.share.openAsk = some a)
    (hon : a.route = route ∧ a.day = e.day ∧ a.slot = e.slot) (hb : s.dispatch.current = some b)
    (hhead : b.request.route = route ∧ b.trial = some (e.day, e.slot)) (hring : s.dispatch.ring route = some ring)
    (hentries : ring.entries = e :: rest) (htries : 2 ≤ b.tries) (hp : s.Holds older p younger)
    (htag : p.tag = b.request.tag)
    (hquoted : ∀ q ∈ older ++ younger, q.quotedOn route e.day e.slot = false) :
    s.closeHead route e = { s.closing route e with
      share := { s.share with openAsk := none }, bus := s.asklessBus a route e
      dispatch := { ((s.dispatch.expire e.held).updateRing route (fun r => r.refill s.store)).updateRing route
          (fun r => { r with deferred := satAdd 65535 r.deferred b.request.load }) with current := none }
      queue := { s.queue with
        parcels := older.map (fun q => q.entryClosed route e.day e.slot) ++
          p.quoted .deferred :: younger.map (fun q => q.entryClosed route e.day e.slot) } } := by
  obtain ⟨rfl, htrial⟩ := hhead
  let c : State := { s.headGone b.request.route e with
    share := { s.share with openAsk := none }, bus := s.asklessBus a b.request.route e }
  have hc : c.Holds older p younger := hp
  have hself : (p.quoted .deferred).entryClosed b.request.route e.day e.slot = p.quoted .deferred := by
    rw [Parcel.entryClosed, if_neg (by simp [Parcel.quotedOn, Parcel.quoted]), if_neg (by simp [Parcel.quoted])]
  have hnone : requotes (older ++ p.quoted .deferred :: younger) b.request.route e.day e.slot = [] := by
    refine requotes_eq_nil fun q hq => ?_
    simp only [List.mem_append, List.mem_cons] at hq
    obtain hq | rfl | hq := hq
    · exact hquoted q (List.mem_append_left _ hq)
    · simp [Parcel.quotedOn, Parcel.quoted]
    · exact hquoted q (List.mem_append_right _ hq)
  rw [State.closeHead_eq, State.closeAskFor_head ha hon hb ⟨rfl, htrial⟩ hring hentries, if_neg (by omega),
    show State.bookDeferred c (b.past rest) = _ from hc.bookDeferred htag, State.headLeft]
  simp only [hnone, List.append_nil, List.map_append, List.map_cons, hself, ← DispatchTable.updateRing_refill_deferred
    (t := s.store) (f := fun n => satAdd 65535 n b.request.load)]
  rfl

end Asked

theorem exec_cutOff {c : ClockTime} {ring : Ring} {rest : List Entry} (hs : s.powered = true)
    (hc : s.dispatch.clock = some c) (hring : s.dispatch.ring route = some ring) (hentries : ring.entries = e :: rest) :
    exec (.cutOff route) s = .next (if forwardFrom e.instant c.instant < 15811200000 then
      (s.closeHead route e).bookings.quotesDue s else s) := by
  refine next_event hs ?_
  have hdue : s.dispatch.dueHead route = if e.reachedAt c then some e else none := by
    simp only [DispatchTable.dueHead, hc, hring, Option.map_some, hentries]
  rw [hdue]
  by_cases h : e.reachedAt c = true
  · rw [if_pos h, if_pos (Entry.reachedAt_iff.1 h)]
  · rw [if_neg h, if_neg (mt Entry.reachedAt_iff.2 h)]

end Closing

/-- Settles O34: the closing alone, and with the ask for the head ended and its booking rolled. -/
theorem cutOffClosesHead : Obligations.CutOffClosesHead := by
  intro s route c ring e rest g tail hs hc hring hentries hg htail honly
  refine ⟨fun hfar => ?_, fun hdue hunquoted => ?_⟩
  · rw [exec_cutOff hs hc hring hentries, if_neg (Nat.not_lt.2 hfar)]
  intro next kept bus closed askedFor onHead
  have hquoted : ∀ p ∈ s.queue.parcels, p.quotedOn route e.day e.slot = false := by
    intro p hp
    rw [← Bool.not_eq_true, Parcel.quotedOn_iff]
    exact fun h => hunquoted p hp h.2.1 h.2.2 h.1
  have hkept : ∀ ps : List Parcel, (∀ p ∈ ps, p.quotedOn route e.day e.slot = false) →
      ps.map (fun p => p.entryClosed route e.day e.slot) = ps.map kept := fun ps h =>
    List.map_congr_left fun p hp => Parcel.entryClosed_of_unquoted (h p hp)
  have hquotes : ∀ ps : List Parcel, ps.map Parcel.quote = (ps.map kept).map Parcel.quote := by
    intro ps
    rw [List.map_map]
    refine List.map_congr_left fun q _ => ?_
    simp only [Function.comp_apply, kept]
    split <;> rfl
  have hrefill : ∀ r ∈ s.dispatch.rings, r.route = route → Ring.refill s.store r = { r with
      entries := r.entries.drop 1 ++ [newEntry g route next.1 next.2] } := by
    intro r hr hroute
    obtain rfl := honly r hr hroute
    rw [Ring.refill_of_image hg (tail := tail) (by rw [hentries]; exact htail), hroute]
  have hclosed : (s.dispatch.expire e.held).updateRing route (fun r => r.refill s.store) = closed := by
    refine congrArg (fun rs => { s.dispatch.expire e.held with rings := rs }) (List.map_congr_left fun r hr => ?_)
    by_cases hroute : r.route = route
    · rw [if_pos hroute, if_pos hroute]
      exact hrefill r hr hroute
    · rw [if_neg hroute, if_neg hroute]
  have hclosing : s.closing route e = { s with
      queue := { s.queue with parcels := s.queue.parcels.map kept }, dispatch := closed, bus := bus } := by
    simp only [State.closing, State.headLeft, State.headGone, hclosed, hkept _ hquoted, requotes_eq_nil hquoted,
      List.append_nil]
    rfl
  refine ⟨fun ha hline hb => ?_, fun a b older p younger ha hon hb hasking hhead hline hp htag hroom => ?_⟩
  · rw [exec_cutOff hs hc hring hentries, if_pos hdue, State.closeHead_of_other ha fun b hb' => (hb b hb').2, hclosing,
      State.bookings_of_settled (by exact hline) (by exact fun b hb' => (hb b hb').1), State.quotesDue_none]
    exact (hquotes _).symm
  · intro load n quoted
    have htags : ∀ q ∈ older.map kept ++ younger.map kept, q.tag ≠ p.tag := by
      have hkeep : ∀ q, (kept q).tag = q.tag := fun q => by
        simp only [kept]
        split <;> rfl
      rw [← List.map_append]
      intro q hq
      obtain ⟨q', hq', rfl⟩ := List.mem_map.1 hq
      rw [hkeep]
      exact hp.2 q' hq'
    have hbus : s.asklessBus a route e = if a.phase = .sending then bus.withoutAsk s.timer.ms else bus := by
      rw [State.asklessBus, hclosing]
    have hplaced : ∀ {on : Booked} {d : DispatchTable}, (s.closeHead route e).bookings = { s with
        share := { s.share with openAsk := none }, bus := s.asklessBus a route e
        dispatch := { d with current := none }
        queue := { s.queue with parcels := older.map kept ++ p.quoted on :: younger.map kept } } → quoted on d := by
      intro on d h
      refine (exec_cutOff hs hc hring hentries).trans (congrArg Host.Outcome.next ((if_pos hdue).trans
        ((congrArg (State.quotesDue · s) h).trans ?_)))
      rw [hbus]
      exact State.quotesDue_placed (p := p) (on := on) ⟨rfl, htags⟩ hp.1 (hquotes _) (hquotes _) hroom
    refine ⟨fun e2 more htries hrest hroom2 => hplaced ?_, fun htries => hplaced ?_⟩
    · let t : State := { s with
        share := { s.share with openAsk := none }, bus := s.asklessBus a route e
        dispatch := { closed with current := some (b.past rest) }
        queue := { s.queue with parcels := older.map kept ++ kept p :: younger.map kept } }
      have ht : s.closeHead route e = t := by
        rw [State.closeHead_of_asked ha hon hb hhead hring hentries htries, hclosing]
        simp only [hp.1, List.map_append, List.map_cons]
        rfl
      have htring : t.dispatch.ring (b.past rest).request.route = some { ring with
          entries := e2 :: (more ++ [newEntry g route next.1 next.2]) } := by
        have h := DispatchTable.ring_updateRing (d := s.dispatch.expire e.held) (f := fun r => r.refill s.store)
          (fun r => r.refill_route _) hring
        rw [hclosed, hrefill ring (List.mem_of_find?_eq_some hring) (DispatchTable.route_of_ring hring), hentries, hrest] at h
        exact hhead.1 ▸ h
      have htrial : t.dispatch.trialEntry (b.past rest) = some e2 :=
        DispatchTable.trialEntry_of_split (before := []) htring rfl (by simp) (by simp [Booking.past, hrest])
      have hkp : kept p = p ∨ kept p = { p with holds := false } := by
        simp only [kept]
        split
        · exact .inr rfl
        · exact .inl rfl
      have hheld : t.Holds (older.map kept) (kept p) (younger.map kept) :=
        ⟨rfl, by obtain h | h := hkp <;> (rw [h]; exact htags)⟩
      obtain ⟨k, hk⟩ : ∃ k, 3 - (b.past rest).tries = k + 1 := ⟨1 - b.tries, by simp only [Booking.past]; omega⟩
      rw [ht, State.bookings_of_testing (s := t) (b := b.past rest) rfl rfl hline, hk, State.tryEntries_of_room htrial hroom2,
        hheld.bookOn (by obtain h | h := hkp <;> (rw [h]; exact htag))]
      have hq : (kept p).quoted (.entry e2.day e2.slot) = p.quoted (.entry e2.day e2.slot) := by
        obtain h | h := hkp <;> rw [h]
        rfl
      rw [hq, show (b.past rest).request.route = route from hhead.1]
      rfl
    · have hothers : ∀ q ∈ older ++ younger, q.quotedOn route e.day e.slot = false := fun q hq =>
        hquoted q (by rw [hp.1]; simpa using Or.imp id .inr (List.mem_append.1 hq))
      rw [State.closeHead_of_third ha hon hb hhead hring hentries htries hp htag hothers, hclosed, hclosing,
        State.bookings_of_settled (by exact fun _ => hline) (by simp),
        hkept older fun q hq => hothers q (List.mem_append_left _ hq),
        hkept younger fun q hq => hothers q (List.mem_append_right _ hq)]

end Sys2Proof.Machine
end


section
/-! The requotes of a closing (R71, R95): the records of the closed entry booked again in the same event. -/

namespace Sys2Proof.Machine

section Requote
variable {s : State} {route : Nat} {e e2 tail : Entry} {rest : List Entry} {ring : Ring} {g : Image}

/-- The ring left by the closing of the head before `e2`, in the only ring (R91). -/
def Ring.advanced (ring : Ring) (g : Image) (e2 : Entry) (rest : List Entry) (tail : Entry) : Ring :=
  { ring with
    entries := e2 :: rest ++ [newEntry g ring.route (slotAfter g ring.route tail.day tail.slot).1
      (slotAfter g ring.route tail.day tail.slot).2] }

theorem State.closing_of_one (hrings : s.dispatch.rings = [ring]) (hroute : ring.route = route)
    (hentries : ring.entries = e :: e2 :: rest) (htail : (e2 :: rest).getLast? = some tail)
    (hg : s.store.image = some g) : s.closing route e = { s with
      dispatch := { s.dispatch with
        expired := satAdd 65535 s.dispatch.expired e.held, rings := [ring.advanced g e2 rest tail]
        line := s.dispatch.line ++ requotes s.queue.parcels route e.day e.slot }
      bus := s.bus.withoutGives (fun x => x.live && x.route == route && x.day == e.day && x.slot == e.slot) s.timer.ms
      queue := { s.queue with parcels := s.queue.parcels.map (fun p => p.entryClosed route e.day e.slot) } } := by
  have hrefill : Ring.refill s.store ring = ring.advanced g e2 rest tail := by
    rw [Ring.refill_of_image hg (tail := tail) (by rw [hentries, List.getLast?_cons_cons, htail]), hentries]
    rfl
  have hclosed : (s.dispatch.expire e.held).updateRing route (fun r => r.refill s.store) =
      { s.dispatch.expire e.held with rings := [ring.advanced g e2 rest tail] } := by
    simp only [DispatchTable.updateRing, DispatchTable.expire, hrings, List.map_cons, List.map_nil, if_pos hroute, hrefill]
  rw [State.closing, State.headLeft, State.headGone]
  simp only [hclosed]
  rfl

/-- A request starts at the head of its route's ring (R93). -/
theorem DispatchTable.start_of_ring {d : DispatchTable} {r : Request} (hring : d.ring r.route = some ring)
    (hentries : ring.entries = e :: rest) : d.start r = ⟨r, some (e.day, e.slot), 0, false, false⟩ := by
  rw [DispatchTable.start, hring]
  simp only [hentries]
  rfl

/-- The only request of the line is booked on the head of its ring, which has room (R93, R94). -/
theorem State.serveLine_of_room {older younger : List Parcel} {p : Parcel} {r : Request} (hc : s.dispatch.current = none)
    (hl : s.dispatch.line = [r]) (hring : s.dispatch.ring r.route = some ring) (hentries : ring.entries = e :: rest)
    (hroom : r.load ≤ e.free) (hp : s.Holds older p younger) (htag : p.tag = r.tag) : s.serveLine = { s with
      dispatch := { s.dispatch.updateEntry r.route e.day e.slot (fun x => { x with booked := x.booked + r.load }) with
        line := [], current := none }
      queue := { s.queue with parcels := older ++ p.quoted (.entry e.day e.slot) :: younger } } := by
  let b : Booking := ⟨r, some (e.day, e.slot), 0, false, false⟩
  let c : State := s.setDispatch { s.dispatch with line := [] }
  have hstart : s.dispatch.start r = b := DispatchTable.start_of_ring hring hentries
  have htrial : c.dispatch.trialEntry b = some e :=
    DispatchTable.trialEntry_of_split (before := []) hring hentries (by simp) rfl
  have hheld : c.Holds older p younger := hp
  rw [State.serveLine_of_one hc hl, hstart]
  exact (State.tryEntries_of_room htrial hroom).trans (hheld.bookOn htag _ _)

theorem DispatchTable.ring_of_one {d : DispatchTable} (hrings : d.rings = [ring]) (hroute : ring.route = route) :
    d.ring route = some ring := by
  simp [DispatchTable.ring, hrings, hroute]

/-- The head of a ring after a change of its entry. -/
theorem DispatchTable.ring_updateEntry_head {d : DispatchTable} {f : Entry → Entry} (hring : d.ring route = some ring)
    (hentries : ring.entries = e :: rest) : ∃ rest', (d.updateEntry route e.day e.slot f).ring route =
      some { ring with entries := f e :: rest' } :=
  ⟨rest.map (fun x => if x.names e.day e.slot then f x else x), by
    rw [DispatchTable.updateEntry, DispatchTable.ring_updateRing (by exact fun _ => rfl) hring, hentries, List.map_cons,
      if_pos e.names_self]⟩

/-- A QUOTE due with room in the report queue enters it (R83). -/
theorem State.quoteDue_of_room (h : s.link.reports.length < 16) (p : Parcel) :
    s.quoteDue p = s.setLink (s.link.put p.quoteReport) := if_pos (Link.hasRoom_iff.2 h)

theorem State.quoteDue_twice (h : s.link.reports.length < 15) (p q : Parcel) :
    (s.quoteDue p).quoteDue q = s.setLink ((s.link.put p.quoteReport).put q.quoteReport) := by
  rw [State.quoteDue_of_room (by omega) p]
  exact State.quoteDue_of_room (by simp only [State.setLink, Link.put, List.length_append, List.length_singleton]; omega) q

theorem Parcel.entryClosed_of_quoted {p : Parcel} {day slot : Nat} (h : p.quotedOn route day slot = true) :
    p.entryClosed route day slot = p.withdrawn := if_pos h

end Requote

/-- Settles O35: one record requoted, and two with the current booking first and the QUOTEs in queue order. -/
theorem cutOffRequotes : Obligations.CutOffRequotes := by
  refine ⟨fun s route c ring e e2 tail rest p g n load hs hc hrings hroute hentries htail hdue hg hps hst hsd hproute hpd hpq
    hload hfree hask hcur hline hroom => ?_, fun s route c ring e e2 tail rest p q g load b a hs hc hrings hroute hentries
    htail hdue hg hps hpq hst hsd hproute hpd hload hqst hcur hbtag hbroute hasking htrial htries hline hask haroute haday
    haslot hfree hroom => ?_⟩
  · intro next quote closed
    subst hroute
    have hring := DispatchTable.ring_of_one (route := ring.route) hrings rfl
    have hon : p.quotedOn ring.route e.day e.slot = true := Parcel.quotedOn_iff.2 ⟨⟨hst, hsd⟩, hproute, hpd⟩
    let req : Request := ⟨p.tag, ring.route, load, false⟩
    let t : State := { s with
      dispatch := { closed with line := [req] }
      bus := s.bus.withoutGives (fun x => x.live && x.route == ring.route && x.day == e.day && x.slot == e.slot) s.timer.ms
      queue := { s.queue with parcels := [p.withdrawn] } }
    have ht : s.closeHead ring.route e = t := by
      have hreq : requotes [p] ring.route e.day e.slot = [req] := by
        rw [requotes, List.filter_cons_of_pos (by exact hon)]
        simp [req, hproute, hload]
      rw [State.closeHead_of_other (by simp [hask]) (by simp [hcur]), State.closing_of_one hrings rfl hentries htail hg,
        hps, hline, hreq, List.map_singleton, Parcel.entryClosed_of_quoted hon]
      rfl
    have htring : t.dispatch.ring ring.route = some (ring.advanced g e2 rest tail) := DispatchTable.ring_of_one rfl rfl
    have hdispatch : { closed.updateEntry ring.route e2.day e2.slot (fun x => { x with booked := x.booked + load }) with
        line := [], current := none } =
        closed.updateEntry ring.route e2.day e2.slot (fun x => { x with booked := x.booked + load }) := by
      simp only [closed, DispatchTable.updateEntry, DispatchTable.updateRing, hline, hcur]
    let v : State := { t with
      dispatch := closed.updateEntry ring.route e2.day e2.slot (fun x => { x with booked := x.booked + load })
      queue := { s.queue with parcels := [p.quoted (.entry e2.day e2.slot)] } }
    have hbook : t.bookings = v := by
      have htry : t.tryCurrent = t := by
        rw [State.tryCurrent, show t.dispatch.current = none from hcur]
      rw [State.bookings, htry]
      exact (State.serveLine_of_room (s := t) (r := req) (p := p.withdrawn) (older := []) (younger := []) hcur rfl htring rfl hfree
        ⟨rfl, by simp⟩ rfl).trans (congrArg (fun d => ({ v with dispatch := d } : State)) hdispatch)
    have hplaced : v.Holds [] (p.quoted (.entry e2.day e2.slot)) [] := ⟨rfl, by simp⟩
    have hq : p.quoted (.entry e2.day e2.slot) = { p with
        standing := some true, dispatch := some (.entry e2.day e2.slot), holds := true, owed := none
        quote := some quote } := by
      simp only [Parcel.quoted, hpq, ← hst]
      rfl
    rw [exec_cutOff hs hc hring hentries, if_pos hdue, ht, hbook]
    refine (congrArg Host.Outcome.next (State.quotesDue_placed (os := []) (ys := []) hplaced hps rfl rfl hroom)).trans ?_
    simp only [v, hq, Parcel.quoteReport, hload, hproute, Option.getD_some]
    rfl
  · intro next closed quoted report bus
    subst hroute
    have hring := DispatchTable.ring_of_one (route := ring.route) hrings rfl
    have hon : p.quotedOn ring.route e.day e.slot = true := Parcel.quotedOn_iff.2 ⟨⟨hst, hsd⟩, hproute, hpd⟩
    let req : Request := ⟨p.tag, ring.route, load, false⟩
    let b' : Booking := b.past (e2 :: rest)
    let q' : Parcel := q.entryClosed ring.route e.day e.slot
    let t : State := { s with
      share := { s.share with openAsk := none }
      bus := if a.phase = .sending then bus.withoutAsk s.timer.ms else bus
      dispatch := { closed with line := [req], current := some b' }
      queue := { s.queue with parcels := [p.withdrawn, q'] } }
    have ht : s.closeHead ring.route e = t := by
      have hoff : q.quotedOn ring.route e.day e.slot = false := by simp [Parcel.quotedOn, hqst]
      have hreq : requotes [p, q] ring.route e.day e.slot = [req] := by
        rw [requotes, List.filter_cons_of_pos (by exact hon), List.filter_cons_of_neg (by simp [hoff])]
        simp [req, hproute, hload]
      rw [State.closeHead_of_asked hask ⟨haroute, haday, haslot⟩ hcur ⟨hbroute, htrial⟩ hring hentries htries,
        State.asklessBus, State.closing_of_one hrings rfl hentries htail hg, hps, hline, hreq, List.map_cons, List.map_singleton,
        Parcel.entryClosed_of_quoted hon]
      rfl
    have hqtag : q'.tag = q.tag := q.entryClosed_tag _ _ _
    have hbook : ∀ x : Parcel, x.quoted (.entry e2.day e2.slot) = quoted x := fun _ => rfl
    let u : State := { t with
      dispatch := { closed.updateEntry ring.route e2.day e2.slot (fun x => { x with booked := x.booked + b.request.load }) with
        line := [req] }
      queue := { s.queue with parcels := [p.withdrawn, quoted q] } }
    have htring : t.dispatch.ring b'.request.route = some (ring.advanced g e2 rest tail) :=
      DispatchTable.ring_of_one rfl hbroute.symm
    have hfirst : t.tryCurrent = u := by
      have hheld : t.Holds [p.withdrawn] q' [] := ⟨rfl, by simpa [hqtag, Parcel.withdrawn] using hpq⟩
      obtain ⟨k, hk⟩ : ∃ k, 3 - b'.tries = k + 1 := ⟨1 - b.tries, by simp only [b', Booking.past]; omega⟩
      have htry : t.tryCurrent = State.tryEntries (3 - b'.tries) t b' := by
        rw [State.tryCurrent, show t.dispatch.current = some b' from rfl]
        exact if_neg (by simp [b', Booking.past])
      rw [htry, hk, State.tryEntries_of_room
        (DispatchTable.trialEntry_of_split (before := []) htring rfl (by simp) rfl)
        (by simp only [b', Booking.past, Entry.free]; omega),
        hheld.bookOn (b := b') (hqtag.trans hbtag.symm), show q'.quoted _ = quoted q from q.quoted_entryClosed _ _ _ _]
      simp only [b', Booking.past, hbroute]
      rfl
    let e2' : Entry := { e2 with booked := e2.booked + b.request.load }
    obtain ⟨rest', huring⟩ : ∃ rest', u.dispatch.ring ring.route = some { ring.advanced g e2 rest tail with
        entries := e2' :: rest' } :=
      DispatchTable.ring_updateEntry_head (d := closed) (e := e2) (DispatchTable.ring_of_one rfl rfl) rfl
    have hsecond : t.bookings = { t with
        dispatch := closed.updateEntry ring.route e2.day e2.slot (fun x => { x with
          booked := x.booked + b.request.load + load })
        queue := { s.queue with parcels := [quoted p, quoted q] } } := by
      have hdispatch : { u.dispatch.updateEntry ring.route e2.day e2.slot (fun x => { x with booked := x.booked + load }) with
          line := [], current := none } = closed.updateEntry ring.route e2.day e2.slot (fun x => { x with
            booked := x.booked + b.request.load + load }) := by
        rw [show u.dispatch = { closed.updateEntry ring.route e2.day e2.slot (fun x => { x with
            booked := x.booked + b.request.load }) with line := [req] } from rfl]
        have htwice := DispatchTable.updateEntry_updateEntry (d := closed) (route := ring.route) (day := e2.day)
          (slot := e2.slot) (f := fun x => { x with booked := x.booked + b.request.load })
          (g := fun x => { x with booked := x.booked + load }) (fun _ => rfl)
        rw [← htwice]
        simp only [DispatchTable.updateEntry, DispatchTable.updateRing, closed, hline]
      have hheld : u.Holds [] p.withdrawn [quoted q] := ⟨rfl, by simpa [quoted, Parcel.withdrawn] using hpq.symm⟩
      rw [State.bookings, hfirst]
      exact (State.serveLine_of_room (s := u) (r := req) (e := e2') rfl rfl huring rfl
        (by simp only [Entry.free, e2', req]; omega) hheld rfl).trans (congrArg (fun d => ({ t with
          dispatch := d, queue := { s.queue with parcels := [quoted p, quoted q] } } : State)) hdispatch)
    have hquotes : State.quotesDue { t with
        dispatch := closed.updateEntry ring.route e2.day e2.slot (fun x => { x with
          booked := x.booked + b.request.load + load })
        queue := { s.queue with parcels := [quoted p, quoted q] } } s = { t with
        dispatch := closed.updateEntry ring.route e2.day e2.slot (fun x => { x with
          booked := x.booked + b.request.load + load })
        queue := { s.queue with parcels := [quoted p, quoted q] }
        link := { s.link with reports := s.link.reports ++ [report (quoted p), report (quoted q)] } } := by
      have hnew : ParcelQueue.newlyQuoted { s.queue with parcels := [quoted p, quoted q] } s.queue = [quoted p, quoted q] := by
        have hp : p.quote ≠ (quoted p).quote := p.quote_ne_quoted (.entry e2.day e2.slot)
        have hq : q.quote ≠ (quoted q).quote := q.quote_ne_quoted (.entry e2.day e2.slot)
        simp [ParcelQueue.newlyQuoted, hps, hp, hq]
      rw [State.quotesDue, hnew, List.foldl_cons, List.foldl_cons, List.foldl_nil, State.quoteDue_twice (by exact hroom)]
      simp [State.setLink, Link.put, Parcel.quoteReport, report, quoted, t]
    rw [exec_cutOff hs hc hring hentries, if_pos hdue, ht, hsecond, hquotes]

end Sys2Proof.Machine
end


section
/-! The first SET-CLOCK (R88, R91, R179): the rings filled from a time, and the serial resolved from the cell copies. -/

namespace Sys2Proof.Machine

/-! ### The resolution of the serial -/

section Resolution
variable {s : State} {day : Nat} {c : Option Cell}

theorem cellEnd_of_named {x : Nat} (h : x ≤ 999999) : cellEnd (some ⟨day, x⟩) day = some x :=
  (if_pos rfl).trans (congrArg some (min_eq_left h))

theorem cellEnd_of_other (h : ∀ x, c = some x → x.day ≠ day) : cellEnd c day = none := by
  cases c with
  | none => rfl
  | some x => exact if_neg (h x rfl)

/-- A block end found for the day is one that the copy names. -/
theorem cellEnd_le {bound y : Nat} (h : ∀ x, c = some x → x.day = day → x.blockEnd ≤ bound) (hy : cellEnd c day = some y) :
    y ≤ bound := by
  cases c with
  | none => simp [cellEnd] at hy
  | some x =>
    by_cases hx : x.day = day
    · have hmin : min x.blockEnd 999999 = y := by simpa [cellEnd, hx, Config.serialMax] using hy
      have := h x rfl hx
      omega
    · simp [cellEnd, hx] at hy

/-- Copy A supplies the serial when no later block end stands in copy B (R179). -/
theorem resolution_of_a {x : Nat} {b : Option Nat} (h : ∀ y, b = some y → y ≤ x) : resolution (some x) b = (x, .b) := by
  cases b with
  | none => rfl
  | some y => exact if_neg (Nat.not_lt.2 (h y rfl))

/-- Copy B supplies it when its block end is the later (R179). -/
theorem resolution_of_b {y : Nat} {a : Option Nat} (h : ∀ x, a = some x → x < y) : resolution a (some y) = (y, .a) := by
  cases a with
  | none => rfl
  | some x => exact if_pos (h x rfl)

/-- The serial resolved with no write in progress (R178, R179). -/
theorem State.resolveSerial_eq {serial : Nat} {copy : CellCopy} (hs : s.label.serial = none) (hw : s.loader.writes = [])
    (h : resolution (cellEnd s.label.cellA day) (cellEnd s.label.cellB day) = (serial, copy)) :
    s.resolveSerial day = { s with
      label := { s.label with serial := some (serial, day), nextCopy := if serial = 0 then .a else copy }
      loader := { s.loader with
        writes := if serial % 100 = 0 then [.cell day (min (serial + 100) 999999) false] else [] } } := by
  rw [State.resolveSerial, hs]
  dsimp only
  rw [h, State.setSerial_eq]
  by_cases hmul : serial % 100 = 0
  · simp [State.setLabel, hmul, Loader.askCell, hw, blockEndOf, Config.serialMax]
  · simp [State.setLabel, hmul, ← hw]

end Resolution

/-- Settles O16: by the copies that name the day. -/
theorem firstSetClockResolves : Obligations.FirstSetClockResolves := by
  intro s day ms hs hlow hhigh hms hclock hserial hwrites outcome
  have hout : ∀ (serial : Nat) (copy : CellCopy), resolution (cellEnd s.label.cellA day.toNat)
      (cellEnd s.label.cellB day.toNat) = (serial, copy) → outcome serial (if serial = 0 then .a else copy) := by
    intro serial copy h
    have hrange : (within 1 Config.yearDays day.toNat && decide (ms.toNat < Config.dayMs)) = true := by
      rw [Bool.and_eq_true, within_iff, decide_eq_true_iff]
      exact ⟨⟨hlow, hhigh⟩, hms⟩
    change exec (.setClock day ms) s = _
    rw [show exec (.setClock day ms) s = .next (s.command 9 (fun s => s.setClock day.toNat ms.toNat)) from rfl,
      State.command_of_ready hs, State.setClock, if_pos hrange, State.setClockTo_of_unset _ hclock, State.firstClock,
      State.resolveSerial_eq (by exact hserial) (by exact hwrites) (by exact h)]
    rfl
  clear_value outcome
  refine ⟨fun hother => ?_, fun x ha hx hmax hb => ?_, fun y hb hy hmax ha => ?_⟩
  · have h := hout 0 .a
    rw [cellEnd_of_other (fun c hc => hother c (.inl hc)), cellEnd_of_other (fun c hc => hother c (.inr hc))] at h
    exact h rfl
  · have h := hout x .b
    rw [ha, cellEnd_of_named hmax, resolution_of_a (fun y => cellEnd_le hb), if_neg (by omega)] at h
    exact h rfl
  · have h := hout y .a
    have hlt : ∀ x, cellEnd s.label.cellA day.toNat = some x → x < y := fun x hx => by
      have := cellEnd_le (bound := y - 1) (fun c hc hd => Nat.le_sub_one_of_lt (ha c hc hd)) hx
      omega
    rw [hb, cellEnd_of_named hmax, resolution_of_b hlt, ite_self] at h
    exact h rfl

end Sys2Proof.Machine
end

section
/-! The rings filled from a time (R91): the daily slots of a route follow one another, and those of a day whose cut-off
lies ahead are its last. -/

namespace Sys2Proof.Machine

section Slots
variable {g : Image} {route : Nat}

/-- The slots of one day. -/
theorem slotsOf_one (day : Nat) :
    slotsOf g route day 1 = (List.range (routeSlots g route)).map (fun i => (day, i + 1)) := by
  simp [slotsOf]

theorem slotsOf_succ (day n : Nat) : slotsOf g route day (n + 1) = slotsOf g route day 1 ++ slotsOf g route (nextDay day) n := by
  rw [slotsOf_one, slotsOf]

theorem slot_of_mem_slotsOf {n day : Nat} {x : Nat × Nat} (h : x ∈ slotsOf g route day n) :
    1 ≤ x.2 ∧ x.2 ≤ routeSlots g route := by
  induction n generalizing day with
  | zero => exact absurd h (List.not_mem_nil)
  | succ n ih =>
    rw [slotsOf_succ, List.mem_append] at h
    obtain h | h := h
    · obtain ⟨i, hi, rfl⟩ := List.mem_map.1 (slotsOf_one (g := g) (route := route) day ▸ h)
      have := List.mem_range.1 hi
      exact ⟨by omega, by omega⟩
    · exact ih h

theorem length_slotsOf (day n : Nat) : (slotsOf g route day n).length = n * routeSlots g route := by
  induction n generalizing day with
  | zero => simp [slotsOf]
  | succ n ih => rw [slotsOf_succ, List.length_append, ih, slotsOf_one, List.length_map, List.length_range, Nat.succ_mul, Nat.add_comm]

theorem head?_slotsOf (h : 1 ≤ routeSlots g route) (day n : Nat) : (slotsOf g route day (n + 1)).head? = some (day, 1) := by
  obtain ⟨k, hk⟩ : ∃ k, routeSlots g route = k + 1 := ⟨routeSlots g route - 1, by omega⟩
  simp [slotsOf, hk, List.range_succ_eq_map]

/-- The slots of one day follow one another (R91). -/
theorem slotsOf_one_follow (day : Nat) :
    (slotsOf g route day 1).IsChain (fun x y => y = slotAfter g route x.1 x.2) := by
  rw [slotsOf_one, List.isChain_iff_getElem]
  intro i hi
  have hlt : i + 1 < routeSlots g route := by simpa using hi
  simp [slotAfter, hlt]

/-- The daily slots follow one another over the days (R91). -/
theorem slotsOf_follow (h : 1 ≤ routeSlots g route) (day n : Nat) :
    (slotsOf g route day n).IsChain (fun x y => y = slotAfter g route x.1 x.2) := by
  induction n generalizing day with
  | zero => exact .nil
  | succ n ih =>
    rw [slotsOf_succ]
    refine (slotsOf_one_follow day).append (ih _) fun x hx y hy => ?_
    obtain ⟨k, hk⟩ : ∃ k, routeSlots g route = k + 1 := ⟨routeSlots g route - 1, by omega⟩
    have hlast : x = (day, routeSlots g route) := by
      simpa [slotsOf_one, hk, List.range_succ, eq_comm] using hx
    cases n with
    | zero => exact absurd hy (by simp [slotsOf])
    | succ n =>
      rw [head?_slotsOf h] at hy
      simp [hlast, slotAfter, ← Option.some.inj hy]

/-- Slots with ascending minutes: those up to some slot lie at or before a minute, the others after it. -/
theorem exists_slot_reached {minute : Nat → Nat} (m n : Nat) (h : ∀ i j, 1 ≤ i → i < j → j ≤ n → minute i < minute j) :
    ∃ k ≤ n, (∀ i, 1 ≤ i → i ≤ k → minute i ≤ m) ∧ ∀ i, k < i → i ≤ n → m < minute i := by
  induction n with
  | zero => exact ⟨0, le_rfl, fun i hi hk => by omega, fun i hi hn => by omega⟩
  | succ n ih =>
    by_cases hlast : minute (n + 1) ≤ m
    · refine ⟨n + 1, le_rfl, fun i hi hn => ?_, fun i hi hn => by omega⟩
      obtain rfl | hlt := Nat.eq_or_lt_of_le hn
      · exact hlast
      · exact Nat.le_trans (Nat.le_of_lt (h i (n + 1) hi hlt le_rfl)) hlast
    · obtain ⟨k, hk, hbefore, hafter⟩ := ih fun i j hi hij hj => h i j hi hij (by omega)
      refine ⟨k, by omega, hbefore, fun i hi hn => ?_⟩
      obtain rfl | hlt := Nat.eq_or_lt_of_le hn
      · omega
      · exact hafter i hi (by omega)

/-- The slots of a day that lie ahead are those after the slots reached. -/
theorem filter_slotsOf_one {day m k : Nat} (hbefore : ∀ i, 1 ≤ i → i ≤ k → slotMinute g route i ≤ m)
    (hafter : ∀ i, k < i → i ≤ routeSlots g route → m < slotMinute g route i) :
    (slotsOf g route day 1).filter (fun x => decide (m < slotMinute g route x.2)) = (slotsOf g route day 1).drop k := by
  have hreached : ((slotsOf g route day 1).take k).filter (fun x => decide (m < slotMinute g route x.2)) = [] := by
    rw [List.filter_eq_nil_iff]
    intro x hx
    obtain ⟨i, hi, rfl⟩ := List.mem_take_iff_getElem.1 hx
    simpa [slotsOf_one] using hbefore (i + 1) (by omega) (by omega)
  have hahead : ((slotsOf g route day 1).drop k).filter (fun x => decide (m < slotMinute g route x.2)) =
      (slotsOf g route day 1).drop k := by
    rw [List.filter_eq_self]
    intro x hx
    obtain ⟨i, hi, rfl⟩ := List.mem_drop_iff_getElem.1 hx
    simp only [slotsOf_one, List.length_map, List.length_range] at hi
    simpa [slotsOf_one] using hafter (k + i + 1) (by omega) (by omega)
  calc (slotsOf g route day 1).filter _
      = ((slotsOf g route day 1).take k ++ (slotsOf g route day 1).drop k).filter _ := by rw [List.take_append_drop]
    _ = _ := by rw [List.filter_append, hreached, hahead, List.nil_append]

/-- A ring filled from a time: the first three of the slots after those reached. -/
theorem fillRing_entries {day ms k : Nat} (hk : k ≤ routeSlots g route)
    (hbefore : ∀ i, 1 ≤ i → i ≤ k → slotMinute g route i ≤ ms / 60000)
    (hafter : ∀ i, k < i → i ≤ routeSlots g route → ms / 60000 < slotMinute g route i) :
    (fillRing g route day ms).entries =
      (((slotsOf g route day 4).drop k).take 3).map (fun x => newEntry g route x.1 x.2) := by
  have hlen : k ≤ (slotsOf g route day 1).length := by simpa [length_slotsOf] using hk
  simp only [fillRing]
  rw [filter_slotsOf_one hbefore hafter, slotsOf_succ day 3, List.drop_append_of_le_length hlen]

/-- The first slot after those reached: of the day, or the first of the next. -/
theorem head?_drop_slotsOf {day k n : Nat} (hn : 1 ≤ routeSlots g route) (hk : k ≤ routeSlots g route) :
    ((slotsOf g route day (n + 2)).drop k).head? =
      some (if k < routeSlots g route then (day, k + 1) else (nextDay day, 1)) := by
  rw [slotsOf_succ, List.drop_append_of_le_length (by simpa [length_slotsOf] using hk)]
  split
  next hlt => simp [slotsOf_one, List.head?_append, List.head?_drop, hlt]
  next hge =>
    rw [List.drop_eq_nil_of_le (by simp [length_slotsOf]; omega), List.nil_append, head?_slotsOf hn]

theorem nextDay_ne (day : Nat) : nextDay day ≠ day := by
  rw [nextDay_eq]
  split <;> omega

end Slots

/-- Settles O17: the first three slots of the chain after those reached. -/
theorem ringFillTakesNextThreeSlots : Obligations.RingFillTakesNextThreeSlots := by
  intro g route day ms hn _ _ hasc
  refine ⟨rfl, ?_⟩
  obtain ⟨k, hk, hbefore, hafter⟩ := exists_slot_reached (ms / 60000) (routeSlots g route) hasc
  have hchain := (slotsOf_follow hn day 4).drop k
  have hslots : ∀ x ∈ (slotsOf g route day 4).drop k, 1 ≤ x.2 ∧ x.2 ≤ routeSlots g route := fun x hx =>
    slot_of_mem_slotsOf (List.mem_of_mem_drop hx)
  have hhead := head?_drop_slotsOf (day := day) (n := 2) hn hk
  have hlen : 3 ≤ ((slotsOf g route day 4).drop k).length := by
    rw [List.length_drop, length_slotsOf]
    omega
  have hfill := fillRing_entries (day := day) hk hbefore hafter
  generalize (slotsOf g route day 4).drop k = slots at *
  obtain ⟨x1, x2, x3, rest, rfl⟩ : ∃ x1 x2 x3 rest, slots = x1 :: x2 :: x3 :: rest := by
    match slots, hlen with
    | x1 :: x2 :: x3 :: rest, _ => exact ⟨x1, x2, x3, rest, rfl⟩
  simp only [List.isChain_cons_cons] at hchain
  obtain ⟨h12, h23, -⟩ := hchain
  have hfirst : x1 = if k < routeSlots g route then (day, k + 1) else (nextDay day, 1) := Option.some.inj hhead
  have hnext := nextDay_ne day
  refine ⟨newEntry g route x1.1 x1.2, newEntry g route x2.1 x2.2, newEntry g route x3.1 x3.2, hfill, ?_, h12, h23, ?_, ?_, ?_⟩
  · intro e he
    obtain ⟨x, hx, rfl⟩ : ∃ x ∈ x1 :: x2 :: x3 :: rest, newEntry g route x.1 x.2 = e := by
      simp only [List.mem_cons, List.not_mem_nil, or_false] at he
      obtain rfl | rfl | rfl := he
      · exact ⟨x1, by simp, rfl⟩
      · exact ⟨x2, by simp, rfl⟩
      · exact ⟨x3, by simp, rfl⟩
    obtain ⟨hslot, hslots⟩ := hslots x hx
    exact ⟨hslot, hslots, rfl, rfl, rfl, rfl⟩
  · intro i hi hin hahead
    have hki : k < i := Nat.lt_of_not_le fun hik => by
      have := hbefore i hi hik
      omega
    rw [if_pos (by omega)] at hfirst
    subst hfirst
    exact ⟨rfl, hki⟩
  · intro hday
    split at hfirst
    next hlt =>
      subst hfirst
      exact hafter (k + 1) (by omega) hlt
    next hge =>
      subst hfirst
      exact absurd hday hnext
  · intro hall
    have hge : ¬ k < routeSlots g route := fun hlt => by
      have h1 := hafter (k + 1) (by omega) hlt
      have h2 := hall (k + 1) (by omega) hlt
      omega
    rw [if_neg hge] at hfirst
    subst hfirst
    exact ⟨rfl, rfl⟩

end Sys2Proof.Machine
end


section
/-! SET-CLOCK on a set clock (R88, R89): its tests, and the forward step with the closings that it makes. -/

namespace Sys2Proof.Machine

/-! ### The closings of a forward step -/

section Span
variable {s : State} {c : ClockTime} {d : Nat} {ring : Ring} {before after : List Ring} {e : Entry} {rest : List Entry}

theorem Ring.dueHead_eq_none_iff {r : Ring} :
    r.dueHead c d = none ↔ ∀ e ∈ r.entries.head?, d < forwardFrom c.instant e.instant := by
  unfold Ring.dueHead
  cases r.entries with
  | nil => simp
  | cons e rest =>
    by_cases h : forwardFrom c.instant e.instant ≤ d
    · simp [Entry.ahead, h]
    · simp [Entry.ahead, h, Nat.lt_of_not_le h]

theorem Ring.dueHead_of_due (h : ring.entries = e :: rest) (hd : forwardFrom c.instant e.instant ≤ d) :
    ring.dueHead c d = some (ring.route, e) := by
  rw [Ring.dueHead, h]
  exact if_pos hd

theorem nextClosing_of_beyond (h : ∀ r ∈ s.dispatch.rings, r.dueHead c d = none) : s.dispatch.nextClosing c d = none := by
  rw [DispatchTable.nextClosing, List.filterMap_eq_nil_iff.2 h]
  rfl

/-- The only head within the step is the next closing (R89). -/
theorem nextClosing_of_one (hrings : s.dispatch.rings = before ++ ring :: after)
    (hothers : ∀ r ∈ before ++ after, r.dueHead c d = none) (h : ring.entries = e :: rest)
    (hd : forwardFrom c.instant e.instant ≤ d) : s.dispatch.nextClosing c d = some (ring.route, e) := by
  have hbefore : before.filterMap (Ring.dueHead c d) = [] :=
    List.filterMap_eq_nil_iff.2 fun r hr => hothers r (List.mem_append_left _ hr)
  have hafter : after.filterMap (Ring.dueHead c d) = [] :=
    List.filterMap_eq_nil_iff.2 fun r hr => hothers r (List.mem_append_right _ hr)
  rw [DispatchTable.nextClosing, hrings, List.filterMap_append, hbefore, List.filterMap_cons_some (Ring.dueHead_of_due h hd),
    hafter]
  rfl

theorem State.closeSpan_of_none (n : Nat) (h : s.dispatch.nextClosing c d = none) : State.closeSpan n s c d = s := by
  cases n with
  | zero => rfl
  | succ n => rw [State.closeSpan, h]

theorem State.closeSpan_of_some {n route : Nat} (h : s.dispatch.nextClosing c d = some (route, e)) :
    State.closeSpan (n + 1) s c d = State.closeSpan n (s.closeHead route e) c d := by
  rw [State.closeSpan, h]

end Span

/-! ### A closing that nothing stands on -/

section Unbooked
variable {s : State} {ring : Ring} {before after : List Ring} {e tail : Entry} {rest : List Entry} {g : Image}

/-- No booking, ask, GIVE or record stands on an entry. -/
structure State.Unbooked (s : State) : Prop where
  line : s.dispatch.line = []
  current : s.dispatch.current = none
  ask : s.share.openAsk = none
  gives : s.bus.gives = []
  records : ∀ p ∈ s.queue.parcels, ∀ day slot, p.dispatch ≠ some (.entry day slot)

/-- The state with other rings after closings that nothing stood on, their units counted as expired (R103, R105). -/
def State.closed (s : State) (rings : List Ring) (units : Nat) : State :=
  { s with
    dispatch := { s.dispatch with rings := rings, expired := satAdd 65535 s.dispatch.expired units }
    bus := s.bus.waits s.bus.waitFrom s.timer.ms }

theorem State.Unbooked.closed (h : s.Unbooked) (rings : List Ring) (units : Nat) : (s.closed rings units).Unbooked :=
  ⟨h.line, h.current, h.ask, h.gives, h.records⟩

theorem BusController.waits_waits (b : BusController) (now : Nat) :
    (b.waits b.waitFrom now).waits (b.waits b.waitFrom now).waitFrom now = b.waits b.waitFrom now := by
  change ({ b with
    waitFrom := if b.sending.isNone && b.offers then
      some ((if b.sending.isNone && b.offers then some (b.waitFrom.getD now) else none).getD now) else none } : BusController) =
    { b with waitFrom := if b.sending.isNone && b.offers then some (b.waitFrom.getD now) else none }
  congr 1
  split <;> rfl

theorem State.closed_closed (s : State) (rings rings' : List Ring) (m n : Nat) :
    (s.closed rings m).closed rings' n = s.closed rings' (m + n) := by
  have hexpired : satAdd 65535 (satAdd 65535 s.dispatch.expired m) n = satAdd 65535 s.dispatch.expired (m + n) := by
    simp only [satAdd_eq_min]
    omega
  have hbus := s.bus.waits_waits s.timer.ms
  simp only [State.closed, hexpired, hbus]

theorem Parcel.entryClosed_of_unbooked {p : Parcel} {route day slot : Nat} (h : p.dispatch ≠ some (.entry day slot)) :
    p.entryClosed route day slot = p := by
  rw [Parcel.entryClosed_of_unquoted (by simp [Parcel.quotedOn, h]), if_neg fun hon => h hon.2]

/-- A ring refilled behind its head, the other rings left (R91). -/
theorem DispatchTable.updateRing_refill {t : DispatchTable} {m : ImageStore} (hrings : t.rings = before ++ ring :: after)
    (hothers : ∀ r ∈ before ++ after, r.route ≠ ring.route) (hg : m.image = some g) (hentries : ring.entries = e :: rest)
    (htail : ring.entries.getLast? = some tail) : t.updateRing ring.route (fun r => r.refill m) = { t with
      rings := before ++ { ring with
        entries := rest ++ [newEntry g ring.route (slotAfter g ring.route tail.day tail.slot).1
          (slotAfter g ring.route tail.day tail.slot).2] } :: after } := by
  have hbefore : before.map (fun r => if r.route = ring.route then r.refill m else r) = before :=
    (List.map_congr_left fun r hr => if_neg (hothers r (List.mem_append_left _ hr))).trans (List.map_id _)
  have hafter : after.map (fun r => if r.route = ring.route then r.refill m else r) = after :=
    (List.map_congr_left fun r hr => if_neg (hothers r (List.mem_append_right _ hr))).trans (List.map_id _)
  rw [DispatchTable.updateRing, hrings, List.map_append, List.map_cons, if_pos rfl, hbefore, hafter,
    Ring.refill_of_image hg htail, hentries]
  rfl

theorem State.Unbooked.closeHead (h : s.Unbooked) (hrings : s.dispatch.rings = before ++ ring :: after)
    (hothers : ∀ r ∈ before ++ after, r.route ≠ ring.route) (hg : s.store.image = some g) (hentries : ring.entries = e :: rest)
    (htail : ring.entries.getLast? = some tail) : s.closeHead ring.route e =
      s.closed (before ++ { ring with
        entries := rest ++ [newEntry g ring.route (slotAfter g ring.route tail.day tail.slot).1
          (slotAfter g ring.route tail.day tail.slot).2] } :: after) e.held := by
  have hparcels : s.queue.parcels.map (fun p => p.entryClosed ring.route e.day e.slot) = s.queue.parcels :=
    (List.map_congr_left fun p hp => Parcel.entryClosed_of_unbooked (h.records p hp _ _)).trans (List.map_id _)
  have hrequotes : requotes s.queue.parcels ring.route e.day e.slot = [] :=
    requotes_eq_nil fun p hp => by simp [Parcel.quotedOn, h.records p hp]
  have hbus : s.bus.withoutGives (fun x => x.names ring.route e.day e.slot) s.timer.ms =
      s.bus.waits s.bus.waitFrom s.timer.ms := by
    simp [BusController.withoutGives, BusController.waits, h.gives, BusController.offers]
  rw [State.closeHead_of_other (by simp [h.ask]) (by simp [h.current]), State.closing, State.headLeft, State.headGone]
  dsimp only
  rw [hparcels, hrequotes, hbus, DispatchTable.updateRing_refill (t := s.dispatch.expire e.held) hrings hothers hg hentries htail,
    DispatchTable.expire, State.closed]
  dsimp only
  rw [h.line]
  rfl

section Heads
variable {c : ClockTime} {d : Nat} {e2 e3 : Entry}

/-- The entry appended behind a tail (R91). -/
def Ring.nextEntry (ring : Ring) (g : Image) (tail : Entry) : Entry :=
  newEntry g ring.route (slotAfter g ring.route tail.day tail.slot).1 (slotAfter g ring.route tail.day tail.slot).2

/-- The closing of the only head within a forward step (R89, R91). -/
theorem State.Unbooked.closeSpan (h : s.Unbooked) (hrings : s.dispatch.rings = before ++ ring :: after)
    (hothers : ∀ r ∈ before ++ after, r.route ≠ ring.route ∧ r.dueHead c d = none) (hg : s.store.image = some g)
    (hentries : ring.entries = [e, e2, e3]) (hdue : forwardFrom c.instant e.instant ≤ d) (n : Nat) :
    State.closeSpan (n + 1) s c d = State.closeSpan n (s.closed
      (before ++ { ring with entries := [e2, e3, ring.nextEntry g e3] } :: after) e.held) c d := by
  rw [State.closeSpan_of_some (nextClosing_of_one hrings (fun r hr => (hothers r hr).2) hentries hdue),
    h.closeHead hrings (fun r hr => (hothers r hr).1) hg hentries (tail := e3) (by rw [hentries]; rfl)]
  rfl

/-- No head left within a forward step once the ring's own lies beyond it. -/
theorem beyond_of_head {entries : List Entry} (hothers : ∀ r ∈ before ++ after, r.dueHead c d = none)
    (hhead : d < forwardFrom c.instant e.instant) :
    ∀ r ∈ before ++ { ring with entries := e :: entries } :: after, r.dueHead c d = none := by
  intro r hr
  obtain hr | hr := List.mem_append.1 hr
  · exact hothers r (List.mem_append_left _ hr)
  obtain rfl | hr := List.mem_cons.1 hr
  · refine Ring.dueHead_eq_none_iff.2 fun x hx => ?_
    obtain rfl : e = x := Option.some.inj hx
    exact hhead
  · exact hothers r (List.mem_append_right _ hr)

end Heads

end Unbooked

/-! ### The forward step -/

section Forward
variable {s : State} {c new : ClockTime} {d : Nat}

/-- A day change given to the label unit changes label and loader alone. -/
theorem State.labelDay_eq (s : State) (day : Nat) :
    s.labelDay day = { s with label := (s.labelDay day).label, loader := (s.labelDay day).loader } := by
  by_cases h : s.label.serial = none
  · rw [State.labelDay_of_unresolved h]
  · rw [State.labelDay_of_resolved h]

theorem State.labelDay_mem (s : State) (day : Nat) : (s.labelDay day).loader.mem = s.loader.mem := by
  by_cases h : s.label.serial = none
  · rw [State.labelDay_of_unresolved h]
  · rw [State.labelDay_of_resolved h]
    rfl

/-- The state after the day of a forward step is given to the label unit, if it is another one (R89). -/
def State.dayTurned (s : State) (c new : ClockTime) : State := if new.day = c.day then s else s.labelDay new.day

theorem State.dayTurned_eq (s : State) (c new : ClockTime) :
    s.dayTurned c new = { s with label := (s.dayTurned c new).label, loader := (s.dayTurned c new).loader } := by
  unfold State.dayTurned
  split
  · rfl
  · exact s.labelDay_eq _

theorem State.dayTurned_mem (s : State) (c new : ClockTime) : (s.dayTurned c new).loader.mem = s.loader.mem := by
  unfold State.dayTurned
  split
  · rfl
  · exact s.labelDay_mem _

theorem State.stepForward_eq : s.stepForward c new d =
    (((State.closeSpan closingLimit s c d).dayTurned c new).setDispatch
      { ((State.closeSpan closingLimit s c d).dayTurned c new).dispatch with clock := some new }).bookings.quotesDue s := rfl

/-- What every forward step sets and keeps. -/
theorem State.stepForward_frame (s : State) (c new : ClockTime) (d : Nat) :
    (s.stepForward c new d).dispatch.clock = some new ∧ (s.stepForward c new d).loader.mem = s.loader.mem ∧
    (s.stepForward c new d).store = s.store ∧ (s.stepForward c new d).plate = s.plate ∧
    (s.stepForward c new d).outfeed = s.outfeed := by
  have hspan := State.closeSpan_books closingLimit s c d
  rw [State.stepForward_eq]
  generalize State.closeSpan closingLimit s c d = s1 at hspan ⊢
  have hturn := s1.dayTurned_eq c new
  have hmem := s1.dayTurned_mem c new
  generalize s1.dayTurned c new = s2 at hturn hmem ⊢
  have hbooks := ((s2.setDispatch { s2.dispatch with clock := some new }).bookings_books).trans (State.quotesDue_books _ s)
  refine ⟨hbooks.clock, (congrArg Loader.mem hbooks.loader).trans (hmem.trans (congrArg Loader.mem hspan.loader)), ?_, ?_, ?_⟩
  · exact hbooks.store.trans ((congrArg State.store hturn).trans hspan.store)
  · exact hbooks.plate.trans ((congrArg State.plate hturn).trans hspan.plate)
  · exact hbooks.outfeed.trans ((congrArg State.outfeed hturn).trans hspan.outfeed)

/-- A forward step whose closings leave nothing to book. -/
theorem State.stepForward_of_settled {s1 : State} (h : State.closeSpan closingLimit s c d = s1) (hline : s1.dispatch.line = [])
    (hcurrent : s1.dispatch.current = none) (hqueue : s1.queue = s.queue) : s.stepForward c new d = { s1 with
      dispatch := { s1.dispatch with clock := some new }
      label := (s1.dayTurned c new).label, loader := (s1.dayTurned c new).loader } := by
  have hturn := s1.dayTurned_eq c new
  rw [State.stepForward_eq, h]
  generalize s1.dayTurned c new = s2 at hturn ⊢
  have hsettled : (s2.setDispatch { s2.dispatch with clock := some new }).bookings =
      s2.setDispatch { s2.dispatch with clock := some new } := by
    refine State.bookings_of_settled (fun _ => ?_) fun b hb => ?_
    · exact (congrArg (fun t => t.dispatch.line) hturn).trans hline
    · exact absurd ((congrArg (fun t => t.dispatch.current) hturn).trans hcurrent |>.symm.trans hb) (by simp)
  have hsame : s2.queue = s.queue := (congrArg State.queue hturn).trans hqueue
  rw [hsettled, State.quotesDue_of_queue (by exact hsame), hturn]
  rfl

end Forward

/-! ### The command -/

section Command
variable {s : State} {day : BitVec 16} {ms : BitVec 32}

theorem exec_setClock_of_outside (hs : s.Ready) (h : day.toNat < 1 ∨ 366 < day.toNat ∨ 86400000 ≤ ms.toNat) :
    exec (.setClock day ms) s = s.answers 9 .range [] := by
  have hrange : ¬(within 1 Config.yearDays day.toNat && decide (ms.toNat < Config.dayMs)) = true := by
    rw [Bool.and_eq_true, within_iff, decide_eq_true_iff]
    simp only [Config.yearDays, Config.dayMs]
    omega
  rw [show exec (.setClock day ms) s = .next (s.command 9 (fun s => s.setClock day.toNat ms.toNat)) from rfl,
    State.command_of_ready hs, State.setClock, if_neg hrange]
  rfl

theorem exec_setClock_of_within (hs : s.Ready) (hlow : 1 ≤ day.toNat) (hhigh : day.toNat ≤ 366) (hms : ms.toNat < 86400000)
    {taken : State × Bool} (h : s.setClockTo ⟨day.toNat, ms.toNat⟩ = taken) :
    exec (.setClock day ms) s = .next (taken.1.respond 9 (if taken.2 then .ok else .range) []) := by
  have hrange : (within 1 Config.yearDays day.toNat && decide (ms.toNat < Config.dayMs)) = true := by
    rw [Bool.and_eq_true, within_iff, decide_eq_true_iff]
    exact ⟨⟨hlow, hhigh⟩, hms⟩
  rw [show exec (.setClock day ms) s = .next (s.command 9 (fun s => s.setClock day.toNat ms.toNat)) from rfl,
    State.command_of_ready hs, State.setClock, if_pos hrange, h]

theorem State.setClockTo_of_set {c new : ClockTime} (h : s.dispatch.clock = some c) : s.setClockTo new =
    if forwardFrom c.instant new.instant = 0 then (s, true)
    else if forwardFrom c.instant new.instant < 15811200000 then
      (s.stepForward c new (forwardFrom c.instant new.instant), true)
    else if 31622400000 - forwardFrom c.instant new.instant ≤ 60000 ∧ new.day = c.day then
      (s.setDispatch { s.dispatch with clock := some new }, true)
    else (s, false) := by
  rw [State.setClockTo, h]
  rfl

end Command

/-- Settles O18: by the boundaries of R88, and by the closings of R89. -/
theorem setClockSteps : Obligations.SetClockSteps := by
  intro s day ms hs new refused moved
  refine ⟨exec_setClock_of_outside hs, ?_⟩
  intro hlow hhigh hms c hclock d
  have htaken : ∀ {taken : State × Bool}, s.setClockTo ⟨day.toNat, ms.toNat⟩ = taken →
      exec (.setClock day ms) s = .next (taken.1.respond 9 (if taken.2 then .ok else .range) []) :=
    exec_setClock_of_within hs hlow hhigh hms
  have hset := State.setClockTo_of_set (s := s) (new := ⟨day.toNat, ms.toNat⟩) hclock
  change s.setClockTo _ = if d = 0 then _ else if d < _ then (s.stepForward c _ d, true) else
    if 31622400000 - d ≤ 60000 ∧ day.toNat = c.day then _ else _ at hset
  clear_value d
  have hforward : 0 < d → d < 15811200000 → exec (.setClock day ms) s =
      .next ((s.stepForward c ⟨day.toNat, ms.toNat⟩ d).respond 9 .ok []) := fun hpos hlt => by
    rw [if_neg (Nat.ne_of_gt hpos), if_pos hlt] at hset
    exact htaken hset
  refine ⟨fun hzero => ?_, fun hfar hback hday => ?_, fun hfar hback => ?_, fun hpos hlt => ?_, ?_⟩
  · rw [if_pos hzero] at hset
    exact htaken hset
  · rw [if_neg (by omega), if_neg (by omega), if_pos ⟨hback, hday⟩] at hset
    exact htaken hset
  · rw [if_neg (by omega), if_neg (by omega), if_neg (by omega)] at hset
    exact htaken hset
  · obtain ⟨hnew, hmem, hstore, hplate, houtfeed⟩ := s.stepForward_frame c ⟨day.toNat, ms.toNat⟩ d
    exact ⟨_, hforward hpos hlt, hnew, rfl, hmem, hstore, hplate, houtfeed⟩
  · intro hpos hlt hline hcurrent hask hgives hrecords ahead beyond
    have hunbooked : s.Unbooked := ⟨hline, hcurrent, hask, hgives, hrecords⟩
    have hmoved : ∀ rings expired bus, State.closeSpan closingLimit s c d = { s with
        dispatch := { s.dispatch with rings := rings, expired := expired }, bus := bus } → moved rings expired bus := by
      intro rings expired bus hspan
      refine ⟨_, (hforward hpos hlt).trans (congrArg (fun t => Host.Outcome.next (State.respond t 9 .ok []))
        (State.stepForward_of_settled hspan hline hcurrent rfl)), fun hnone => ?_, fun c' hc' hday => ?_,
        fun c' hc' hday hsome => ?_, rfl⟩
      · unfold State.dayTurned
        split
        · exact ⟨rfl, rfl⟩
        · rw [State.labelDay_of_unresolved (by exact hnone)]
          exact ⟨rfl, rfl⟩
      · obtain rfl : c = c' := Option.some.inj (hclock.symm.trans hc')
        rw [State.dayTurned, if_pos hday]
        exact ⟨rfl, rfl⟩
      · obtain rfl : c = c' := Option.some.inj (hclock.symm.trans hc')
        rw [State.dayTurned, if_neg hday, State.labelDay_of_resolved (by exact hsome)]
        exact ⟨rfl, rfl⟩
    clear_value moved
    refine ⟨fun hbeyond => hmoved _ _ _ ?_, ?_⟩
    · exact State.closeSpan_of_none _ (nextClosing_of_beyond fun r hr => Ring.dueHead_eq_none_iff.2 (hbeyond r hr))
    · intro before ring after e1 e2 e3 g hrings hentries hg hothers hdue next closed
      have hbeyond : ∀ r ∈ before ++ after, r.route ≠ ring.route ∧ r.dueHead c d = none := fun r hr =>
        ⟨(hothers r hr).1, Ring.dueHead_eq_none_iff.2 (hothers r hr).2⟩
      obtain ⟨n, hlimit⟩ : ∃ n, closingLimit = n + 2 := ⟨11838, rfl⟩
      have hfirst := hunbooked.closeSpan hrings hbeyond hg hentries hdue (n + 1)
      rw [hlimit] at hmoved
      refine ⟨fun hnext => hmoved _ _ _ ?_, fun hnext hlast => hmoved _ _ _ ?_⟩
      · rw [hfirst, State.closeSpan_of_none _ (nextClosing_of_beyond
          (beyond_of_head (fun r hr => (hbeyond r hr).2) hnext))]
        rfl
      · have hsecond := (hunbooked.closed (before ++ { ring with entries := [e2, e3, ring.nextEntry g e3] } :: after)
          e1.held).closeSpan rfl hbeyond hg rfl hnext n
        rw [hfirst, hsecond, State.closed_closed, State.closeSpan_of_none _ (nextClosing_of_beyond
          (beyond_of_head (fun r hr => (hbeyond r hr).2) hlast))]
        rfl

end Sys2Proof.Machine
end


section
/-! IMAGE_STORE_COMPLETE (R32 to R34): the edition change that a matching read-back makes. -/

namespace Sys2Proof.Machine

section Edition
variable {s : State}

/-- The peer entries with their statuses for an edition (R34). -/
def PeerTable.recomputed (t : PeerTable) (own : Nat) : List Peer := t.peers.map (Peer.recompute own)

theorem State.recomputePeers_eq (s : State) : s.recomputePeers = { s with
    peers := { s.peers with
      peers := s.peers.recomputed s.store.edition
      changed := s.peers.changed || decide (s.peers.recomputed s.store.edition ≠ s.peers.peers) }
    link := if s.peers.recomputed s.store.edition = s.peers.peers then s.link else
      s.risen s.peers.changed .peerChange s.bus.state } := by
  unfold State.recomputePeers
  by_cases h : s.peers.recomputed s.store.edition = s.peers.peers
  · have hchanged : (s.peers.changed || decide (s.peers.recomputed s.store.edition ≠ s.peers.peers)) = s.peers.changed := by
      simp [h]
    rw [hchanged, if_pos h]
    exact if_pos h
  · have hchanged : (s.peers.changed || decide (s.peers.recomputed s.store.edition ≠ s.peers.peers)) = true := by simp [h]
    rw [hchanged, if_neg h]
    exact (if_neg h).trans (State.raisePeer_eq _)

theorem DispatchTable.rebuild_of_unset {d : DispatchTable} (h : d.clock = none) (t : ImageStore) : d.rebuild t = d := by
  rw [DispatchTable.rebuild, h]

theorem DispatchTable.rebuild_of_set {d : DispatchTable} {c : ClockTime} (h : d.clock = some c) (t : ImageStore) :
    d.rebuild t = { d with
      expired := satAdd 65535 d.expired ((d.rings.flatMap Ring.entries).map Entry.held).sum
      rings := fillRings t c.day c.ms } := by
  rw [DispatchTable.rebuild, h]

theorem DispatchTable.rebuild_clock (d : DispatchTable) (t : ImageStore) : (d.rebuild t).clock = d.clock := by
  unfold DispatchTable.rebuild
  split <;> rfl

/-- The hall bus after an edition change: with the clock set every unbegun GIVE is withdrawn (R33). -/
def State.editionBus (s : State) : BusController :=
  if s.dispatch.clock = none then s.bus else s.bus.withoutGives (fun g => g.live) s.timer.ms

theorem State.editionBus_state (s : State) : s.editionBus.state = s.bus.state := by
  unfold State.editionBus
  split <;> rfl

theorem State.editionChange_eq (s : State) (g : Image) : s.editionChange g = { s with
    store := { s.store with image := some g }
    dispatch := s.dispatch.rebuild { s.store with image := some g }
    bus := s.editionBus
    peers := { s.peers with
      peers := s.peers.recomputed (imageEdition g)
      changed := s.peers.changed || decide (s.peers.recomputed (imageEdition g) ≠ s.peers.peers) }
    link := if s.peers.recomputed (imageEdition g) = s.peers.peers then s.link else
      s.risen s.peers.changed .peerChange s.bus.state } := by
  have hbus : (match (s.setStore { s.store with image := some g }).dispatch.clock with
      | none => s.setStore { s.store with image := some g }
      | some _ => (s.setStore { s.store with image := some g }).putBus (s.bus.withdrawGives (fun g => g.live))) =
      { s with store := { s.store with image := some g }, bus := s.editionBus } := by
    cases hc : s.dispatch.clock with
    | none =>
      rw [State.editionBus, if_pos hc, State.setStore_dispatch, hc]
      rfl
    | some c =>
      rw [State.editionBus, if_neg (by simp [hc]), State.setStore_dispatch, hc]
      exact congrArg (fun b => ({ s with store := { s.store with image := some g }, bus := b } : State))
        (BusController.withWait_withdrawGives _ _ _)
  have hsteps : s.editionChange g = State.recomputePeers { s with
      store := { s.store with image := some g }
      bus := s.editionBus
      dispatch := s.dispatch.rebuild { s.store with image := some g } } := by
    rw [State.editionChange]
    exact congrArg (fun t => State.recomputePeers (State.setDispatch t (t.dispatch.rebuild t.store))) hbus
  rw [hsteps, State.recomputePeers_eq]
  simp only [State.risen, DispatchTable.rebuild_clock, s.editionBus_state]
  rfl

/-- The GIVEs that an edition change leaves have begun or are withdrawn already, and none keeps its reservation. -/
theorem BusController.withoutGives_live (b : BusController) (now : Nat) :
    (∀ g ∈ (b.withoutGives (fun g => g.live) now).gives, g.live = false) ∧
    (b.withoutGives (fun g => g.live) now).gives.map TxGive.giveNo =
      (b.gives.filter (fun g => g.begun || !g.live)).map TxGive.giveNo := by
  constructor
  · intro g hg
    obtain ⟨g', -, rfl⟩ := List.mem_map.1 hg
    exact Bool.and_not_self g'.live
  · exact List.map_map

end Edition

/-- Settles O22: the failed read-back and the edition change of a matching one. -/
theorem imageStoreEnds : Obligations.ImageStoreEnds := by
  intro s hs hmem
  have hexec : ∀ m, exec (.imageStoreComplete m) s =
      .next (if s.store.staging = .storing then s.imageStored m else s) := fun m =>
    congrArg Host.Outcome.next (State.event_of_powered hs)
  refine ⟨fun hidle m => by rw [hexec, if_neg hidle], fun hstoring => ⟨?_, ?_⟩⟩
  · refine ⟨_, by rw [hexec, if_pos hstoring], fun a ha => ?_, rfl⟩
    exact Memory.read_writeMixed_outside _ _ _ _ _ (.inr (by omega))
  · let stored : ImageStore := { s.store with
      mem := s.store.mem.writeBytes 0 s.store.staged, image := some s.store.staged, staging := .idle, staged := [],
      fault := none }
    let t : State := { s with
      store := stored
      dispatch := s.dispatch.rebuild stored
      bus := s.editionBus
      peers := { s.peers with
        peers := s.peers.recomputed (imageEdition s.store.staged)
        changed := s.peers.changed || decide (s.peers.recomputed (imageEdition s.store.staged) ≠ s.peers.peers) }
      link := { (if s.peers.recomputed (imageEdition s.store.staged) = s.peers.peers then s.link else
          s.risen s.peers.changed .peerChange s.bus.state) with
        held := none, response := some ⟨17, .ok, be16 (imageEdition s.store.staged)⟩ } }
    have ht : exec (.imageStoreComplete true) s = .next t := by
      rw [hexec, if_pos hstoring, State.imageStored]
      dsimp only
      rw [if_pos rfl, State.editionChange_eq]
      rfl
    refine ⟨t, ht, rfl, fun i b hb => ?_, fun a ha => ?_, fun hc => ⟨?_, ?_⟩, fun c hc => ?_, rfl, rfl, ?_, rfl, rfl⟩
    · have h := Memory.read_writeBytes_inside 0 i s.store.staged b hmem.2 hb
      rwa [Nat.zero_add] at h
    · exact Memory.read_writeBytes_outside _ _ _ _ (.inr (by omega))
    · exact DispatchTable.rebuild_of_unset hc _
    · exact if_pos hc
    · have hbus : t.bus = s.bus.withoutGives (fun g => g.live) s.timer.ms := if_neg (by simp [hc])
      obtain ⟨hlive, hnos⟩ := s.bus.withoutGives_live s.timer.ms
      rw [hbus]
      exact ⟨DispatchTable.rebuild_of_set hc _, hlive, hnos, rfl⟩
    · simp [t]

end Sys2Proof.Machine
end


section
/-! The close of a round (R4 to R15): the values of a round, its stages and the two hand-overs. -/

namespace Sys2Proof.Machine

/-! ### The stages of a close -/

section Stages
variable {s : State} {p : Plate} {l : Loader}

theorem State.setSensorFault_eq (s : State) (v : Bool) : s.setSensorFault v = { s with
    plate := { s.plate with sensorFault := v }
    link := if v then s.risen s.plate.sensorFault .sensorFault s.bus.state else s.link } := by
  cases v with
  | false => rfl
  | true =>
    cases h : s.plate.sensorFault
    · simp only [State.setSensorFault, h]
      rfl
    · simp only [State.setSensorFault, h]
      rfl

theorem Plate.capture_of_zero {z : Int} (h : p.zero = some z) : p.capture l = p := by rw [Plate.capture, h]

theorem Plate.capture_sensorFault (p : Plate) (l : Loader) (v : Bool) :
    ({ p with sensorFault := v } : Plate).capture l = { p.capture l with sensorFault := v } := by
  by_cases hz : p.zero = none
  · have hz' : ({ p with sensorFault := v } : Plate).zero = none := hz
    have hsum : ({ p with sensorFault := v } : Plate).sum l = p.sum l := rfl
    rw [Plate.capture, hsum, hz', Plate.capture, hz]
    cases p.sum l with
    | none => rfl
    | some x =>
      dsimp only
      repeat' split
      all_goals rfl
  · obtain ⟨z, hz⟩ := Option.ne_none_iff_exists'.1 hz
    have hz' : ({ p with sensorFault := v } : Plate).zero = some z := hz
    rw [Plate.capture_of_zero hz', Plate.capture_of_zero hz]

theorem Plate.closeStages_sensorFault (p : Plate) (l : Loader) (v : Bool) :
    ({ p with sensorFault := v } : Plate).closeStages l = { p.closeStages l with sensorFault := v } := by
  have hsettle : ∀ (q : Plate) (w : Weight),
      ({ q with sensorFault := v } : Plate).settleStage l w = { q.settleStage l w with sensorFault := v } := by
    intro q w
    cases w with
    | value w =>
      by_cases h : q.moves l w = true
      · have hv : ({ q with sensorFault := v } : Plate).moves l w = true := h
        rw [Plate.settleStage, Plate.settleStage, if_pos hv, if_pos h]
        rfl
      · have hv : ¬({ q with sensorFault := v } : Plate).moves l w = true := h
        rw [Plate.settleStage, Plate.settleStage, if_neg hv, if_neg h]
    | invalid => rfl
    | none => rfl
  have hclear : ∀ (q : Plate) (w : Weight),
      ({ q with sensorFault := v } : Plate).clearStage l w = { q.clearStage l w with sensorFault := v } := by
    intro q w
    cases w with
    | value w =>
      by_cases h : w < l.presenceThreshold
      · rw [Plate.clearStage, Plate.clearStage, if_pos h, if_pos h]
      · rw [Plate.clearStage, Plate.clearStage, if_neg h, if_neg h]
    | invalid => rfl
    | none => rfl
  have hweight : ({ p with sensorFault := v } : Plate).roundWeight l = p.roundWeight l := rfl
  rw [Plate.closeStages, Plate.closeStages]
  dsimp only
  rw [hweight, p.capture_sensorFault, hsettle, hclear]
  rfl

/-- The plate-clear event of a round, over the records (R13, R67). -/
theorem State.clearEvent_eq (s : State) (was : Plate) : s.clearEvent was = { s with
    queue := { s.queue with
      parcels := s.queue.parcels.map (fun p =>
        if decide (was.clear < s.plate.clear ∧ s.plate.clear = s.loader.settleRounds) && p.cleared == some false then
          { p with cleared := some true } else p) } } := by
  unfold State.clearEvent
  split
  next h =>
    rw [decide_eq_true h]
    simp only [Bool.true_and, beq_iff_eq]
    rfl
  next h =>
    rw [decide_eq_false h]
    simp

theorem State.settleEvent_of_absent (h : ∀ p ∈ s.queue.parcels, p.state ≠ .waitPlate) : s.settleEvent = s := by
  have hnone : s.queue.inState .waitPlate = none := by
    simpa only [ParcelQueue.inState, List.find?_eq_none, beq_iff_eq] using h
  rw [State.settleEvent, hnone]

theorem State.measureEvent_of_idle {was : Plate} (h : was.meas = none ∨ ∀ p ∈ s.queue.parcels, p.state ≠ .measuring) :
    s.measureEvent was = s := by
  unfold State.measureEvent
  split
  next m p hm hp =>
    obtain h | h := h
    · exact absurd (hm.symm.trans h) (by simp)
    · have hmem := List.mem_of_find?_eq_some hp
      have hstate := List.find?_some (p := fun q : Parcel => q.state == .measuring) hp
      exact absurd (eq_of_beq hstate) (h p hmem)
  next => rfl

theorem State.Holds.settleEvent_of_present {older younger : List Parcel} {p : Parcel} (h : s.Holds older p younger)
    (hp : p.state = .waitPlate) (ho : ∀ q ∈ older, q.state ≠ .waitPlate) (hsettled : s.loader.settleRounds ≤ s.plate.quiet)
    (hweight : s.loader.presenceThreshold ≤ s.plate.settledWeight s.loader) : s.settleEvent = { s with
      plate := { s.plate with meas := some .start }
      queue := { s.queue with
        parcels := older ++ { p with
          state := .measuring
          weight := some (gramsOf (s.plate.settledWeight s.loader), s.plate.settledWeight s.loader)
          cleared := some false, plateDue := none } :: younger } } := by
  have hpresent : s.plate.present s.loader = true := by simp [Plate.present, Plate.settled, hsettled, hweight]
  rw [State.settleEvent, h.inState hp ho]
  dsimp only
  rw [if_pos hpresent, State.settleHandOver, State.updateParcel, h.update]
  rfl

theorem State.Holds.settleEvent_of_unsettled {older younger : List Parcel} {p : Parcel} (h : s.Holds older p younger)
    (hp : p.state = .waitPlate) (ho : ∀ q ∈ older, q.state ≠ .waitPlate)
    (hw : s.plate.quiet < s.loader.settleRounds ∨ s.plate.settledWeight s.loader < s.loader.presenceThreshold) :
    s.settleEvent = s := by
  rw [State.settleEvent, h.inState hp ho]
  refine if_neg (c := s.plate.present s.loader = true) ?_
  simp only [Plate.present, Plate.settled, Bool.and_eq_true, decide_eq_true_eq]
  omega

/-- A round makes the weight of a plate move its band (R9). -/
def Plate.movedBy (p : Plate) (l : Loader) : Bool :=
  match p.roundWeight l with
  | .value w => p.moves l w
  | .invalid => false
  | .none => false

theorem State.Holds.measureEvent {older younger : List Parcel} {p : Parcel} {was : Plate} {m : Measurement}
    (h : s.Holds older p younger) (hp : p.state = .measuring) (ho : ∀ q ∈ older, q.state ≠ .measuring)
    (hm : was.meas = some m) : s.measureEvent was =
      if (m.add (was.roundReadings s.loader (was.movedBy s.loader))).rounds < 8 then
        s.setPlate { s.plate with meas := some (m.add (was.roundReadings s.loader (was.movedBy s.loader))) }
      else ((s.setPlate { s.plate with meas := none }).measurementHandOver p
        (m.add (was.roundReadings s.loader (was.movedBy s.loader))).dims).meetVoid p.tag := by
  rw [State.measureEvent, hm, h.inState hp ho]
  rfl

/-- What a measurement hand-over leaves: the pending inputs, the loader, the plate and a held command. -/
theorem State.measurementHandOver_frame (s : State) (p : Parcel) (d : Dims) :
    (s.measurementHandOver p d).pending = s.pending ∧ (s.measurementHandOver p d).loader = s.loader ∧
      (s.measurementHandOver p d).plate = s.plate ∧ (s.measurementHandOver p d).link.held = s.link.held := by
  unfold State.measurementHandOver
  dsimp only
  split
  next reason _ =>
    obtain ⟨-, h⟩ | ⟨-, h⟩ := State.endParcel_cases ((s.updateParcel p.tag (fun _ => { p with
        state := .rating, dims := some d, rating := (rate (s.store.image.getD []) (p.ratingInput d)).rating })).setSummary
      (s.summary.after (rate (s.store.image.getD []) (p.ratingInput d)))) { p with
        state := .rating, dims := some d, rating := (rate (s.store.image.getD []) (p.ratingInput d)).rating } .rejected
      (some reason)
    all_goals
      rw [h]
      exact ⟨rfl, rfl, rfl, rfl⟩
  next =>
    have hbooks : ∀ t was : State, BooksFrame t (t.serveLine.quotesDue was) := fun t was =>
      (State.serveFor_books _ t).trans (State.quotesDue_books _ was)
    exact ⟨(hbooks _ _).pending, (hbooks _ _).loader, (hbooks _ _).plate, (hbooks _ _).held⟩

theorem Plate.closeStages_stepDue (p : Plate) (l : Loader) : (p.closeStages l).stepDue = p.stepDue := by
  have hcapture : (p.capture l).stepDue = p.stepDue := by
    unfold Plate.capture
    repeat' split
    all_goals rfl
  have hsettle : ∀ (q : Plate) (w : Weight), (q.settleStage l w).stepDue = q.stepDue := by
    intro q w
    unfold Plate.settleStage
    repeat' split
    all_goals rfl
  have hclear : ∀ (q : Plate) (w : Weight), (q.clearStage l w).stepDue = q.stepDue := by
    intro q w
    unfold Plate.clearStage
    repeat' split
    all_goals rfl
  exact (hclear _ _).trans ((hsettle _ _).trans hcapture)

/-- The state once the stages of a round have closed it, before its hand-overs (R4 to R13). -/
def State.roundClosed (s : State) (was : Plate) : State :=
  { s with
    plate := { was.closeStages s.loader with sensorFault := !was.refPasses s.loader || was.anyFault s.loader }
    queue := { s.queue with
      parcels := s.queue.parcels.map (fun p =>
        if decide (was.clear < (was.closeStages s.loader).clear ∧
            (was.closeStages s.loader).clear = s.loader.settleRounds) && p.cleared == some false then
          { p with cleared := some true } else p) }
    link := if !was.refPasses s.loader || was.anyFault s.loader then
      s.risen was.sensorFault .sensorFault s.bus.state else s.link }

theorem State.closeRound_eq (s : State) (was : Plate) :
    (s.setPlate was).closeRound = ((s.roundClosed was).settleEvent).measureEvent was := by
  have hstages : ((s.setPlate was).setSensorFault (!was.refPasses s.loader || was.anyFault s.loader)).setPlate
      (((s.setPlate was).setSensorFault (!was.refPasses s.loader || was.anyFault s.loader)).plate.closeStages s.loader) =
      { s with
        plate := { was.closeStages s.loader with sensorFault := !was.refPasses s.loader || was.anyFault s.loader }
        link := if !was.refPasses s.loader || was.anyFault s.loader then
          s.risen was.sensorFault .sensorFault s.bus.state else s.link } := by
    rw [State.setSensorFault_eq]
    dsimp only [State.setPlate]
    rw [was.closeStages_sensorFault]
  have hclear := State.clearEvent_eq { s with
    plate := { was.closeStages s.loader with sensorFault := !was.refPasses s.loader || was.anyFault s.loader }
    link := if !was.refPasses s.loader || was.anyFault s.loader then
      s.risen was.sensorFault .sensorFault s.bus.state else s.link } was
  rw [← hstages] at hclear
  exact congrArg (fun t : State => t.settleEvent.measureEvent was) (hclear.trans (by rw [hstages]; rfl))

/-- The scan step that closes a round and begins entry 0 (R3). -/
theorem exec_scanStep_last {code : BitVec 16} (hs : s.powered = true) (hrun : s.plate.running = true)
    (hdue : s.plate.stepDue ≤ s.timer.ms * 1000 + s.timer.us) (hcur : s.plate.cur = 7) {t : State}
    (ht : ((s.roundClosed (s.plate.endConversion s.loader code)).settleEvent).measureEvent
      (s.plate.endConversion s.loader code) = t) (hl : t.loader = s.loader) (hstep : t.plate.stepDue = s.plate.stepDue) :
    exec (.scanStep code) s = .next { t with
      plate := { t.plate with
        cur := 0, converting := (s.loader.scanned 0).isSome, stepDue := s.plate.stepDue + s.loader.scanStepUs } } := by
  refine next_event hs ((if_pos (State.scanDue_iff.2 ⟨hrun, hdue⟩)).trans ?_)
  have hnext : (if s.plate.cur < 7 then s.plate.cur + 1 else 0) = 0 := if_neg (by omega)
  rw [State.scan]
  dsimp only
  rw [hnext, if_pos rfl, State.closeRound_eq, ht]
  have hbegin : t.plate.beginEntry t.loader 0 (t.plate.stepDue + t.loader.scanStepUs) = { t.plate with
      cur := 0, converting := (s.loader.scanned 0).isSome, stepDue := s.plate.stepDue + s.loader.scanStepUs } := by
    rw [hl, hstep]
    rfl
  exact congrArg t.setPlate hbegin

end Stages

/-- What the scan step that closes a round does to the hand-overs (R12, R15, R16). -/
theorem scanStep_handOvers (s : State) (code : BitVec 16) (hs : s.powered = true) (hrun : s.plate.running = true)
    (hdue : s.plate.stepDue ≤ s.timer.ms * 1000 + s.timer.us) (hcur : s.plate.cur = 7) (was : Plate)
    (hwas : s.plate.endConversion s.loader code = was) :
    let u := s.roundClosed was
    let mark := fun (p : Parcel) => if decide (was.clear < u.plate.clear ∧ u.plate.clear = s.loader.settleRounds) &&
      p.cleared == some false then { p with cleared := some true } else p
    let begun := fun (p : Plate) => { p with
      cur := 0, converting := (s.loader.scanned 0).isSome, stepDue := s.plate.stepDue + s.loader.scanStepUs }
    ((∀ p ∈ s.queue.parcels, p.state ≠ .waitPlate) →
      s.plate.meas = none ∨ (∀ p ∈ s.queue.parcels, p.state ≠ .measuring) →
      exec (.scanStep code) s = .next { u with plate := begun u.plate }) ∧
    (∀ older p younger, s.plate.meas = none → s.Holds older p younger → p.state = .waitPlate →
      (∀ q ∈ older, q.state ≠ .waitPlate) →
      (u.plate.quiet < s.loader.settleRounds ∨ u.plate.settledWeight s.loader < s.loader.presenceThreshold →
        exec (.scanStep code) s = .next { u with plate := begun u.plate }) ∧
      (s.loader.settleRounds ≤ u.plate.quiet → s.loader.presenceThreshold ≤ u.plate.settledWeight s.loader →
        exec (.scanStep code) s = .next { u with
          plate := begun { u.plate with meas := some .start }
          queue := { s.queue with
            parcels := older.map mark ++ { p with
              state := .measuring
              weight := some (gramsOf (u.plate.settledWeight s.loader), u.plate.settledWeight s.loader)
              cleared := some false, plateDue := none } :: younger.map mark } })) ∧
    (∀ older p younger m, s.plate.meas = some m → s.Holds older p younger → p.state = .measuring →
      (∀ q ∈ older, q.state ≠ .measuring) → (∀ q ∈ s.queue.parcels, q.state ≠ .waitPlate) →
      let m' := m.add (was.roundReadings s.loader (was.movedBy s.loader))
      (m'.rounds < 8 → exec (.scanStep code) s = .next { u with plate := begun { u.plate with meas := some m' } }) ∧
      (8 ≤ m'.rounds →
        let handed := State.measurementHandOver { u with plate := { u.plate with meas := none } } (mark p) m'.dims
        exec (.scanStep code) s = .next { handed with
          plate := begun { u.plate with meas := none }
          link := if s.pending.find? (fun c => (encodeMessage c).isSome) = some (.void (BitVec.ofNat 8 p.tag)) ∧
              s.link.held = none then
              { handed.link with metVoid := some p.tag }
            else handed.link })) := by
  intro u mark begun
  have hlast : ∀ t : State, (u.settleEvent).measureEvent was = t → t.loader = s.loader →
      t.plate.stepDue = s.plate.stepDue → exec (.scanStep code) s = .next { t with plate := begun t.plate } := fun t ht =>
    exec_scanStep_last hs hrun hdue hcur (by rw [hwas]; exact ht)
  have hmeas : was.meas = s.plate.meas := by
    rw [← hwas, Plate.endConversion_eq]
  have hstep : u.plate.stepDue = s.plate.stepDue :=
    (was.closeStages_stepDue s.loader).trans (by rw [← hwas, Plate.endConversion_eq])
  have hstate : ∀ p, (mark p).state = p.state := fun p => by
    simp only [mark]
    split <;> rfl
  have htag : ∀ p, (mark p).tag = p.tag := fun p => by
    simp only [mark]
    split <;> rfl
  have hqueue : u.queue = { s.queue with parcels := s.queue.parcels.map mark } := rfl
  have hheld : ∀ {older p younger}, s.Holds older p younger → u.Holds (older.map mark) (mark p) (younger.map mark) := by
    intro older p younger ⟨hps, htags⟩
    refine ⟨by rw [hqueue, hps, List.map_append, List.map_cons], fun q hq => ?_⟩
    rw [← List.map_append] at hq
    obtain ⟨q', hq', rfl⟩ := List.mem_map.1 hq
    rw [htag, htag]
    exact htags q' hq'
  have hothers : ∀ {ps : List Parcel} {st : PState}, (∀ p ∈ ps, p.state ≠ st) → ∀ p ∈ ps.map mark, p.state ≠ st := by
    intro ps st h p hp
    obtain ⟨q, hq, rfl⟩ := List.mem_map.1 hp
    rw [hstate]
    exact h q hq
  refine ⟨fun hwait hidle => ?_, fun older p younger hnone hp hst hold => ⟨fun hw => ?_, fun hsettled hweight => ?_⟩,
    fun older p younger m hm hp hst hold hwait => ?_⟩
  · refine hlast u ?_ rfl hstep
    rw [State.settleEvent_of_absent (hothers hwait), State.measureEvent_of_idle]
    exact hidle.imp hmeas.trans hothers
  · refine hlast u ?_ rfl hstep
    rw [(hheld hp).settleEvent_of_unsettled ((hstate p).trans hst) (hothers hold) hw,
      State.measureEvent_of_idle (.inl (hmeas.trans hnone))]
  · have h := (hheld hp).settleEvent_of_present ((hstate p).trans hst) (hothers hold) hsettled hweight
    have hmark : ∀ w, { mark p with state := .measuring, weight := w, cleared := some false, plateDue := none } =
        { p with state := .measuring, weight := w, cleared := some false, plateDue := none } := fun w => by
      simp only [mark]
      split <;> rfl
    rw [hmark] at h
    have hmeasure := (State.measureEvent_of_idle (s := u.settleEvent) (.inl (hmeas.trans hnone)))
    refine hlast { u with
      plate := { u.plate with meas := some .start }
      queue := { s.queue with
        parcels := older.map mark ++ { p with
          state := .measuring
          weight := some (gramsOf (u.plate.settledWeight s.loader), u.plate.settledWeight s.loader)
          cleared := some false, plateDue := none } :: younger.map mark } } (hmeasure.trans h) rfl hstep
  · intro m'
    have h := (hheld hp).measureEvent (was := was) ((hstate p).trans hst) (hothers hold) (hmeas.trans hm)
    rw [State.settleEvent_of_absent (hothers hwait)] at hlast
    refine ⟨fun hlt => ?_, fun hge => ?_⟩
    · rw [if_pos (by exact hlt)] at h
      exact hlast { u with plate := { u.plate with meas := some m' } } h rfl hstep
    · intro handed
      rw [if_neg (by exact Nat.not_lt.2 hge), State.meetVoid_eq, htag] at h
      obtain ⟨hpending, hloader, hplate, hhold⟩ :=
        State.measurementHandOver_frame { u with plate := { u.plate with meas := none } } (mark p) m'.dims
      have hlink : u.link.held = s.link.held := by
        obtain ⟨k, hk, hsensor⟩ := State.setSensorFault_frame (s.setPlate was)
          (!was.refPasses s.loader || was.anyFault s.loader)
        rw [State.setSensorFault_eq] at hsensor
        exact (congrArg (fun t => t.link.held) hsensor).trans hk.held
      change handed.pending = s.pending at hpending
      change handed.link.held = u.link.held at hhold
      have hplate' : begun handed.plate = begun { u.plate with meas := none } := congrArg begun hplate
      refine (hlast _ h hloader ((congrArg Plate.stepDue hplate).trans hstep)).trans ?_
      change Host.Outcome.next { handed with
        plate := begun handed.plate
        link := { handed.link with
          metVoid := if handed.pending.find? (fun c => (encodeMessage c).isSome) = some (Instr.void (BitVec.ofNat 8 p.tag)) ∧
            handed.link.held = none then some p.tag else handed.link.metVoid } } = _
      rw [hpending, hhold, hlink, hplate']
      split <;> rfl

/-! ### The values of a round -/

section Values
variable {p : Plate} {l : Loader} {c : Channel}

theorem Plate.refPasses_iff : p.refPasses l = true ↔ ∃ r, p.result l .ref = some r ∧ r.fault = false ∧
    (l.refLo : Int) ≤ r.code ∧ r.code ≤ (l.refHi : Int) := by
  unfold Plate.refPasses
  cases p.result l .ref with
  | none => simp
  | some r => simp [and_assoc]

theorem Plate.anyFault_iff : p.anyFault l = true ↔
    ∃ e, e < 8 ∧ l.scanned e ≠ none ∧ ∀ r, p.results.getD e none = some r → r.fault = true := by
  have hfault : ∀ x : Option ScanResult, (match x with | some r => r.fault | none => true) = true ↔
      ∀ r, x = some r → r.fault = true := fun x => by cases x <;> simp
  simp only [Plate.anyFault, List.any_eq_true, List.mem_range, Bool.and_eq_true, Option.isSome_iff_ne_none]
  exact exists_congr fun e => and_congr_right fun _ => and_congr_right fun _ => hfault _

theorem Plate.code_eq_some_iff {v : Int} : p.code l c = some v ↔
    p.refPasses l = true ∧ ∃ r, p.result l c = some r ∧ r.fault = false ∧ r.code = v := by
  unfold Plate.code
  cases p.refPasses l with
  | false => simp
  | true =>
    cases p.result l c with
    | none => simp
    | some r => cases hf : r.fault <;> simp [hf]

theorem Plate.code_eq_none_iff : p.code l c = none ↔
    ∀ v, ¬(p.refPasses l = true ∧ ∃ r, p.result l c = some r ∧ r.fault = false ∧ r.code = v) := by
  rw [Option.eq_none_iff_forall_ne_some]
  exact forall_congr' fun v => not_congr Plate.code_eq_some_iff

theorem Plate.sum_of_codes {a b c d : Int} (h0 : p.code l .lc0 = some a) (h1 : p.code l .lc1 = some b)
    (h2 : p.code l .lc2 = some c) (h3 : p.code l .lc3 = some d) : p.sum l = some (a + b + c + d) := by
  rw [Plate.sum, h0, h1, h2, h3]

theorem Plate.sum_of_fault (hc : c ∈ [Channel.lc0, .lc1, .lc2, .lc3]) (h : p.code l c = none) : p.sum l = none := by
  unfold Plate.sum
  split
  next h0 h1 h2 h3 =>
    simp only [List.mem_cons, List.not_mem_nil, or_false] at hc
    obtain rfl | rfl | rfl | rfl := hc
    · exact absurd (h0.symm.trans h) (by simp)
    · exact absurd (h1.symm.trans h) (by simp)
    · exact absurd (h2.symm.trans h) (by simp)
    · exact absurd (h3.symm.trans h) (by simp)
  next => rfl

theorem Plate.roundWeight_of_sum {z x : Int} (hz : p.zero = some z) (hx : p.sum l = some x) :
    p.roundWeight l = .value (roundDivInt ((x - z) * l.gain) 4096 - p.tare).toNat := by
  rw [Plate.roundWeight, hz, hx]
  rfl

theorem Plate.roundWeight_of_fault {z : Int} (hz : p.zero = some z) (hx : p.sum l = none) : p.roundWeight l = .invalid := by
  rw [Plate.roundWeight, hz, hx]

theorem roundDivInt_bounds (a : Int) {b : Nat} (hb : 1 ≤ b) :
    2 * b * roundDivInt a b ≤ 2 * a + b ∧ 2 * a + b < 2 * b * roundDivInt a b + 2 * b := by
  have hpos : (0 : Int) < 2 * b := by omega
  exact ⟨Int.mul_ediv_self_le hpos.ne', Int.lt_mul_ediv_self_add hpos⟩

theorem readingOf_eq (mount scale : Nat) (v : Int) : readingOf mount scale v =
    if (mount : Int) < roundDivInt (v * scale) 1000 then (0, true)
    else if 2000 < (mount : Int) - roundDivInt (v * scale) 1000 then (2000, true)
    else (((mount : Int) - roundDivInt (v * scale) 1000).toNat, false) := by
  have hneg : (mount : Int) - roundDivInt (v * scale) 1000 < 0 ↔ (mount : Int) < roundDivInt (v * scale) 1000 := by omega
  simp only [readingOf, hneg]

theorem Plate.reading_of_absent {i : Nat} (h : l.entryOf c = none) : p.reading l c i = some (0, false) := by
  rw [Plate.reading, h]

theorem Plate.reading_of_present {i : Nat} (h : l.entryOf c ≠ none) :
    p.reading l c i = (p.code l c).map (readingOf (l.mount i) (l.scale i)) := by
  obtain ⟨e, he⟩ := Option.ne_none_iff_exists'.1 h
  rw [Plate.reading, he]

theorem Plate.roundReadings_of_spoiled {moved : Bool} (h : p.refPasses l = false ∨ p.roundWeight l = .invalid ∨ moved = true ∨
    p.reading l .dh 0 = none ∨ p.reading l .dw 1 = none ∨ p.reading l .dl 2 = none) : p.roundReadings l moved = none := by
  unfold Plate.roundReadings
  split
  next hok =>
    simp only [Bool.and_eq_true, bne_iff_ne, Bool.not_eq_true'] at hok
    obtain ⟨⟨href, hweight⟩, hmoved⟩ := hok
    split
    next hh hw hd => simp [href, hweight, hmoved, hh, hw, hd] at h
    next => rfl
  next => rfl

theorem Plate.roundReadings_of_counted {h w d : Nat × Bool} (href : p.refPasses l = true) (hweight : p.roundWeight l ≠ .invalid)
    (hh : p.reading l .dh 0 = some h) (hw : p.reading l .dw 1 = some w) (hd : p.reading l .dl 2 = some d) :
    p.roundReadings l false = some (h, w, d) := by
  rw [Plate.roundReadings, hh, hw, hd]
  exact if_pos (by simp [href, hweight])

theorem Plate.clearStage_of_weight (w : Nat) : p.clearStage l (.value w) = { p with
    clear := if l.presenceThreshold ≤ w then 0 else if 255 ≤ p.clear then 255 else p.clear + 1 } := by
  by_cases h : w < l.presenceThreshold
  · rw [Plate.clearStage, if_pos h, if_neg (Nat.not_le.2 h), satAdd_one]
  · rw [Plate.clearStage, if_neg h, if_pos (Nat.not_lt.1 h)]

theorem Plate.settledWeight_bounds (h : 1 ≤ l.settleRounds) :
    2 * l.settleRounds * p.settledWeight l ≤
        2 * (p.history.drop (p.history.length - l.settleRounds)).sum + l.settleRounds ∧
      2 * (p.history.drop (p.history.length - l.settleRounds)).sum <
        2 * l.settleRounds * p.settledWeight l + l.settleRounds := by
  have hle := roundDiv_mul_le (p.history.drop (p.history.length - l.settleRounds)).sum l.settleRounds
  have hlt := lt_roundDiv_mul (p.history.drop (p.history.length - l.settleRounds)).sum h
  have hmul : 2 * l.settleRounds * p.settledWeight l = 2 * (p.settledWeight l * l.settleRounds) := by
    rw [Nat.mul_assoc, Nat.mul_comm l.settleRounds]
  rw [hmul]
  exact ⟨hle, hlt⟩

theorem Measurement.dims_of_valid {m : Measurement} (h : m.valid = true) :
    m.dims = .mm (roundDiv m.accH 8) (roundDiv m.accW 8) (roundDiv m.accL 8) (m.clampH || m.clampW || m.clampL) := if_pos h

theorem roundDiv_eighth (n : Nat) : 16 * roundDiv n 8 ≤ 2 * n + 8 ∧ 2 * n + 8 < 16 * roundDiv n 8 + 16 := by
  unfold roundDiv
  omega

end Values

/-- Settles O27: the hand-overs of a close, the values of a round, and a measurement's mean. -/
theorem scanStepClosesRound : Obligations.ScanStepClosesRound := by
  refine ⟨?_, ?_, ?_⟩
  · intro s code hs hrun hdue hcur l was
    exact scanStep_handOvers s code hs hrun hdue hcur was (by simp only [Plate.endConversion_eq, hcur, was, l] <;> rfl)
  · intro p l code
    have hcode : ∀ c v, code c v ↔ p.code l c = some v := fun c v => Plate.code_eq_some_iff.symm
    have hnone : ∀ c, (∀ v, ¬code c v) → p.code l c = none := fun c h => Plate.code_eq_none_iff.2 h
    clear_value code
    refine ⟨Plate.refPasses_iff, Plate.anyFault_iff, fun hz => ?_, fun z hz => ⟨fun a b c d h0 h1 h2 h3 => ?_, fun c hc h => ?_⟩,
      fun c i => ⟨Plate.reading_of_absent, fun he h => ?_, fun v he h => ?_⟩, fun moved => Plate.roundReadings_of_spoiled,
      fun h w d => Plate.roundReadings_of_counted, Plate.clearStage_of_weight, rfl, rfl, Plate.settledWeight_bounds⟩
    · rw [Plate.roundWeight, hz]
    · obtain ⟨hlow, hhigh⟩ := roundDivInt_bounds ((a + b + c + d - z) * l.gain) (b := 4096) (by omega)
      exact ⟨_, by simpa using hlow, by simpa using hhigh, Plate.roundWeight_of_sum hz (Plate.sum_of_codes ((hcode _ _).1 h0)
        ((hcode _ _).1 h1) ((hcode _ _).1 h2) ((hcode _ _).1 h3))⟩
    · exact Plate.roundWeight_of_fault hz (Plate.sum_of_fault hc (hnone c h))
    · rw [Plate.reading_of_present he, hnone c h]
      rfl
    · obtain ⟨hlow, hhigh⟩ := roundDivInt_bounds (v * l.scale i) (b := 1000) (by omega)
      refine ⟨_, by simpa using hlow, by simpa using hhigh, ?_⟩
      rw [Plate.reading_of_present he, (hcode c v).1 h, Option.map_some, readingOf_eq]
  · intro m
    refine ⟨rfl, fun _ _ _ _ _ _ => rfl, fun h => if_neg (by simp [h]), fun h => ?_⟩
    obtain ⟨hh, hh'⟩ := roundDiv_eighth m.accH
    obtain ⟨hw, hw'⟩ := roundDiv_eighth m.accW
    obtain ⟨hd, hd'⟩ := roundDiv_eighth m.accL
    exact ⟨_, _, _, Measurement.dims_of_valid h, hh, hh', hw, hw', hd, hd'⟩

end Sys2Proof.Machine
end


section
/-! What the belt leaves of the edge capture, the edges that the tracker can take (R161, R162), and the printer's events
(R181). -/

namespace Sys2Proof.Machine

/-! ### The belt and the edge capture -/

section Sensed
variable {s : State}

/-- What the edge capture and the encoder show of an outfeed: the beam, the edges held and queued, the two counts. -/
def Outfeed.sensed (o : Outfeed) : Beam × Option Edge × List Edge × Count × Micros :=
  (o.beam, o.holding, o.edges, o.encoder, o.capture)

theorem Outfeed.holding_of_sensed {o o' : Outfeed} (h : o.sensed = o'.sensed) : o.holding = o'.holding :=
  congrArg (fun x => x.2.1) h

theorem Outfeed.encoder_of_sensed {o o' : Outfeed} (h : o.sensed = o'.sensed) : o.encoder = o'.encoder :=
  congrArg (fun x => x.2.2.2.1) h

theorem State.endParcel_outfeed (s : State) (p : Parcel) (o : EndOutcome) (r : Option Reason) :
    (s.endParcel p o r).outfeed = s.outfeed := by
  obtain ⟨-, h⟩ | ⟨-, h⟩ := s.endParcel_cases p o r <;> rw [h]

theorem State.rejectOnBelt_outfeed (s : State) (p : Parcel) (r : Reason) : (s.rejectOnBelt p r).outfeed = s.outfeed :=
  (State.discardLabel_prints _ _).outfeed.trans (s.endParcel_outfeed p _ _)

theorem State.endOnBelt_outfeed (s : State) (p : Parcel) : (s.endOnBelt p).outfeed = s.outfeed := by
  unfold State.endOnBelt
  split
  · exact s.rejectOnBelt_outfeed p _
  · exact (State.discardLabel_prints _ _).outfeed.trans (s.endParcel_outfeed p _ _)

theorem Outfeed.divert_sensed (o : Outfeed) (tag : Nat) : (o.divert tag).sensed = o.sensed := by
  unfold Outfeed.divert
  split
  · rfl
  · split <;> rfl

theorem State.markAndDivert_sensed (s : State) (tag : Nat) (f : Marks → Marks) :
    (s.markAndDivert tag f).outfeed.sensed = s.outfeed.sensed := s.outfeed.divert_sensed tag

theorem Outfeed.carryClear_sensed (o : Outfeed) (tag : Nat) : (o.carryClear tag).sensed = o.sensed := by
  unfold Outfeed.carryClear
  split <;> rfl

theorem State.carryClear_sensed (s : State) (tag : Nat) : (s.carryClear tag).outfeed.sensed = s.outfeed.sensed := by
  unfold State.carryClear
  dsimp only
  split
  next p hp =>
    rw [State.endOnBelt_outfeed]
    split <;> exact s.outfeed.carryClear_sensed tag
  next => split <;> exact s.outfeed.carryClear_sensed tag

theorem State.carryApply_sensed (s : State) (tag : Nat) : (s.carryApply tag).outfeed.sensed = s.outfeed.sensed := by
  unfold State.carryApply
  split
  · split
    · exact (congrArg Outfeed.sensed (State.slotEmptied_prints _).outfeed).trans rfl
    · exact s.markAndDivert_sensed tag _
  · exact s.markAndDivert_sensed tag _

theorem State.carry_sensed (s : State) (a : Action) : (s.carry a).outfeed.sensed = s.outfeed.sensed := by
  unfold State.carry
  split
  · exact s.carryApply_sensed _
  · rfl
  · exact s.carryClear_sensed _

theorem State.makeAction_sensed (s : State) (a : Action) : (s.makeAction a).outfeed.sensed = s.outfeed.sensed := by
  unfold State.makeAction
  split
  · exact s.carry_sensed a
  · rfl

theorem State.fillClears_sensed (n : Nat) (s : State) : (State.fillClears n s).outfeed.sensed = s.outfeed.sensed := by
  induction n generalizing s with
  | zero => rfl
  | succ n ih =>
    unfold State.fillClears
    split
    · split
      · exact (ih _).trans (State.makeAction_sensed _ _)
      · rfl
    · rfl

theorem State.closeShort_sensed (s : State) (p : Parcel) : (s.closeShort p).outfeed.sensed = s.outfeed.sensed := by
  rw [State.closeShort, State.rejectOnBelt_outfeed]
  exact (apply_ite Outfeed.sensed _ _ _).trans (ite_self _)

theorem State.breakTaken_sensed (s : State) (e : Edge) : (s.breakTaken e).outfeed.sensed = s.outfeed.sensed := by
  have horphan : s.orphanBreak.outfeed.sensed = s.outfeed.sensed := by
    unfold State.orphanBreak
    split
    · rfl
    · dsimp only
      split
      · exact (State.closeShort_sensed _ _).trans rfl
      · rfl
  have hmatch : ∀ (t : State) (p : Parcel), (t.matchBreak p e).outfeed.sensed = t.outfeed.sensed := by
    intro t p
    refine (State.makeAction_sensed _ _).trans ?_
    unfold State.enterApply
    dsimp only
    repeat' split
    all_goals rfl
  have hunmatched : ∀ t : State, (t.unmatchedBreak e).outfeed.sensed = t.outfeed.sensed := by
    intro t
    unfold State.unmatchedBreak
    dsimp only
    split
    · split
      · split
        · exact State.markAndDivert_sensed _ _ _
        · rfl
      · rfl
    · rfl
  unfold State.breakTaken
  dsimp only
  split
  · exact (hmatch _ _).trans horphan
  · exact (hunmatched _).trans horphan

theorem State.makeTaken_sensed (s : State) (e : Edge) : (s.makeTaken e).outfeed.sensed = s.outfeed.sensed := by
  have hmeasure : ∀ (p : Parcel) (p0 p1 : Count), (s.measureBelt p p0 p1).outfeed.sensed = s.outfeed.sensed := by
    intro p p0 p1
    have hmarked : ∀ t : State, (if lengthOff s.loader.lengthTolerance (outfeedLength s.loader p0 p1) p.dims then
        t.markAndDivert p.tag (fun m => { m with lengthMismatch := true }) else t).outfeed.sensed = t.outfeed.sensed := by
      intro t
      split
      · exact t.markAndDivert_sensed _ _
      · rfl
    have hentered : ∀ t : State, (if t.outfeed.actions.length < Config.actionLen ∧ t.outfeed.pendingClear = [] then
        (t.makeAction ⟨p1 + offset s.loader.gate + offset s.loader.trail, .clearChute, p.tag⟩).freed
      else t.setOutfeed { t.outfeed with
        pendingClear := t.outfeed.pendingClear ++
          [(p.tag, p1 + offset s.loader.gate + offset s.loader.trail)] }).outfeed.sensed = t.outfeed.sensed := by
      intro t
      split
      · exact (State.fillClears_sensed _ _).trans (State.makeAction_sensed _ _)
      · rfl
    exact (hentered _).trans (hmarked _)
  unfold State.makeTaken
  split
  · rfl
  · dsimp only
    split
    · exact hmeasure _ _ _
    · rfl

end Sensed

/-! ### The tracker -/

section Tracker
variable {s : State} {e : Edge}

theorem State.track_of_untakable (h : s.outfeed.takable = none) : s.track = s := by
  rw [State.track, State.trackFor, h]

theorem Outfeed.takable_of_free {o : Outfeed} (h : o.holding = none) : o.takable = none := by
  rw [Outfeed.takable, h]

theorem Outfeed.breakTakable_eq_false_iff {o : Outfeed} :
    o.breakTakable = false ↔ o.pendingClear ≠ [] ∨ 6 < o.actions.length := by
  have hlen : Config.actionLen = 8 := rfl
  rw [Outfeed.breakTakable, Bool.and_eq_false_iff, List.isEmpty_eq_false_iff, decide_eq_false_iff_not, hlen]
  exact or_congr_right (by omega)

theorem Outfeed.takable_of_blocked {o : Outfeed} (h : o.holding = some e) (hk : e.kind = .brk)
    (hb : o.pendingClear ≠ [] ∨ 6 < o.actions.length) : o.takable = none := by
  simp only [Outfeed.takable, h, hk, Outfeed.breakTakable_eq_false_iff.2 hb, Bool.false_eq_true, if_false]

theorem Outfeed.takable_of_break {o : Outfeed} (h : o.holding = some e) (hk : e.kind = .brk)
    (hp : o.pendingClear = []) (ha : o.actions.length ≤ 6) : o.takable = some e := by
  have hfree : o.breakTakable = true := by
    rw [← Bool.not_eq_false, Outfeed.breakTakable_eq_false_iff]
    simp only [hp, ne_eq, not_true, false_or]
    omega
  simp only [Outfeed.takable, h, hk, hfree, if_true]

theorem Outfeed.takable_of_make {o : Outfeed} (h : o.holding = some e) (hk : e.kind = .make) : o.takable = some e := by
  simp only [Outfeed.takable, h, hk]

/-- The state once the edge held is taken, before its effect, with nothing queued behind it. -/
theorem State.takeEdge_of_brk (hk : e.kind = .brk) (hq : s.outfeed.edges = []) :
    s.takeEdge e = (s.setOutfeed { s.outfeed with holding := none, edges := [] }).breakTaken e := by
  rw [State.takeEdge, hk, Outfeed.nextEdge, hq]
  rfl

theorem State.takeEdge_of_make (hk : e.kind = .make) (hq : s.outfeed.edges = []) :
    s.takeEdge e = (s.setOutfeed { s.outfeed with holding := none, edges := [] }).makeTaken e := by
  rw [State.takeEdge, hk, Outfeed.nextEdge, hq]
  rfl

/-- With nothing queued behind it, an edge taken leaves the holding record empty. -/
theorem State.takeEdge_free (hq : s.outfeed.edges = []) : (s.takeEdge e).outfeed.holding = none := by
  cases hk : e.kind with
  | brk =>
    rw [State.takeEdge_of_brk hk hq]
    exact Outfeed.holding_of_sensed (State.breakTaken_sensed _ _)
  | make =>
    rw [State.takeEdge_of_make hk hq]
    exact Outfeed.holding_of_sensed (State.makeTaken_sensed _ _)

/-- The tracker takes the only edge that waits (R162). -/
theorem State.track_of_one (h : s.outfeed.takable = some e) (hq : s.outfeed.edges = []) : s.track = s.takeEdge e := by
  rw [State.track, hq]
  simp only [List.length_nil, State.trackFor, h]

theorem exec_takeBreak (hs : s.powered = true) : exec .takeBreak s = .next (s.takeHeld .brk) :=
  next_event hs rfl

theorem exec_takeMake (hs : s.powered = true) : exec .takeMake s = .next (s.takeHeld .make) :=
  next_event hs rfl

theorem State.takeHeld_of_untakable {kind : EdgeKind} (h : s.outfeed.takable = none) : s.takeHeld kind = s := by
  rw [State.takeHeld, h]

/-- The edge held is taken, with nothing queued behind it (R162). -/
theorem State.takeHeld_of_one (h : s.outfeed.takable = some e) (hq : s.outfeed.edges = []) :
    s.takeHeld e.kind = s.takeEdge e := by
  rw [State.takeHeld, h]
  exact (if_pos rfl).trans (State.track_of_untakable (Outfeed.takable_of_free (State.takeEdge_free hq)))

theorem State.raiseOverrun_eq (s : State) : s.raiseOverrun = { s with
    outfeed := { s.outfeed with overrun := true }, link := s.risen s.outfeed.overrun .edgeOverrun s.bus.state } := by
  unfold State.raiseOverrun State.risen
  cases h : s.outfeed.overrun
  · rfl
  · rw [if_pos rfl, if_pos rfl, ← h]

end Tracker

/-! ### Edge capture (R161) -/

section Capture
variable {s : State} {kind : EdgeKind}

theorem exec_edgeCapture_of_running (hs : s.powered = true) (hb : s.outfeed.beam ≠ beamAfter kind)
    (hr : s.loader.station = .running) : exec (.edgeCapture kind) s =
      .next ((State.captureEdge { s with outfeed := { s.outfeed with beam := beamAfter kind } }
        ⟨kind, s.outfeed.encoder, s.outfeed.capture⟩).track) := by
  refine next_event hs ((if_neg hb).trans ?_)
  rw [State.beamEdge]
  simp only [State.setOutfeed_loader, hr]
  rfl

theorem State.captureEdge_of_free {e : Edge} (hh : s.outfeed.holding = none) (he : s.outfeed.edges = []) :
    s.captureEdge e = { s with outfeed := { s.outfeed with holding := some e } } := by
  rw [State.captureEdge, hh, he]
  rfl

theorem State.captureEdge_of_held {e h : Edge} (hh : s.outfeed.holding = some h) : s.captureEdge e =
    if s.outfeed.edges.length < 8 then { s with outfeed := { s.outfeed with edges := s.outfeed.edges ++ [e] } }
    else { s with
      outfeed := { s.outfeed with
        dropped := if 255 ≤ s.outfeed.dropped then 255 else s.outfeed.dropped + 1, overrun := true }
      link := s.risen s.outfeed.overrun .edgeOverrun s.bus.state } := by
  rw [State.captureEdge, hh]
  by_cases hfull : s.outfeed.edges.length < 8
  · rw [if_pos hfull]
    exact if_pos hfull
  · rw [if_neg hfull]
    refine (if_neg hfull).trans ((State.raiseOverrun_eq _).trans ?_)
    rw [satAdd_one]
    rfl

/-- A MAKE taken without an open parcel is an orphan (R163). -/
theorem State.makeTaken_of_orphan (h : s.outfeed.openParcel = none) (e : Edge) : s.makeTaken e = { s with
    outfeed := { s.outfeed with orphans := if 255 ≤ s.outfeed.orphans then 255 else s.outfeed.orphans + 1 } } := by
  rw [State.makeTaken, h]
  dsimp only
  rw [satAdd_one]
  rfl

end Capture

/-- Settles O48: by what is held, what is queued, and the kind of the edge. -/
theorem edgeCaptureQueues : Obligations.EdgeCaptureQueues := by
  intro s kind hs beam
  have hbeam : beamAfter kind = beam := by cases kind <;> rfl
  have hrun := fun hb hr => exec_edgeCapture_of_running (s := s) (kind := kind) hs (hbeam ▸ hb) hr
  rw [hbeam] at hrun
  refine ⟨fun hsame => next_event hs (if_pos (hsame.trans hbeam.symm)), fun hb hf => ?_, fun h hb hr hh hk hblocked => ?_,
    fun hb hr hh he => ?_, fun hk hb hr hh he ho => ?_⟩
  · refine next_event hs ((if_neg (hbeam ▸ hb)).trans ?_)
    rw [State.beamEdge, hbeam]
    simp only [State.setOutfeed_loader, hf]
    rfl
  · rw [hrun hb hr, State.captureEdge_of_held (by exact hh)]
    refine ⟨fun hroom => ?_, fun hfull => ?_⟩
    · rw [if_pos (by exact hroom), State.track_of_untakable (by exact Outfeed.takable_of_blocked hh hk hblocked)]
    · rw [if_neg (by exact Nat.not_lt.2 hfull),
        State.track_of_untakable (by exact Outfeed.takable_of_blocked hh hk hblocked)]
  · intro held
    have hcapture : exec (.edgeCapture kind) s = .next held.track := by
      rw [hrun hb hr, State.captureEdge_of_free (by exact hh) (by exact he)]
    have htaken : ∀ {e : Edge}, held.outfeed.takable = some e → held.track = held.takeHeld e.kind := fun {e} ht => by
      rw [State.track_of_one ht he, State.takeHeld_of_one ht he]
    refine ⟨fun hk hblocked => ?_, fun hk hp ha => ?_, fun hk => ?_⟩
    · rw [hcapture, State.track_of_untakable (by exact Outfeed.takable_of_blocked rfl hk hblocked)]
    · rw [hcapture, htaken (Outfeed.takable_of_break (o := held.outfeed) rfl hk hp ha), exec_takeBreak (by exact hs), hk]
    · rw [hcapture, htaken (Outfeed.takable_of_make (o := held.outfeed) rfl hk), exec_takeMake (by exact hs), hk]
  · rw [hrun (by simp [beam, hk, hb]) hr, State.captureEdge_of_free (by exact hh) (by exact he),
      State.track_of_one (e := ⟨kind, s.outfeed.encoder, s.outfeed.capture⟩) (by exact Outfeed.takable_of_make rfl hk)
      (by exact he), State.takeEdge_of_make hk (by exact he), State.makeTaken_of_orphan (by exact ho)]
    simp only [beam, hk, State.setOutfeed, hh, he]

end Sys2Proof.Machine
end


section
/-! The printer's events (R181): done, timeout and the fault line. -/

namespace Sys2Proof.Machine

section Printer
variable {s : State} {l : Label}

theorem Parcel.bears_iff {p : Parcel} : p.bears l = true ↔ p.tag = l.tag ∧ p.tracking = some l.tracking := by
  rw [Parcel.bears, Bool.and_eq_true, beq_iff_eq, beq_iff_eq]

theorem ParcelQueue.carries_iff {q : ParcelQueue} : q.carries l = true ↔ ∃ p ∈ q.parcels,
    (p.tag = l.tag ∧ p.tracking = some l.tracking) ∧ (p.state = .labelPending ∨ p.state = .onBelt) := by
  simp only [ParcelQueue.carries, List.any_eq_true, Bool.and_eq_true, Bool.or_eq_true, beq_iff_eq, Parcel.bears_iff]

theorem ParcelQueue.isLate_iff {q : ParcelQueue} : q.isLate l = true ↔ ∃ p ∈ q.parcels,
    (p.tag = l.tag ∧ p.tracking = some l.tracking) ∧ p.marked.labelLate = true := by
  simp only [ParcelQueue.isLate, List.any_eq_true, Bool.and_eq_true, Parcel.bears_iff]

theorem State.labelDone_of_idle (h : s.label.printer ≠ .printing) : s.labelDone = s := by
  unfold State.labelDone
  split
  next hp _ => exact absurd hp h
  next => rfl

theorem State.labelDone_of_carried (hp : s.label.printer = .printing) (hl : s.label.atPrinter = some l)
    (hc : s.queue.carries l = true) : s.labelDone = { s with
      label := { s.label with printer := .presented, slot := some l, atPrinter := none, printDue := none } } := by
  rw [State.labelDone, hp, hl]
  exact if_pos hc

theorem State.labelDone_of_gone (hp : s.label.printer = .printing) (hl : s.label.atPrinter = some l)
    (hc : ¬s.queue.carries l = true) : s.labelDone = (s.setLabel { s.label with
      printer := .idle, atPrinter := none, printDue := none
      wasted := if 65535 ≤ s.label.wasted then 65535 else s.label.wasted + 1, eject := true }).printerSettle := by
  rw [State.labelDone, hp, hl]
  refine (if_neg hc).trans ?_
  rw [LabelUnit.waste, satAdd_one]

/-- A label that fails at the printer: it returns to the print order while its record can still carry it (R180, R181). -/
theorem State.printFailed_eq (hp : s.label.printer = .printing) (hl : s.label.atPrinter = some l) : s.printFailed = { s with
    link := s.link.rise .printerFault s.dispatch.clock s.bus.state
    label := { s.label with
      printer := .fault, atPrinter := none, printDue := none
      wasted := if 65535 ≤ s.label.wasted then 65535 else s.label.wasted + 1, eject := true
      printOrder := if s.queue.carries l && !s.queue.isLate l then
          l :: s.label.printOrder.filter (fun x => x.tag ≠ l.tag)
        else s.label.printOrder } } := by
  rw [State.printFailed, hp, hl]
  dsimp only
  rw [State.printerToFault, if_neg]
  · simp only [LabelUnit.waste, satAdd_one, bne_eq_decide_ne]
    rfl
  · simp [State.setLabel, LabelUnit.waste, hp]

end Printer

/-- Settles O53: the printer's state, and whether the label's record can still carry it. -/
theorem printerEvents : Obligations.PrinterEvents := by
  intro s hs its carried late wasted noticed failed
  have hcarried : ∀ l, s.queue.carries l = true ↔ carried l := fun l => ParcelQueue.carries_iff
  have hlate : ∀ l, s.queue.isLate l = true ↔ late l := fun l => ParcelQueue.isLate_iff
  have hfailed : ∀ (l : Label) (line : Bool) (r : Host.Outcome State Fault Refusal), s.label.printer = .printing →
      s.label.atPrinter = some l → r = .next (s.setLabel { s.label with faultLine := line }).printFailed →
      failed r line l := by
    intro l line r hp hl hr
    have heq := State.printFailed_eq (s := s.setLabel { s.label with faultLine := line }) hp hl
    refine ⟨_, hr.trans (congrArg _ heq), fun hc hn => ?_, fun h => ?_, rfl⟩
    · exact if_pos (by simp [(hcarried l).2 hc, mt (hlate l).1 hn])
    · refine if_neg fun hok => ?_
      obtain ⟨hc, hn⟩ := Bool.and_eq_true_iff.1 hok
      obtain h | h := h
      · exact h ((hcarried l).1 hc)
      · exact absurd ((hlate l).2 h) (by simpa using hn)
  have hline : s.setLabel { s.label with faultLine := s.label.faultLine } = s := rfl
  clear_value failed carried late
  refine ⟨fun h => next_event hs (State.labelDone_of_idle h), fun l hp hl => ⟨fun hc => ?_, fun hc hline ho => ?_,
    fun due hdue => ⟨fun hlt => ?_, fun hle => ?_⟩, fun hclear => ?_⟩, fun hp hclear => ?_, fun hp => ?_, ?_⟩
  · exact next_event hs (State.labelDone_of_carried hp hl ((hcarried l).2 hc))
  · exact next_event hs ((State.labelDone_of_gone hp hl (mt (hcarried l).1 hc)).trans
      (State.printerSettle_of_empty hline ho))
  · exact next_event hs (if_neg (by simp [expired, hdue, hlt]))
  · exact hfailed l _ _ hp hl (next_event hs (if_pos (by simp [expired, hdue, hle])))
  · refine hfailed l _ _ hp hl (next_event hs ?_)
    simp only [State.faultLineTo, hclear, hp]
    rfl
  · refine next_event hs ?_
    unfold State.faultLineTo
    split
    · split
      next => exact State.printerSettle_of_line (s := s.setLabel { s.label with faultLine := true }) hp rfl
      all_goals next h => simp [hp] at h
    next h => simp [hclear] at h
  · refine next_event hs ?_
    unfold State.faultLineTo
    split
    · rw [hp]
      rfl
    · rfl
  · exact next_event hs rfl

end Sys2Proof.Machine
end


section
/-! The records and actions of the belt: the record of a tag on it, the ends of records, the pending CLEARs entered, and
the jam (R167, R172). -/

namespace Sys2Proof.Machine

section Belt
variable {s : State} {older younger : List Parcel} {p : Parcel}

theorem reached_eq_false_iff {count pos : Count} : reached count pos = false ↔ 32768 ≤ (count - pos).toNat := by
  rw [reached, decide_eq_false_iff_not, Nat.not_lt]

theorem reached_iff {count pos : Count} : reached count pos = true ↔ (count - pos).toNat < 32768 := decide_eq_true_iff

theorem ParcelQueue.beltRecord_eq_none {q : ParcelQueue} {tag : Nat}
    (h : ∀ p ∈ q.parcels, p.tag = tag → p.state ≠ .onBelt) : q.beltRecord tag = none := by
  rw [ParcelQueue.beltRecord, List.find?_eq_none]
  intro p hp
  simpa using h p hp

/-- A record rejected on the belt, its PARCEL-END placed: its booking is released and its label discarded (R80, R183). -/
theorem State.Holds.rejectOnBelt (h : s.Holds older p younger) (hroom : s.link.reports.length < 16) (r : Reason) :
    s.rejectOnBelt p r = State.discardLabel { s with
      queue := { s.queue with parcels := older ++ younger }
      dispatch := s.dispatch.release p
      link := { s.link with reports := s.link.reports ++ [p.endReport .rejected (some r)] } } p.tag := by
  rw [State.rejectOnBelt, h.endParcel, decide_eq_true hroom]
  simp only [if_true, List.append_nil]
  rfl

/-- A record whose label is not in the slot, rejected on the belt. -/
theorem State.Holds.rejectOnBelt_of_unslotted (h : s.Holds older p younger) (hroom : s.link.reports.length < 16)
    (hs : ∀ l, s.label.slot = some l → l.tag ≠ p.tag) (r : Reason) : s.rejectOnBelt p r = { s with
      queue := { s.queue with parcels := older ++ younger }
      dispatch := s.dispatch.release p
      label := { s.label with printOrder := s.label.printOrder.filter (fun l => l.tag ≠ p.tag) }
      link := { s.link with reports := s.link.reports ++ [p.endReport .rejected (some r)] } } := by
  rw [h.rejectOnBelt hroom, State.discardLabel_of_unslotted (by exact hs)]
  rfl

theorem State.raiseJam_eq (s : State) : s.raiseJam = { s with
    outfeed := { s.outfeed with jammed := true }, link := s.risen s.outfeed.jammed .jam s.bus.state } := by
  unfold State.raiseJam State.risen
  cases h : s.outfeed.jammed
  · rfl
  · rw [if_pos rfl, if_pos rfl, ← h]

/-! ### The pending CLEARs (R167) -/

theorem State.makeAction_of_ahead {a : Action} (h : 32768 ≤ (s.outfeed.encoder - a.pos).toNat) :
    s.makeAction a = s.setOutfeed { s.outfeed with actions := s.outfeed.actions ++ [a] } := by
  rw [State.makeAction, reached_eq_false_iff.2 h, if_neg Bool.false_ne_true]

/-- Pending CLEARs that are not reached enter the table while it has room, oldest first (R167). -/
theorem State.fillClears_of_ahead (n : Nat) (hn : s.outfeed.pendingClear.length = n)
    (h : ∀ x ∈ s.outfeed.pendingClear, 32768 ≤ (s.outfeed.encoder - x.2).toNat) : State.fillClears n s = { s with
      outfeed := { s.outfeed with
        actions := s.outfeed.actions ++
          (s.outfeed.pendingClear.take (8 - s.outfeed.actions.length)).map (fun x => ⟨x.2, .clearChute, x.1⟩)
        pendingClear := s.outfeed.pendingClear.drop (8 - s.outfeed.actions.length) } } := by
  induction n generalizing s with
  | zero =>
    have hnil : s.outfeed.pendingClear = [] := List.eq_nil_of_length_eq_zero hn
    simp only [State.fillClears, hnil, List.take_nil, List.map_nil, List.append_nil, List.drop_nil]
    rw [← hnil]
  | succ n ih =>
    obtain ⟨⟨tag, pos⟩, rest, hrest⟩ := List.exists_cons_of_length_eq_add_one hn
    rw [hrest] at hn h
    rw [State.fillClears, hrest]
    dsimp only
    by_cases hroom : s.outfeed.actions.length < 8
    · obtain ⟨k, hk⟩ : ∃ k, 8 - s.outfeed.actions.length = k + 1 := ⟨7 - s.outfeed.actions.length, by omega⟩
      have hk' : 8 - (s.outfeed.actions.length + 1) = k := by omega
      rw [if_pos (by exact hroom), State.makeAction_of_ahead (by exact h _ List.mem_cons_self),
        ih (by exact Nat.succ.inj hn) (by exact fun x hx => h x (List.mem_cons_of_mem _ hx))]
      simp [State.setOutfeed, hk, hk']
    · have hk : 8 - s.outfeed.actions.length = 0 := by omega
      rw [if_neg (by exact hroom), hk]
      simp only [List.take_zero, List.map_nil, List.append_nil, List.drop_zero]
      rw [← hrest]

theorem State.freed_of_ahead (h : ∀ x ∈ s.outfeed.pendingClear, 32768 ≤ (s.outfeed.encoder - x.2).toNat) :
    s.freed = { s with
      outfeed := { s.outfeed with
        actions := s.outfeed.actions ++
          (s.outfeed.pendingClear.take (8 - s.outfeed.actions.length)).map (fun x => ⟨x.2, .clearChute, x.1⟩)
        pendingClear := s.outfeed.pendingClear.drop (8 - s.outfeed.actions.length) } } :=
  State.fillClears_of_ahead _ rfl h

theorem State.freed_of_none (h : s.outfeed.pendingClear = []) : s.freed = s := by
  rw [State.freed, h]
  rfl

end Belt

/-! ### The jam (R172) -/

theorem State.jamDue_iff {s : State} {p : Parcel} {pos : Count} {time : Micros} (hst : p.state = .onBelt)
    (hfront : p.front = some (pos, time)) :
    s.jamDue p = true ↔ s.loader.beltTimeout * 1000000 ≤ (s.outfeed.capture - time).toNat := by
  rw [State.jamDue, hst, hfront, beq_self_eq_true, Bool.true_and, decide_eq_true_iff]

theorem Outfeed.jam_eq (o : Outfeed) (tag : Nat) : o.jam tag = { o with
    actions := o.actions.filter (fun a => a.tag ≠ tag)
    pendingClear := o.pendingClear.filter (fun x => x.1 ≠ tag)
    chute := if o.owner = some tag then 0 else o.chute
    owner := if o.owner = some tag then none else o.owner
    openParcel := o.openParcel.map (fun x => if x.tag = some tag then { x with tag := none } else x)
    jams := if 255 ≤ o.jams then 255 else o.jams + 1 } := by
  simp only [Outfeed.jam, Outfeed.dropPending, Outfeed.dropActions, bne_eq_decide_ne, satAdd_one]

/-- Settles O52: before the belt timeout, and at it. -/
theorem jamEndsRecord : Obligations.JamEndsRecord := by
  intro s older younger p pos time hs hp hst hfront
  have hrecord := hp.beltRecord hst
  have hexec : exec (.jam p.tag) s = .next (if s.jamDue p then s.jamRecord p else s) := by
    refine next_event hs ?_
    rw [hrecord]
  refine ⟨fun hearly => ?_, fun hdue hhold hahead hslot hroom => ?_⟩
  · rw [hexec, if_neg (mt (State.jamDue_iff hst hfront).1 (Nat.not_le.2 hearly))]
  · intro kept waiting ended
    have hjam := (State.jamDue_iff hst hfront).2 hdue
    have hahead' : ∀ x ∈ waiting, 32768 ≤ (s.outfeed.encoder - x.2).toNat := by
      intro x hx
      obtain ⟨hmem, hne⟩ := List.mem_filter.1 hx
      exact hahead x hmem (by simpa using hne)
    have hreject := State.Holds.rejectOnBelt_of_unslotted (s := s.setOutfeed (s.outfeed.jam p.tag)) hp hroom hslot .jam
    rw [hexec, if_pos hjam, State.jamRecord, hreject, State.raiseJam_eq, Outfeed.jam_eq, State.freed_of_ahead (by exact hahead'),
      State.track_of_untakable (by exact Outfeed.takable_of_free hhold), State.risen]
    simp only [DispatchTable.release_clock]
    rfl

end Sys2Proof.Machine
end


section
/-! TAKE_BREAK (R163 to R166): a BREAK matched to a record, an UNMATCHED parcel, and a record closed short. -/

namespace Sys2Proof.Machine

section Break
variable {s : State} {e : Edge} {older younger : List Parcel} {p : Parcel}

/-! ### Marks and diverts -/

theorem State.Holds.mark (h : s.Holds older p younger) (f : Marks → Marks) : s.mark p.tag f = { s with
    queue := { s.queue with parcels := older ++ { p with marks := some (f p.marked) } :: younger } } := by
  rw [State.mark, State.updateParcel, h.update]
  rfl

/-- A divert puts chute 0 into the tag's SET-CHUTE, or else into the gate that it holds (R166). -/
theorem Outfeed.divert_eq (o : Outfeed) (tag : Nat) : o.divert tag = { o with
    actions := o.actions.map (fun a => if a.setsFor tag then { a with kind := .setChute 0 } else a)
    chute := if o.actions.any (fun a => a.setsFor tag) = false ∧ o.owner = some tag then 0 else o.chute } := by
  unfold Outfeed.divert
  by_cases htable : o.actions.any (fun a => a.setsFor tag) = true
  · rw [if_pos htable, if_neg (by simp [htable])]
  · have hnone : ∀ a ∈ o.actions, a.setsFor tag = false := by simpa using htable
    have hsame : o.actions.map (fun a => if a.setsFor tag then { a with kind := .setChute 0 } else a) = o.actions :=
      (List.map_congr_left fun a ha => if_neg (by simp [hnone a ha])).trans (List.map_id _)
    rw [if_neg htable, hsame]
    by_cases howner : o.owner = some tag
    · rw [if_pos howner, if_pos ⟨by simpa using htable, howner⟩]
    · rw [if_neg howner, if_neg fun h => howner h.2]

theorem State.Holds.markAndDivert (h : s.Holds older p younger) (f : Marks → Marks) : s.markAndDivert p.tag f = { s with
    queue := { s.queue with parcels := older ++ { p with marks := some (f p.marked) } :: younger }
    outfeed := { s.outfeed with
      actions := s.outfeed.actions.map (fun a => if a.setsFor p.tag then { a with kind := .setChute 0 } else a)
      chute := if s.outfeed.actions.any (fun a => a.setsFor p.tag) = false ∧ s.outfeed.owner = some p.tag then 0
        else s.outfeed.chute } } := by
  rw [State.markAndDivert, h.mark, Outfeed.divert_eq]
  rfl

/-! ### A BREAK taken -/

theorem exec_takeBreak_of_taken (hs : s.powered = true) (hh : s.outfeed.holding = some e) (hk : e.kind = .brk)
    (hp : s.outfeed.pendingClear = []) (ha : s.outfeed.actions.length ≤ 6) (he : s.outfeed.edges = []) :
    exec .takeBreak s = .next (State.breakTaken { s with outfeed := { s.outfeed with holding := none } } e) := by
  rw [exec_takeBreak hs, ← hk, State.takeHeld_of_one (Outfeed.takable_of_break hh hk hp ha) he, State.takeEdge_of_brk hk he]
  simp only [State.setOutfeed, ← he]

theorem State.orphanBreak_of_none (h : s.outfeed.openParcel = none) : s.orphanBreak = s := by
  rw [State.orphanBreak, h]

theorem State.orphanBreak_of_unmatched {x : OpenParcel} (h : s.outfeed.openParcel = some x) (hx : x.tag = none) :
    s.orphanBreak = { s with
      outfeed := { s.outfeed with
        orphans := if 255 ≤ s.outfeed.orphans then 255 else s.outfeed.orphans + 1, openParcel := none } } := by
  rw [State.orphanBreak, h]
  dsimp only
  rw [hx, Option.bind_none, satAdd_one]
  rfl

/-- The parcel of a record on the belt has lost its MAKE (R163). -/
theorem State.Holds.orphanBreak (h : s.Holds older p younger) {pos : Count} {time : Micros}
    (ho : s.outfeed.openParcel = some ⟨pos, time, some p.tag⟩) (hst : p.state = .onBelt) : s.orphanBreak =
      State.closeShort { s with
        outfeed := { s.outfeed with
          orphans := if 255 ≤ s.outfeed.orphans then 255 else s.outfeed.orphans + 1, openParcel := none } } p := by
  have hrecord := h.beltRecord hst
  rw [State.orphanBreak, ho]
  dsimp only
  rw [Option.bind_some, State.setOutfeed_queue, hrecord, satAdd_one]
  rfl

theorem ParcelQueue.oldestPending_eq_none {q : ParcelQueue} (h : ∀ p ∈ q.parcels, p.state ≠ .labelPending) :
    q.oldestPending = none := by
  simpa only [ParcelQueue.oldestPending, List.find?_eq_none, beq_iff_eq] using h

/-- A BREAK without a record, no gap memory before it (R164). -/
theorem State.unmatchedBreak_of_clear (h : s.outfeed.gap = none) (e : Edge) : s.unmatchedBreak e = { s with
    outfeed := { s.outfeed with
      unmatched := if 65535 ≤ s.outfeed.unmatched then 65535 else s.outfeed.unmatched + 1
      openParcel := some ⟨e.pos, e.time, none⟩ } } := by
  rw [State.unmatchedBreak]
  simp only [State.setOutfeed_outfeed, h, satAdd_one]
  rfl

theorem State.unmatchedBreak_of_short {gap : Count} (h : s.Holds older p younger)
    (hgap : s.outfeed.gap = some ⟨gap, some p.tag⟩) (hst : p.state = .onBelt)
    (hshort : (e.pos - gap).toNat < s.loader.minGap) : s.unmatchedBreak e = State.markAndDivert { s with
      outfeed := { s.outfeed with
        unmatched := if 65535 ≤ s.outfeed.unmatched then 65535 else s.outfeed.unmatched + 1
        openParcel := some ⟨e.pos, e.time, none⟩ } } p.tag (fun m => { m with gapFault := true }) := by
  have hrecord := h.beltRecord hst
  rw [State.unmatchedBreak]
  simp only [State.setOutfeed_outfeed, State.setOutfeed_queue, State.setOutfeed_loader, hgap, Option.bind_some, hrecord, satAdd_one,
    Outfeed.gapShort, beltDistance, decide_eq_true hshort, if_true]
  rfl

/-- A record closed short (R163, R166): its entries leave, a gate that it holds goes to chute 0, and it is rejected. -/
theorem State.closeShort_eq (h : s.outfeed.pendingClear = []) (p : Parcel) : s.closeShort p = State.rejectOnBelt { s with
    outfeed := { s.outfeed with
      actions := s.outfeed.actions.filter (fun a => a.tag ≠ p.tag)
      chute := if s.outfeed.owner = some p.tag then 0 else s.outfeed.chute } } p .lengthUnknown := by
  have hdrop : (s.outfeed.dropActions p.tag).dropPending p.tag = { s.outfeed with
      actions := s.outfeed.actions.filter (fun a => a.tag ≠ p.tag) } := by
    simp only [Outfeed.dropPending, Outfeed.dropActions, bne_eq_decide_ne, h, List.filter_nil]
  rw [State.closeShort, hdrop]
  by_cases howner : s.outfeed.owner = some p.tag
  · rw [if_pos (by exact howner), if_pos howner]
    rfl
  · rw [if_neg (by exact howner), if_neg howner]
    rfl

/-! ### A match (R165) -/

/-- A record's marks once its BREAK is matched (R165). -/
def breakMarks (late short : Bool) : Option Marks := if late || short then some ⟨late, short, false⟩ else none

/-- The record on the belt once its BREAK is matched (R79, R165). -/
def Parcel.matched (p : Parcel) (e : Edge) (late short : Bool) : Parcel :=
  { p with state := .onBelt, front := some (e.pos, e.time), marks := breakMarks late short }

/-- A short gap marks the record matched GAP-FAULT (R165). -/
theorem State.Holds.gapMarked (h : s.Holds older (p.matched e false false) younger) (short : Bool) :
    (if short then s.mark p.tag (fun m => { m with gapFault := true }) else s) = { s with
      queue := { s.queue with parcels := older ++ p.matched e false short :: younger } } := by
  cases short with
  | true => exact (if_pos rfl).trans (h.mark (fun m => { m with gapFault := true }))
  | false =>
    rw [← h.1]
    rfl

/-- An APPLY reached already marks the record LABEL-LATE; otherwise it is entered (R165). -/
theorem State.Holds.enterApply {short : Bool} (h : s.Holds older (p.matched e false short) younger) (pos : Count) :
    s.enterApply p.tag pos = { s with
      queue := { s.queue with
        parcels := older ++
          p.matched e (reached s.outfeed.encoder (pos + offset s.loader.applicator)) short :: younger }
      outfeed := { s.outfeed with
        actions := s.outfeed.actions ++
          if reached s.outfeed.encoder (pos + offset s.loader.applicator) then [] else
            [⟨pos + offset s.loader.applicator, .apply, p.tag⟩] } } := by
  rw [State.enterApply]
  cases hlate : reached s.outfeed.encoder (pos + offset s.loader.applicator) with
  | true =>
    refine (if_pos rfl).trans ((h.mark _).trans ?_)
    rw [if_pos rfl, List.append_nil]
    cases short <;> rfl
  | false =>
    rw [if_neg Bool.false_ne_true, if_neg Bool.false_ne_true, ← h.1]
    rfl

/-- The chute of a matched record's SET-CHUTE (R165). -/
theorem State.Holds.chuteFor {late short : Bool} (h : s.Holds older (p.matched e late short) younger) :
    s.chuteFor p.tag = if late || short then 0 else s.store.chute p.route := by
  have hfind : s.queue.find p.tag = some (p.matched e late short) := h.find
  rw [State.chuteFor, hfind]
  cases late <;> cases short <;> rfl

theorem State.Holds.matchBreak (h : s.Holds older p younger) (hm : p.marks = none)
    (hgate : 32768 ≤ (s.outfeed.encoder - (e.pos + offset s.loader.gate - offset s.loader.lead)).toNat) :
    s.matchBreak p e = { s with
      queue := { s.queue with
        parcels := older ++ p.matched e (reached s.outfeed.encoder (e.pos + offset s.loader.applicator))
          (s.outfeed.gapShort s.loader e.pos) :: younger }
      outfeed := { s.outfeed with
        openParcel := some ⟨e.pos, e.time, some p.tag⟩
        actions := s.outfeed.actions ++
          (if reached s.outfeed.encoder (e.pos + offset s.loader.applicator) then [] else
            [⟨e.pos + offset s.loader.applicator, .apply, p.tag⟩]) ++
          [⟨e.pos + offset s.loader.gate - offset s.loader.lead,
            .setChute (if reached s.outfeed.encoder (e.pos + offset s.loader.applicator) ||
              s.outfeed.gapShort s.loader e.pos then 0 else s.store.chute p.route), p.tag⟩] } } := by
  have hmatched : p.matched e false false = { p with state := .onBelt, front := some (e.pos, e.time) } := by
    rw [Parcel.matched, breakMarks, Bool.or_self, if_neg Bool.false_ne_true, ← hm]
  let s2 : State := { s with
    queue := { s.queue with parcels := older ++ p.matched e false false :: younger }
    outfeed := { s.outfeed with openParcel := some ⟨e.pos, e.time, some p.tag⟩ } }
  have h2 : s2.Holds older (p.matched e false false) younger := ⟨rfl, h.2⟩
  have hfirst : (s.updateParcel p.tag (fun p => { p with state := .onBelt, front := some (e.pos, e.time) })).setOutfeed
      { s.outfeed with openParcel := some ⟨e.pos, e.time, some p.tag⟩ } = s2 := by
    rw [State.updateParcel, h.update, ← hmatched]
    rfl
  let short := s.outfeed.gapShort s.loader e.pos
  let late := reached s.outfeed.encoder (e.pos + offset s.loader.applicator)
  let s3 : State := { s2 with queue := { s.queue with parcels := older ++ p.matched e false short :: younger } }
  have h3 : s3.Holds older (p.matched e false short) younger := ⟨rfl, h.2⟩
  let s4 : State := { s3 with
    queue := { s.queue with parcels := older ++ p.matched e late short :: younger }
    outfeed := { s3.outfeed with
      actions := s.outfeed.actions ++ if late then [] else [⟨e.pos + offset s.loader.applicator, .apply, p.tag⟩] } }
  have h4 : s4.Holds older (p.matched e late short) younger := ⟨rfl, h.2⟩
  have hsecond : (if s2.outfeed.gapShort s2.loader e.pos then s2.mark p.tag (fun m => { m with gapFault := true }) else s2) =
      s3 := h2.gapMarked short
  have hthird : s3.enterApply p.tag e.pos = s4 := h3.enterApply e.pos
  calc s.matchBreak p e
      = s4.makeAction ⟨e.pos + offset s4.loader.gate - offset s4.loader.lead, .setChute (s4.chuteFor p.tag), p.tag⟩ := by
        rw [← hthird, ← hsecond, ← hfirst]
        rfl
    _ = _ := by
        rw [State.makeAction_of_ahead (by exact hgate), h4.chuteFor]
        rfl

end Break

/-- Settles O49: by the record that the BREAK finds, and the parcel open before it. -/
theorem takeBreakMatches : Obligations.TakeBreakMatches := by
  intro s e hs hh hk
  refine ⟨fun hblocked => ?_, fun hp ha he => ⟨?_, ?_, ?_, ?_⟩⟩
  · rw [exec_takeBreak hs, State.takeHeld_of_untakable (Outfeed.takable_of_blocked hh hk hblocked)]
  · intro older p younger ho hheld hst hold hm label gate late short hgate
    rw [exec_takeBreak_of_taken hs hh hk hp ha he, State.breakTaken, State.orphanBreak_of_none (by exact ho)]
    have hpending : s.queue.oldestPending = some p := hheld.inState hst hold
    dsimp only
    rw [hpending]
    refine (congrArg Host.Outcome.next (State.Holds.matchBreak (by exact hheld) hm (by exact hgate))).trans ?_
    rfl
  · intro hnone hgap hopen
    rw [exec_takeBreak_of_taken hs hh hk hp ha he, State.breakTaken]
    have hpending : s.queue.oldestPending = none := ParcelQueue.oldestPending_eq_none hnone
    cases ho : s.outfeed.openParcel with
    | none =>
      rw [State.orphanBreak_of_none (by exact ho)]
      dsimp only
      rw [hpending, State.unmatchedBreak_of_clear (by exact hgap)]
      rfl
    | some x =>
      rw [State.orphanBreak_of_unmatched (by exact ho) (hopen x ho)]
      dsimp only
      rw [hpending, State.unmatchedBreak_of_clear (by exact hgap)]
      rfl
  · intro older p younger gap hnone hopen hgap hheld hst hshort inTable
    have hpending : s.queue.oldestPending = none := ParcelQueue.oldestPending_eq_none hnone
    rw [exec_takeBreak_of_taken hs hh hk hp ha he, State.breakTaken, State.orphanBreak_of_none (by exact hopen)]
    dsimp only
    rw [hpending, State.unmatchedBreak_of_short (by exact hheld) (by exact hgap) hst (by exact hshort),
      State.Holds.markAndDivert (by exact hheld)]
  · intro older p younger pos time hnone hgap hopen hheld hst hroom order ended emptied after
    let y : State := { s with
      queue := { s.queue with parcels := older ++ younger }
      dispatch := s.dispatch.release p
      outfeed := { s.outfeed with
        holding := none, openParcel := none
        orphans := if 255 ≤ s.outfeed.orphans then 255 else s.outfeed.orphans + 1
        actions := s.outfeed.actions.filter (fun a => a.tag ≠ p.tag)
        chute := if s.outfeed.owner = some p.tag then 0 else s.outfeed.chute }
      link := ended }
    have hpending : ParcelQueue.oldestPending { s.queue with parcels := older ++ younger } = none :=
      ParcelQueue.oldestPending_eq_none fun q hq => hnone q (hheld.1 ▸
        List.mem_append.2 ((List.mem_append.1 hq).imp_right (List.mem_cons_of_mem p)))
    have hafter : ∀ label link, y.discardLabel p.tag = { y with label := label, link := link } → after label link := by
      intro label link hlabel
      change exec .takeBreak s = _
      have horphan : State.orphanBreak { s with outfeed := { s.outfeed with holding := none } } =
          { y with label := label, link := link } := by
        rw [State.Holds.orphanBreak (by exact hheld) (by exact hopen) hst, State.closeShort_eq (by exact hp),
          State.Holds.rejectOnBelt (by exact hheld) (by exact hroom)]
        exact hlabel
      rw [exec_takeBreak_of_taken hs hh hk hp ha he, State.breakTaken, horphan]
      dsimp only
      rw [hpending, State.unmatchedBreak_of_clear (by exact hgap)]
    clear_value after
    refine ⟨fun hslot => hafter _ _ (State.discardLabel_of_unslotted hslot), fun l hl htag => ⟨fun hline => ?_, fun hline hempty => ?_,
      fun l' rest hline horder => ?_⟩⟩
    · have hfault := State.discardLabel_to_fault (s := y) hl htag hline
      rw [DispatchTable.release_clock] at hfault
      exact hafter _ _ hfault
    · exact hafter _ _ (State.discardLabel_to_idle (s := y) hl htag hline hempty)
    · exact hafter _ _ (State.discardLabel_to_next (s := y) hl htag hline horder)

end Sys2Proof.Machine
end


section
/-! TAKE_MAKE (R163, R167): the length measured, the mismatch, and the CLEAR-CHUTE. -/

namespace Sys2Proof.Machine

section Make
variable {s : State} {e : Edge} {older younger : List Parcel} {p : Parcel}

theorem exec_takeMake_of_taken (hs : s.powered = true) (hh : s.outfeed.holding = some e) (hk : e.kind = .make)
    (he : s.outfeed.edges = []) :
    exec .takeMake s = .next (State.makeTaken { s with outfeed := { s.outfeed with holding := none } } e) := by
  rw [exec_takeMake hs, ← hk, State.takeHeld_of_one (Outfeed.takable_of_make hh hk) he, State.takeEdge_of_make hk he]
  simp only [State.setOutfeed, ← he]

/-- A MAKE whose parcel has no record on the belt sets the gap memory (R167). -/
theorem State.makeTaken_of_gone {x : OpenParcel} (ho : s.outfeed.openParcel = some x)
    (h : x.tag.bind s.queue.beltRecord = none) : s.makeTaken e = { s with
      outfeed := { s.outfeed with gap := some ⟨e.pos, x.tag⟩, openParcel := none } } := by
  rw [State.makeTaken, ho]
  dsimp only
  rw [h]
  rfl

theorem State.makeTaken_of_belt {x : OpenParcel} (ho : s.outfeed.openParcel = some x) (htag : x.tag = some p.tag)
    (h : s.queue.beltRecord p.tag = some p) : s.makeTaken e = (s.measureBelt p x.pos e.pos).setOutfeed
      { (s.measureBelt p x.pos e.pos).outfeed with gap := some ⟨e.pos, some p.tag⟩, openParcel := none } := by
  rw [State.makeTaken, ho]
  dsimp only
  rw [htag, Option.bind_some, h]

theorem lengthOff_mm (tolerance len h w l : Nat) (clamped : Bool) : lengthOff tolerance len (some (.mm h w l clamped)) =
    decide ((h + tolerance < len ∨ len + tolerance < h) ∧ (w + tolerance < len ∨ len + tolerance < w) ∧
      (l + tolerance < len ∨ len + tolerance < l)) := by
  simp only [lengthOff, Bool.decide_and, Bool.decide_or, Bool.and_assoc]

/-- The record measured (R167). -/
def Parcel.measured (p : Parcel) (len : Nat) (bad : Bool) : Parcel :=
  { p with length := some len, marks := if bad then some { p.marked with lengthMismatch := true } else p.marks }

/-- The outfeed once a record's length is measured: one that is off diverts the record (R166, R167). -/
def Outfeed.measured (o : Outfeed) (tag : Nat) (bad : Bool) : Outfeed :=
  { o with
    actions := o.actions.map (fun a => if bad && a.setsFor tag then { a with kind := .setChute 0 } else a)
    chute := if bad = true ∧ o.actions.any (fun a => a.setsFor tag) = false ∧ o.owner = some tag then 0 else o.chute }

theorem Outfeed.measured_false (o : Outfeed) (tag : Nat) : o.measured tag false = o := by
  simp [Outfeed.measured]

theorem State.Holds.lengthMarked {len : Nat} (h : s.Holds older (p.measured len false) younger) (bad : Bool) :
    (if bad then s.markAndDivert p.tag (fun m => { m with lengthMismatch := true }) else s) = { s with
      queue := { s.queue with parcels := older ++ p.measured len bad :: younger }
      outfeed := s.outfeed.measured p.tag bad } := by
  cases bad with
  | true =>
    refine (if_pos rfl).trans ((h.markAndDivert (fun m => { m with lengthMismatch := true })).trans ?_)
    simp only [Outfeed.measured, Bool.true_and, true_and]
    rfl
  | false =>
    rw [Outfeed.measured_false, ← h.1]
    rfl

/-- Steps 1 and 2 of a MAKE, its CLEAR-CHUTE not yet reached (R167). -/
theorem State.Holds.measureBelt (h : s.Holds older p younger) {p0 p1 : Count}
    (hclear : 32768 ≤ (s.outfeed.encoder - (p1 + offset s.loader.gate + offset s.loader.trail)).toNat) {bad : Bool}
    (hbad : lengthOff s.loader.lengthTolerance (outfeedLength s.loader p0 p1) p.dims = bad) :
    s.measureBelt p p0 p1 = { s with
      queue := { s.queue with parcels := older ++ p.measured (outfeedLength s.loader p0 p1) bad :: younger }
      outfeed := { s.outfeed.measured p.tag bad with
        actions := if s.outfeed.actions.length < 8 ∧ s.outfeed.pendingClear = [] then
            (s.outfeed.measured p.tag bad).actions ++
              [⟨p1 + offset s.loader.gate + offset s.loader.trail, .clearChute, p.tag⟩]
          else (s.outfeed.measured p.tag bad).actions
        pendingClear := if s.outfeed.actions.length < 8 ∧ s.outfeed.pendingClear = [] then s.outfeed.pendingClear
          else s.outfeed.pendingClear ++ [(p.tag, p1 + offset s.loader.gate + offset s.loader.trail)] } } := by
  let len := outfeedLength s.loader p0 p1
  let s1 : State := { s with queue := { s.queue with parcels := older ++ p.measured len false :: younger } }
  have h1 : s1.Holds older (p.measured len false) younger := ⟨rfl, h.2⟩
  let s2 : State := { s with
    queue := { s.queue with parcels := older ++ p.measured len bad :: younger }
    outfeed := s.outfeed.measured p.tag bad }
  have hfirst : s.updateParcel p.tag (fun p => { p with length := some len }) = s1 := by
    rw [State.updateParcel, h.update]
    rfl
  have hsecond : (if lengthOff s.loader.lengthTolerance len p.dims then
      s1.markAndDivert p.tag (fun m => { m with lengthMismatch := true }) else s1) = s2 := by
    rw [hbad]
    exact h1.lengthMarked bad
  have hlen : s2.outfeed.actions.length = s.outfeed.actions.length := List.length_map _
  rw [State.measureBelt]
  dsimp only
  rw [hfirst, hsecond]
  by_cases hroom : s.outfeed.actions.length < 8 ∧ s.outfeed.pendingClear = []
  · rw [if_pos (by rw [hlen]; exact hroom), if_pos hroom, if_pos hroom, State.makeAction_of_ahead (by exact hclear),
      State.freed_of_none (by exact hroom.2)]
    rfl
  · rw [if_neg (by rw [hlen]; exact hroom), if_neg hroom, if_neg hroom]
    rfl

end Make

/-- Settles O50: by the parcel open and its record. -/
theorem takeMakeMeasures : Obligations.TakeMakeMeasures := by
  intro s e hs hh hk he
  have hexec := exec_takeMake_of_taken hs hh hk he
  refine ⟨fun ho => ?_, fun x ho hgone => ?_, ?_⟩
  · rw [hexec, State.makeTaken_of_orphan (by exact ho)]
  · have hnone : x.tag.bind s.queue.beltRecord = none := by
      cases hx : x.tag with
      | none => rfl
      | some tag => exact ParcelQueue.beltRecord_eq_none fun q hq hqtag => hgone q hq (hx.trans (congrArg some hqtag.symm))
    rw [hexec, State.makeTaken_of_gone (by exact ho) (by exact hnone)]
  · intro x older p younger h w l clamped ho htag hheld hst hdims len far bad inTable actions clear hclear
    have hbad : lengthOff s.loader.lengthTolerance (outfeedLength s.loader x.pos e.pos) p.dims = bad := by
      rw [hdims]
      exact lengthOff_mm _ _ _ _ _ _
    rw [hexec, State.makeTaken_of_belt (by exact ho) htag (by exact hheld.beltRecord hst),
      State.Holds.measureBelt (by exact hheld) (by exact hclear) (by exact hbad)]
    rfl

end Sys2Proof.Machine
end


section
/-! ENCODER_PULSE (R160, R168 to R171): the entries reached are carried out one after another. -/

namespace Sys2Proof.Machine

/-! ### The action table under an entry carried out -/

section Table
variable {s : State} {a : Action}

/-- The pending CLEARs stand, and no entry is new. -/
structure Outfeed.Keeps (o o' : Outfeed) : Prop where
  pending : o'.pendingClear = o.pendingClear
  actions : (o'.actions.map Action.pos).Sublist (o.actions.map Action.pos)

theorem Outfeed.Keeps.of_eq {o o' : Outfeed} (hp : o'.pendingClear = o.pendingClear) (ha : o'.actions = o.actions) :
    o.Keeps o' := ⟨hp, ha ▸ .refl _⟩

theorem Outfeed.Keeps.trans {a b c : Outfeed} (h : a.Keeps b) (h' : b.Keeps c) : a.Keeps c :=
  ⟨h'.pending.trans h.pending, h'.actions.trans h.actions⟩

theorem Outfeed.Keeps.length {o o' : Outfeed} (h : o.Keeps o') : o'.actions.length ≤ o.actions.length := by
  simpa using h.actions.length_le

theorem Outfeed.Keeps.ahead {o o' : Outfeed} {now : Count} (h : o.Keeps o')
    (ho : ∀ a ∈ o.actions, 32768 ≤ (now - a.pos).toNat) : ∀ a ∈ o'.actions, 32768 ≤ (now - a.pos).toNat := by
  intro a ha
  obtain ⟨b, hb, hpos⟩ := List.mem_map.1 (h.actions.subset (List.mem_map_of_mem (f := Action.pos) ha))
  rw [← hpos]
  exact ho b hb

theorem Outfeed.divert_keeps (o : Outfeed) (tag : Nat) : o.Keeps (o.divert tag) := by
  rw [Outfeed.divert_eq]
  refine ⟨rfl, ?_⟩
  have hpos : (fun a : Action => (if a.setsFor tag then { a with kind := .setChute 0 } else a).pos) = Action.pos := by
    funext a
    split <;> rfl
  rw [List.map_map]
  exact (congrArg (o.actions.map ·) hpos) ▸ .refl _

theorem Outfeed.dropActions_keeps (o : Outfeed) (tag : Nat) : o.Keeps (o.dropActions tag) :=
  ⟨rfl, List.filter_sublist.map _⟩

theorem State.carry_keeps (s : State) (a : Action) : s.outfeed.Keeps (s.carry a).outfeed := by
  have hlate : s.outfeed.Keeps
      ((s.markAndDivert a.tag (fun m => { m with labelLate := true })).leavePrintOrder a.tag).outfeed :=
    s.outfeed.divert_keeps a.tag
  unfold State.carry
  split
  · unfold State.carryApply
    split
    · split
      · have h := (State.slotEmptied_prints (s.setOutfeed { s.outfeed with strobes := s.outfeed.strobes + 1 })).outfeed
        exact .of_eq ((congrArg Outfeed.pendingClear h).trans rfl) ((congrArg Outfeed.actions h).trans rfl)
      · exact hlate
    · exact hlate
  · exact .of_eq rfl rfl
  · have hclear : s.outfeed.Keeps (s.outfeed.carryClear a.tag) := by
      unfold Outfeed.carryClear
      split <;> exact .of_eq rfl rfl
    have hdrop := hclear.trans (Outfeed.dropActions_keeps _ a.tag)
    unfold State.carryClear
    dsimp only
    split
    · rw [State.endOnBelt_outfeed]
      split <;> exact hdrop
    · split <;> exact hdrop

theorem State.freed_sensed (s : State) : s.freed.outfeed.sensed = s.outfeed.sensed := State.fillClears_sensed _ _

theorem State.runActions_sensed (n : Nat) (s : State) : (State.runActions n s).outfeed.sensed = s.outfeed.sensed := by
  induction n generalizing s with
  | zero => rfl
  | succ n ih =>
    unfold State.runActions
    split
    · exact (ih _).trans ((State.freed_sensed _).trans (State.carry_sensed _ _))
    · rfl

theorem Outfeed.dueAction_eq_none {o : Outfeed} (h : ∀ a ∈ o.actions, 32768 ≤ (o.encoder - a.pos).toNat) :
    o.dueAction = none := by
  rw [Outfeed.dueAction, List.find?_eq_none]
  intro a ha
  simp [reached_eq_false_iff.2 (h a ha)]

/-- The first entry reached, and the table without it. -/
theorem Outfeed.dueAction_of_first {o : Outfeed} {before after : List Action} (h : o.actions = before ++ a :: after)
    (ha : (o.encoder - a.pos).toNat < 32768) (hb : ∀ b ∈ before, 32768 ≤ (o.encoder - b.pos).toNat) :
    o.dueAction = some a ∧ o.actions.erase a = before ++ after := by
  have hnone : before.find? (fun b => reached o.encoder b.pos) = none := by
    rw [List.find?_eq_none]
    intro b hmem
    simp [reached_eq_false_iff.2 (hb b hmem)]
  have hnew : a ∉ before := fun hmem => absurd (hb a hmem) (Nat.not_le.2 ha)
  constructor
  · rw [Outfeed.dueAction, h, List.find?_append, hnone, Option.none_or]
    exact List.find?_cons_of_pos (reached_iff.2 ha)
  · rw [h, List.erase_append_right _ hnew, List.erase_cons_head]

theorem State.runActions_of_none (n : Nat) (h : s.outfeed.dueAction = none) : State.runActions n s = s := by
  cases n with
  | zero => rfl
  | succ n => rw [State.runActions, h]

/-- With no CLEAR pending, the entries reached are carried out whatever fuel lies beyond the table's length. -/
theorem State.runActions_of_fuel (n : Nat) (hp : s.outfeed.pendingClear = []) (hn : s.outfeed.actions.length ≤ n) :
    State.runActions n s = State.runActions s.outfeed.actions.length s := by
  induction n using Nat.strong_induction_on generalizing s with
  | _ n ih =>
    cases hdue : s.outfeed.dueAction with
    | none => rw [State.runActions_of_none _ hdue, State.runActions_of_none _ hdue]
    | some a =>
      have hmem : a ∈ s.outfeed.actions := List.mem_of_find?_eq_some hdue
      have herase := List.length_erase_of_mem hmem
      have hpos := List.length_pos_of_mem hmem
      obtain ⟨k, hk⟩ : ∃ k, s.outfeed.actions.length = k + 1 := ⟨s.outfeed.actions.length - 1, by omega⟩
      obtain ⟨m, rfl⟩ : ∃ m, n = m + 1 := ⟨n - 1, by omega⟩
      have hkeeps := (s.setOutfeed { s.outfeed with actions := s.outfeed.actions.erase a }).carry_keeps a
      have hnone := hkeeps.pending.trans hp
      have hlen : _ ≤ (s.outfeed.actions.erase a).length := hkeeps.length
      rw [hk, State.runActions, State.runActions, hdue]
      dsimp only
      rw [State.freed_of_none hnone, ih m (by omega) hnone (by omega), ih k (by omega) hnone (by omega)]

end Table

/-! ### A pulse -/

section Pulse
variable {s : State} {a : Action} {before after : List Action}

theorem exec_encoderPulse (hs : s.powered = true) (hh : s.outfeed.holding = none) : exec .encoderPulse s =
    .next (State.runActions (s.outfeed.actions.length + s.outfeed.pendingClear.length)
      { s with outfeed := { s.outfeed with encoder := s.outfeed.encoder + 1 } }) := by
  refine next_event hs ((State.track_of_untakable (Outfeed.takable_of_free ?_)).trans rfl)
  exact (Outfeed.holding_of_sensed (State.runActions_sensed _ _)).trans hh

/-- The state at a pulse with an entry taken out of the table, and that entry carried out (R168). -/
def State.pulsed (s : State) (a : Action) (others : List Action) : State :=
  State.carry { s with outfeed := { s.outfeed with encoder := s.outfeed.encoder + 1, actions := others } } a

theorem State.pulsed_encoder (s : State) (a : Action) (others : List Action) :
    (s.pulsed a others).outfeed.encoder = s.outfeed.encoder + 1 :=
  Outfeed.encoder_of_sensed (State.carry_sensed _ _)

/-- A pulse carries out the first entry reached, and goes on with the others (R168). -/
theorem exec_encoderPulse_of_first (hs : s.powered = true) (hh : s.outfeed.holding = none)
    (hp : s.outfeed.pendingClear = []) (hacts : s.outfeed.actions = before ++ a :: after)
    (ha : (s.outfeed.encoder + 1 - a.pos).toNat < 32768)
    (hb : ∀ b ∈ before, 32768 ≤ (s.outfeed.encoder + 1 - b.pos).toNat) :
    exec .encoderPulse s = .next (State.runActions (s.pulsed a (before ++ after)).outfeed.actions.length
      (s.pulsed a (before ++ after))) := by
  have hkeeps := State.carry_keeps { s with
    outfeed := { s.outfeed with encoder := s.outfeed.encoder + 1, actions := before ++ after } } a
  have hnone : (s.pulsed a (before ++ after)).outfeed.pendingClear = [] := hkeeps.pending.trans hp
  have hlen : (s.pulsed a (before ++ after)).outfeed.actions.length ≤ (before ++ after).length := hkeeps.length
  obtain ⟨hdue, herase⟩ := Outfeed.dueAction_of_first (o := { s.outfeed with encoder := s.outfeed.encoder + 1 }) hacts ha hb
  have hfuel : s.outfeed.actions.length + s.outfeed.pendingClear.length = (before ++ after).length + 1 := by
    rw [hacts, hp]
    simp only [List.length_append, List.length_cons, List.length_nil]
    omega
  rw [exec_encoderPulse hs hh, hfuel, State.runActions, hdue]
  dsimp only
  rw [herase]
  change Host.Outcome.next (State.runActions _ (s.pulsed a (before ++ after)).freed) = _
  rw [State.freed_of_none hnone, State.runActions_of_fuel _ hnone hlen]

/-- A pulse that reaches one entry carries it out (R168). -/
theorem exec_encoderPulse_of_one (hs : s.powered = true) (hh : s.outfeed.holding = none)
    (hp : s.outfeed.pendingClear = []) (hacts : s.outfeed.actions = before ++ a :: after)
    (ha : (s.outfeed.encoder + 1 - a.pos).toNat < 32768)
    (ho : ∀ b ∈ before ++ after, 32768 ≤ (s.outfeed.encoder + 1 - b.pos).toNat) :
    exec .encoderPulse s = .next (s.pulsed a (before ++ after)) := by
  have hahead := (State.carry_keeps { s with
    outfeed := { s.outfeed with encoder := s.outfeed.encoder + 1, actions := before ++ after } } a).ahead ho
  rw [exec_encoderPulse_of_first hs hh hp hacts ha (fun b hb => ho b (List.mem_append_left _ hb)),
    State.runActions_of_none _ (Outfeed.dueAction_eq_none ?_)]
  rw [State.pulsed_encoder]
  exact hahead

/-- A pulse goes on from the first entry carried out as a pulse does with that one gone (R168). -/
theorem exec_encoderPulse_again (hs : s.powered = true) (hh : s.outfeed.holding = none)
    (hp : s.outfeed.pendingClear = []) (hacts : s.outfeed.actions = before ++ a :: after)
    (ha : (s.outfeed.encoder + 1 - a.pos).toNat < 32768)
    (hb : ∀ b ∈ before, 32768 ≤ (s.outfeed.encoder + 1 - b.pos).toNat) :
    exec .encoderPulse s = exec .encoderPulse { s.pulsed a (before ++ after) with
      outfeed := { (s.pulsed a (before ++ after)).outfeed with encoder := s.outfeed.encoder } } := by
  have hframe := State.carry_belts { s with
    outfeed := { s.outfeed with encoder := s.outfeed.encoder + 1, actions := before ++ after } } a
  have hkeeps := State.carry_keeps { s with
    outfeed := { s.outfeed with encoder := s.outfeed.encoder + 1, actions := before ++ after } } a
  have hnone : (s.pulsed a (before ++ after)).outfeed.pendingClear = [] := hkeeps.pending.trans hp
  have hhold : (s.pulsed a (before ++ after)).outfeed.holding = none :=
    (Outfeed.holding_of_sensed (State.carry_sensed _ _)).trans hh
  have hcount := s.pulsed_encoder a (before ++ after)
  have hpower : (s.pulsed a (before ++ after)).powered = true := hframe.powered.trans hs
  rw [exec_encoderPulse_of_first hs hh hp hacts ha hb]
  generalize s.pulsed a (before ++ after) = t at hnone hhold hcount hpower ⊢
  rw [exec_encoderPulse (by exact hpower) (by exact hhold)]
  have hfuel : t.outfeed.actions.length + t.outfeed.pendingClear.length = t.outfeed.actions.length := by rw [hnone]; rfl
  dsimp only
  rw [hfuel, ← hcount]

theorem State.fillClears_of_full (n : Nat) (h : 8 ≤ s.outfeed.actions.length) : State.fillClears n s = s := by
  cases n with
  | zero => rfl
  | succ n =>
    unfold State.fillClears
    split
    · exact if_neg (Nat.not_lt.2 h)
    · rfl

/-- One free entry lets the oldest pending CLEAR in (R167). -/
theorem State.freed_of_seven {tag : Nat} {pos : Count} {more : List (Nat × Count)}
    (hp : s.outfeed.pendingClear = (tag, pos) :: more) (hlen : s.outfeed.actions.length = 7)
    (hpos : 32768 ≤ (s.outfeed.encoder - pos).toNat) : s.freed = { s with
      outfeed := { s.outfeed with
        actions := s.outfeed.actions ++ [⟨pos, .clearChute, tag⟩], pendingClear := more } } := by
  have hroom : s.outfeed.actions.length < Config.actionLen := by
    rw [hlen]
    decide
  rw [State.freed, hp, List.length_cons, State.fillClears, hp]
  dsimp only
  rw [if_pos hroom, State.makeAction_of_ahead (by exact hpos), State.fillClears_of_full]
  · rfl
  · simp [State.setOutfeed, hlen]

end Pulse

/-! ### Entries carried out (R169 to R171) -/

section Carry
variable {s : State} {older younger : List Parcel} {p : Parcel}

/-- An APPLY whose label is in the slot fires the strobe and empties the slot (R169). -/
theorem State.carryApply_of_slotted {l : Label} (h : s.label.slot = some l) : s.carryApply l.tag =
    State.printerSettle { s with
      outfeed := { s.outfeed with strobes := s.outfeed.strobes + 1 }
      label := { s.label with slot := none, printer := .idle } } := by
  rw [State.carryApply, h]
  exact if_pos rfl

/-- An APPLY that finds another label or none makes its record late (R169). -/
theorem State.carryApply_of_unslotted {tag : Nat} (h : ∀ l, s.label.slot = some l → l.tag ≠ tag) : s.carryApply tag =
    (s.markAndDivert tag (fun m => { m with labelLate := true })).leavePrintOrder tag := by
  unfold State.carryApply
  split
  next l hl => rw [if_neg (h l hl)]
  next => rfl

theorem State.Holds.carryApply_of_unslotted (hp : s.Holds older p younger) (h : ∀ l, s.label.slot = some l → l.tag ≠ p.tag) :
    s.carryApply p.tag = { s with
      queue := { s.queue with
        parcels := older ++ { p with marks := some { p.marked with labelLate := true } } :: younger }
      outfeed := { s.outfeed with
        actions := s.outfeed.actions.map (fun a => if a.setsFor p.tag then { a with kind := .setChute 0 } else a)
        chute := if s.outfeed.actions.any (fun a => a.setsFor p.tag) = false ∧ s.outfeed.owner = some p.tag then 0
          else s.outfeed.chute }
      label := { s.label with printOrder := s.label.printOrder.filter (fun l => l.tag ≠ p.tag) } } := by
  rw [State.carryApply_of_unslotted h, hp.markAndDivert, State.leavePrintOrder]
  simp only [bne_eq_decide_ne]
  rfl

/-- A record ended by its CLEAR-CHUTE, its PARCEL-END placed (R80, R171). -/
theorem State.Holds.endOnBelt (h : s.Holds older p younger) (hroom : s.link.reports.length < 16) :
    s.endOnBelt p = State.discardLabel { s with
      queue := { s.queue with parcels := older ++ younger }
      dispatch := if p.marked.reason.isNone then s.dispatch else s.dispatch.release p
      link := { s.link with
        reports := s.link.reports ++
          [p.endReport (if p.marked.reason.isNone then .done else .rejected) p.marked.reason] } } p.tag := by
  cases hr : p.marked.reason with
  | none =>
    rw [State.endOnBelt, hr, h.endParcel, decide_eq_true hroom]
    simp only [if_true, List.append_nil]
    rfl
  | some r =>
    rw [State.endOnBelt, hr]
    exact h.rejectOnBelt hroom r

/-- The record's marks when its CLEAR-CHUTE ends it: an APPLY still in the table makes it late (R171). -/
def Parcel.atClear (p : Parcel) (late : Bool) : Parcel :=
  { p with marks := if late then some { p.marked with labelLate := true } else p.marks }

theorem Outfeed.carryClear_eq (o : Outfeed) (tag : Nat) : o.carryClear tag = { o with
    chute := if o.owner = some tag then 0 else o.chute, owner := if o.owner = some tag then none else o.owner } := by
  unfold Outfeed.carryClear
  split <;> rfl

theorem State.Holds.lateMarked (h : s.Holds older p younger) (late : Bool) :
    (if late then s.mark p.tag (fun m => { m with labelLate := true }) else s) = { s with
      queue := { s.queue with parcels := older ++ p.atClear late :: younger } } := by
  cases late with
  | true => exact (if_pos rfl).trans (h.mark (fun m => { m with labelLate := true }))
  | false =>
    refine (if_neg Bool.false_ne_true).trans ?_
    rw [show p.atClear false = p from rfl, ← h.1]

theorem State.Holds.carryClear (h : s.Holds older p younger) (hst : p.state = .onBelt)
    (hroom : s.link.reports.length < 16) {late : Bool} (hlate : s.outfeed.hasApply p.tag = late) :
    s.carryClear p.tag = State.discardLabel { s with
      queue := { s.queue with parcels := older ++ younger }
      dispatch := if (p.atClear late).marked.reason.isNone then s.dispatch else s.dispatch.release p
      outfeed := { s.outfeed with
        actions := s.outfeed.actions.filter (fun a => a.tag ≠ p.tag)
        chute := if s.outfeed.owner = some p.tag then 0 else s.outfeed.chute
        owner := if s.outfeed.owner = some p.tag then none else s.outfeed.owner }
      link := { s.link with
        reports := s.link.reports ++
          [(p.atClear late).endReport (if (p.atClear late).marked.reason.isNone then .done else .rejected)
            (p.atClear late).marked.reason] } } p.tag := by
  let o : Outfeed := { s.outfeed with
    chute := if s.outfeed.owner = some p.tag then 0 else s.outfeed.chute
    owner := if s.outfeed.owner = some p.tag then none else s.outfeed.owner }
  let s2 : State := { s with
    queue := { s.queue with parcels := older ++ p.atClear late :: younger }
    outfeed := { o with actions := o.actions.filter (fun a => a.tag ≠ p.tag) } }
  have h2 : s2.Holds older (p.atClear late) younger := ⟨rfl, h.2⟩
  have hmarked : (if (s.setOutfeed o).outfeed.hasApply p.tag then
      (s.setOutfeed o).mark p.tag (fun m => { m with labelLate := true }) else s.setOutfeed o) =
      { s with queue := { s.queue with parcels := older ++ p.atClear late :: younger }, outfeed := o } := by
    rw [show (s.setOutfeed o).outfeed.hasApply p.tag = late from hlate]
    exact State.Holds.lateMarked (s := s.setOutfeed o) h late
  have hrecord : s2.queue.beltRecord p.tag = some (p.atClear late) := h2.beltRecord hst
  rw [State.carryClear, Outfeed.carryClear_eq]
  dsimp only
  rw [hmarked]
  simp only [Outfeed.dropActions, bne_eq_decide_ne, State.setOutfeed]
  rw [hrecord]
  exact h2.endOnBelt hroom

end Carry

/-- Settles O51: the table walked entry by entry, and each kind of entry carried out. -/
theorem encoderPulseActs : Obligations.EncoderPulseActs := by
  intro s hs hh now ahead reaches carried becomes
  have hbecomes : ∀ {before after a t}, s.outfeed.pendingClear = [] → reaches before a after →
      s.pulsed a (before ++ after) = t → becomes a (before ++ after) t := fun hp hr ht =>
    ⟨ht, fun ho => (exec_encoderPulse_of_one hs hh hp hr.1 hr.2.1 ho).trans (congrArg _ ht)⟩
  refine ⟨fun hnone => ?_, ?_, fun before a after hp hr => ?_, fun before pos chute tag after hp hr => hbecomes hp hr rfl,
    ?_, ?_, ?_⟩
  · rw [exec_encoderPulse hs hh, State.runActions_of_none _ (Outfeed.dueAction_eq_none hnone)]
  · intro before pos chute tag after tag' pos' more hr ho hlen hp hpos
    obtain ⟨hacts, hreach, hbefore⟩ := hr
    let c : State := { s with
      outfeed := { s.outfeed with encoder := now, actions := before ++ after, chute := chute, owner := some tag } }
    have hseven : (before ++ after).length = 7 := by
      rw [hacts] at hlen
      simp only [List.length_append, List.length_cons] at hlen ⊢
      omega
    have hfreed := State.freed_of_seven (s := c) hp hseven hpos
    obtain ⟨hdue, herase⟩ := Outfeed.dueAction_of_first (o := { s.outfeed with encoder := now }) hacts hreach hbefore
    have hfuel : s.outfeed.actions.length + s.outfeed.pendingClear.length = more.length + 8 + 1 := by
      rw [hlen, hp, List.length_cons]
      omega
    rw [exec_encoderPulse hs hh, hfuel, State.runActions, hdue]
    dsimp only
    rw [herase]
    change Host.Outcome.next (State.runActions _ c.freed) = _
    rw [hfreed, State.runActions_of_none]
    refine Outfeed.dueAction_eq_none fun a ha => ?_
    obtain ha | ha := List.mem_append.1 ha
    · exact ho a ha
    · obtain rfl := List.mem_singleton.1 ha
      exact hpos
  · exact exec_encoderPulse_again hs hh hp hr.1 hr.2.1 hr.2.2
  · intro before pos l after hp hr hslot others ends
    have hends : ∀ label link, s.pulsed ⟨pos, .apply, l.tag⟩ others = { s with
        outfeed := { s.outfeed with encoder := now, actions := others, strobes := s.outfeed.strobes + 1 }
        label := label, link := link } → ends label link := fun label link ht => hbecomes hp hr ht
    have hcarry := State.carryApply_of_slotted (s := { s with
      outfeed := { s.outfeed with encoder := now, actions := others } }) hslot
    clear_value ends
    refine ⟨fun hline => ?_, fun hline hnone => ?_, fun l' rest hline hnext => ?_⟩
    · exact hends _ _ (hcarry.trans (State.printerSettle_of_line rfl hline))
    · exact hends _ _ (hcarry.trans (State.printerSettle_of_empty hline hnone))
    · exact hends _ _ (hcarry.trans (State.printerSettle_of_label rfl hline rfl hnext))
  · intro before pos older p younger after hp hr hslot hheld others inTable
    exact hbecomes hp hr (State.Holds.carryApply_of_unslotted (s := { s with
      outfeed := { s.outfeed with encoder := now, actions := others } }) hheld hslot)
  · intro before pos older p younger after hp hr hheld hst hroom others late marks reason order ends
    have hmarks : (p.atClear late).marked = marks := by
      simp only [Parcel.atClear, marks]
      split <;> rfl
    have hcarry := State.Holds.carryClear (s := { s with
      outfeed := { s.outfeed with encoder := now, actions := others } }) hheld hst hroom (late := late) rfl
    simp only [Parcel.endReport, hmarks] at hcarry
    have hends : ∀ label, s.pulsed ⟨pos, .clearChute, p.tag⟩ others = { s with
        queue := { s.queue with parcels := older ++ younger }
        dispatch := if reason.isNone then s.dispatch else s.dispatch.release p
        outfeed := { s.outfeed with
          encoder := now, actions := others.filter (fun a => a.tag ≠ p.tag)
          chute := if s.outfeed.owner = some p.tag then 0 else s.outfeed.chute
          owner := if s.outfeed.owner = some p.tag then none else s.outfeed.owner }
        label := label
        link := { s.link with
          reports := s.link.reports ++ [.parcelEnd p.tag (if reason.isNone then .done else .rejected) reason p.quote
            p.dispatch p.tracking p.rating.flags marks] } } → ends label := fun label ht => hbecomes hp hr ht
    clear_value ends
    refine ⟨fun hslot => hends _ (hcarry.trans (State.discardLabel_of_unslotted hslot)), fun l hl htag hline hnone => ?_⟩
    have horder : s.label.printOrder.filter (fun l => l.tag ≠ p.tag) = [] := hnone
    refine hends _ (hcarry.trans ?_)
    rw [State.discardLabel_to_idle (by exact hl) htag (by exact hline) (by exact hnone), LabelUnit.unslotted]
    dsimp only
    rw [horder]
    rfl

end Sys2Proof.Machine
end


section
/-! The encodings: the messages of the terminal link (R186) and the frames of the hall bus (R109, R110, R112) read back. -/

namespace Sys2Proof.Machine

/-! ### Numbers in bytes -/

section Bytes

theorem byteOf_toNat (b : Byte) : byteOf b.toNat = b := by
  rw [byteOf, BitVec.ofNat_toNat, BitVec.setWidth_eq]

theorem toNat_byteOf_eq_mod (n : Nat) : (byteOf n).toNat = n % 256 := BitVec.toNat_ofNat n 8

theorem spell_be16 {n : Nat} (h : n < 65536) : (byteOf (n / 256)).toNat * 256 + (byteOf n).toNat = n := by
  rw [toNat_byteOf_eq_mod, toNat_byteOf_eq_mod]
  omega

theorem spell_be24 {n : Nat} (h : n < 16777216) :
    ((byteOf (n / 65536)).toNat * 256 + (byteOf (n / 256)).toNat) * 256 + (byteOf n).toNat = n := by
  rw [toNat_byteOf_eq_mod, toNat_byteOf_eq_mod, toNat_byteOf_eq_mod]
  omega

theorem spell_be32 {n : Nat} (h : n < 4294967296) :
    ((byteOf (n / 16777216)).toNat * 256 + (byteOf (n / 65536)).toNat) * 65536 +
      ((byteOf (n / 256)).toNat * 256 + (byteOf n).toNat) = n := by
  rw [toNat_byteOf_eq_mod, toNat_byteOf_eq_mod, toNat_byteOf_eq_mod, toNat_byteOf_eq_mod]
  omega

theorem be16_spelled (a b : Byte) : be16 (a.toNat * 256 + b.toNat) = [a, b] := by
  have hb := b.isLt
  have hhigh : (a.toNat * 256 + b.toNat) / 256 = a.toNat := by omega
  have hlow : byteOf (a.toNat * 256 + b.toNat) = b := by
    apply BitVec.eq_of_toNat_eq
    rw [toNat_byteOf_eq_mod]
    omega
  rw [be16, hhigh, hlow, byteOf_toNat]

theorem ofNat_spelled {w n : Nat} {x : BitVec w} (h : n = x.toNat) : BitVec.ofNat w n = x := by
  rw [h, BitVec.ofNat_toNat, BitVec.setWidth_eq]

end Bytes

/-! ### The messages -/

section Messages
variable {answered kind : Nat} {p : List Byte}

/-- A message of a kind's own length is read as the command of that kind (R186). -/
theorem decodeMessage_message (hk : kind < 256) (hp : p.length < 256) (hm : malformed kind p.length = false) :
    decodeMessage answered (message kind p) = some (commandOf answered kind p) := by
  have hkind : (byteOf kind).toNat = kind := toNat_byteOf hk
  have hlen : (byteOf p.length).toNat = p.length := toNat_byteOf hp
  rw [message, decodeMessage, if_pos hlen.symm, hkind, hm, if_neg Bool.false_ne_true]

theorem decodeMessage_accept {postcode : List Byte} (service : Byte) (declared : BitVec 24) (h : postcode.length = 5) :
    decodeMessage answered (message 1 (postcode ++ [service] ++ be24 declared.toNat)) =
      some (.accept postcode service declared) := by
  obtain ⟨a, b, c, d, e, rfl⟩ : ∃ a b c d e, postcode = [a, b, c, d, e] := by
    match postcode, h with
    | [a, b, c, d, e], _ => exact ⟨a, b, c, d, e, rfl⟩
  rw [decodeMessage_message (by decide) (by simp [be24]) rfl]
  exact congrArg (fun x => some (Instr.accept [a, b, c, d, e] service x)) (ofNat_spelled (spell_be24 declared.isLt))

theorem decodeMessage_setClock (day : BitVec 16) (ms : BitVec 32) :
    decodeMessage answered (message 9 (be16 day.toNat ++ be32 ms.toNat)) = some (.setClock day ms) := by
  rw [decodeMessage_message (by decide) (by simp [be16, be32]) rfl]
  exact congrArg₂ (fun x y => some (Instr.setClock x y)) (ofNat_spelled (spell_be16 day.isLt))
    (ofNat_spelled (spell_be32 ms.isLt))

theorem decodeMessage_setTare (tare : BitVec 16) :
    decodeMessage answered (message 10 (be16 tare.toNat)) = some (.setTare tare) := by
  rw [decodeMessage_message (by decide) (by simp [be16]) rfl]
  exact congrArg (fun x => some (Instr.setTare x)) (ofNat_spelled (spell_be16 tare.isLt))

theorem decodeMessage_setAttention (mask : BitVec 16) (edge : Byte) :
    decodeMessage answered (message 13 (be16 mask.toNat ++ [edge])) = some (.setAttention mask edge) := by
  rw [decodeMessage_message (by decide) (by simp [be16]) rfl]
  exact congrArg (fun x => some (Instr.setAttention x edge)) (ofNat_spelled (spell_be16 mask.isLt))

theorem decodeMessage_readTariff (off : BitVec 16) (count : Byte) :
    decodeMessage answered (message 18 (be16 off.toNat ++ [count])) = some (.readTariff off count) := by
  rw [decodeMessage_message (by decide) (by simp [be16]) rfl]
  exact congrArg (fun x => some (Instr.readTariff x count)) (ofNat_spelled (spell_be16 off.isLt))

theorem decodeMessage_badCommand {kind : Byte} (hp : p.length ≤ 255) (hm : malformed kind.toNat p.length = true) :
    decodeMessage answered (kind :: byteOf p.length :: p) = some (.badCommand kind p) := by
  have hlen : p.length = (byteOf p.length).toNat := (toNat_byteOf (Nat.lt_succ_of_le hp)).symm
  rw [decodeMessage, if_pos hlen, hm, if_pos rfl]

/-- Every well-formed command is read back from its message (R186). -/
theorem decodeMessage_encodeMessage {c : Instr} {m : List Byte} (hwf : c.wf = true) (hm : encodeMessage c = some m)
    (hrestart : ∀ n, c = .restart n → n = answered) : decodeMessage answered m = some c := by
  cases c
  case accept postcode service declared =>
    obtain rfl := Option.some.inj hm
    exact decodeMessage_accept service declared (by simpa [Instr.wf] using hwf)
  case setClock day ms =>
    obtain rfl := Option.some.inj hm
    exact decodeMessage_setClock day ms
  case setTare tare =>
    obtain rfl := Option.some.inj hm
    exact decodeMessage_setTare tare
  case setAttention mask edge =>
    obtain rfl := Option.some.inj hm
    exact decodeMessage_setAttention mask edge
  case readTariff off count =>
    obtain rfl := Option.some.inj hm
    exact decodeMessage_readTariff off count
  case ackAttention payload =>
    obtain rfl := Option.some.inj hm
    have hlen : payload.length ≤ 255 := of_decide_eq_true hwf
    exact decodeMessage_message (by decide) (Nat.lt_succ_of_le hlen) rfl
  case loadChunk bytes =>
    obtain rfl := Option.some.inj hm
    have hlen : bytes.length ≤ 255 := of_decide_eq_true hwf
    exact decodeMessage_message (by decide) (Nat.lt_succ_of_le hlen) rfl
  case setNextConfig record =>
    obtain rfl := Option.some.inj hm
    have hlen : record.length = 81 := eq_of_beq hwf
    exact decodeMessage_message (by decide) (by omega) (by rw [hlen]; rfl)
  case restart n =>
    obtain rfl := Option.some.inj hm
    obtain rfl := hrestart n rfl
    exact decodeMessage_message (by decide) (by decide) rfl
  case badCommand kind payload =>
    obtain rfl := Option.some.inj hm
    obtain ⟨hlen, hbad⟩ := Bool.and_eq_true_iff.1 hwf
    exact decodeMessage_badCommand (of_decide_eq_true hlen) hbad
  case confirm | void | fetch | queryParcel | queryStation | queryDispatch | queryPeers | zero | clearFlags | loadBegin |
      loadEnd | releaseJoin | printerRetry | readConfig =>
    obtain rfl := Option.some.inj hm
    exact decodeMessage_message (by decide) (by simp) rfl
  all_goals exact absurd hm (by simp [encodeMessage])

end Messages

/-! ### The frames -/

section Frames

theorem crc16_lt (bs : List Byte) : crc16 bs < 65536 := (bs.foldl crcByte 0xFFFF#16).isLt

/-- A body followed by its CRC has a good one (R110). -/
theorem crcGood_body (body : List Byte) : crcGood (body ++ be16 (crc16 body)) = true := by
  have hlen : (body ++ be16 (crc16 body)).length - 2 = body.length := by simp [be16]
  have hhigh : (body ++ be16 (crc16 body)).getD body.length 0 = byteOf (crc16 body / 256) := by
    simp [be16]
  have hlow : (body ++ be16 (crc16 body)).getD (body.length + 1) 0 = byteOf (crc16 body) := by
    simp [be16]
  rw [crcGood, hlen, List.take_left, u16At, byteAt, byteAt, hhigh, hlow, spell_be16 (crc16_lt body)]
  exact decide_eq_true rfl

theorem Frame.parse_eq_some_iff {bs : List Byte} {f : Frame} :
    Frame.parse bs = some f ↔ Frame.fields bs = some f ∧ f.wf = true ∧ crcGood bs = true := by
  unfold Frame.parse
  cases Frame.fields bs with
  | none => simp
  | some g =>
    dsimp only
    by_cases h : (g.wf && crcGood bs) = true
    · rw [if_pos h]
      constructor
      · rintro ⟨⟩
        exact ⟨rfl, Bool.and_eq_true_iff.1 h⟩
      · exact fun hg => hg.1
    · rw [if_neg h]
      constructor
      · exact fun hg => absurd hg (by simp)
      · rintro ⟨⟨⟩, hg⟩
        exact absurd (Bool.and_eq_true_iff.2 hg) h

/-- The leading field of a station of the hall (R109). -/
theorem toNat_leading {kind sender : Nat} (hk : kind ≤ 2) (hs : 1 ≤ sender ∧ sender ≤ 32) :
    (byteOf (kind * 32 + (sender - 1))).toNat / 32 = kind ∧
      (byteOf (kind * 32 + (sender - 1))).toNat % 32 + 1 = sender := by
  rw [toNat_byteOf_eq_mod]
  omega

theorem leading_spelled {b : Byte} {kind : Nat} (h : b.toNat / 32 = kind) :
    byteOf (kind * 32 + (b.toNat % 32 + 1 - 1)) = b := by
  rw [show kind * 32 + (b.toNat % 32 + 1 - 1) = b.toNat by omega, byteOf_toNat]

theorem Frame.fields_of_give {bs : List Byte} (hk : byteAt bs 0 / 32 = 0) (hlen : bs.length = 12) :
    Frame.fields bs = some (.give (byteAt bs 0 % 32 + 1) (byteAt bs 1) (byteAt bs 2) (byteAt bs 3) (byteAt bs 4) (u16At bs 5)
      (byteAt bs 7) (u16At bs 8)) := if_pos ⟨hk, hlen⟩

theorem Frame.fields_of_ask {bs : List Byte} (hk : byteAt bs 0 / 32 = 1) (hlen : bs.length = 11) (ht : byteAt bs 1 = 0) :
    Frame.fields bs = some (.ask (byteAt bs 0 % 32 + 1) (byteAt bs 2) (byteAt bs 3) (u16At bs 4) (byteAt bs 6)
      (u16At bs 7)) :=
  (if_neg (by omega)).trans (if_pos ⟨hk, hlen, ht⟩)

theorem Frame.fields_of_presence {bs : List Byte} (hk : byteAt bs 0 / 32 = 2) (hlen : bs.length = 10)
    (ht : byteAt bs 1 = 0) (h4 : byteAt bs 4 = 1) : Frame.fields bs =
      some (.presence (byteAt bs 0 % 32 + 1) (u16At bs 2) (byteAt bs 5) (byteAt bs 6) (byteAt bs 7)) :=
  (if_neg (by omega)).trans ((if_neg (by omega)).trans (if_pos ⟨hk, hlen, ht, h4⟩))

/-- The fields in range of a frame are read back from its bytes (R109). -/
theorem Frame.fields_bytes {f : Frame} (h : f.wf = true) : Frame.fields f.bytes = some f := by
  cases f with
  | give s t a g r d sl u =>
    obtain ⟨hs1, hs2, ht1, ht2, ha, hg, hr, hd1, hd2, hsl1, hsl2, hu1, hu2⟩ := of_decide_eq_true h
    obtain ⟨hk, hsender⟩ := toNat_leading (kind := 0) (by omega) ⟨hs1, hs2⟩
    refine (Frame.fields_of_give (by exact hk) rfl).trans (congrArg some ?_)
    rw [Frame.give.injEq]
    exact ⟨hsender, toNat_byteOf (n := t) (by omega), toNat_byteOf (n := a) (by omega), toNat_byteOf (n := g) (by omega),
      toNat_byteOf (n := r) (by omega), spell_be16 (n := d) (by omega), toNat_byteOf (n := sl) (by omega),
      spell_be16 (n := u) (by omega)⟩
  | ask s a r d sl u =>
    obtain ⟨hs1, hs2, ha, hr, hd1, hd2, hsl1, hsl2, hu1, hu2⟩ := of_decide_eq_true h
    obtain ⟨hk, hsender⟩ := toNat_leading (kind := 1) (by omega) ⟨hs1, hs2⟩
    refine (Frame.fields_of_ask (by exact hk) rfl rfl).trans (congrArg some ?_)
    rw [Frame.ask.injEq]
    exact ⟨hsender, toNat_byteOf (n := a) (by omega), toNat_byteOf (n := r) (by omega), spell_be16 (n := d) (by omega),
      toNat_byteOf (n := sl) (by omega), spell_be16 (n := u) (by omega)⟩
  | presence s e j b rc =>
    obtain ⟨hs1, hs2, he, hj, hb, hrc⟩ := of_decide_eq_true h
    obtain ⟨hk, hsender⟩ := toNat_leading (kind := 2) (by omega) ⟨hs1, hs2⟩
    refine (Frame.fields_of_presence (by exact hk) rfl rfl rfl).trans (congrArg some ?_)
    rw [Frame.presence.injEq]
    exact ⟨hsender, spell_be16 (n := e) (by omega), toNat_byteOf (n := j) (by omega), toNat_byteOf (n := b) (by omega),
      toNat_byteOf (n := rc) (by omega)⟩

/-- What bytes are read as fields, by their kind (R109). -/
theorem Frame.fields_cases {bs : List Byte} {f : Frame} (h : Frame.fields bs = some f) :
    (byteAt bs 0 / 32 = 0 ∧ bs.length = 12 ∧
      f = .give (byteAt bs 0 % 32 + 1) (byteAt bs 1) (byteAt bs 2) (byteAt bs 3) (byteAt bs 4) (u16At bs 5)
        (byteAt bs 7) (u16At bs 8)) ∨
    (byteAt bs 0 / 32 = 1 ∧ bs.length = 11 ∧ byteAt bs 1 = 0 ∧
      f = .ask (byteAt bs 0 % 32 + 1) (byteAt bs 2) (byteAt bs 3) (u16At bs 4) (byteAt bs 6) (u16At bs 7)) ∨
    (byteAt bs 0 / 32 = 2 ∧ bs.length = 10 ∧ byteAt bs 1 = 0 ∧ byteAt bs 4 = 1 ∧
      f = .presence (byteAt bs 0 % 32 + 1) (u16At bs 2) (byteAt bs 5) (byteAt bs 6) (byteAt bs 7)) := by
  unfold Frame.fields at h
  dsimp only at h
  split at h
  next hk => exact .inl ⟨hk.1, hk.2, (Option.some.inj h).symm⟩
  split at h
  next hk => exact .inr (.inl ⟨hk.1, hk.2.1, hk.2.2, (Option.some.inj h).symm⟩)
  split at h
  next hk => exact .inr (.inr ⟨hk.1, hk.2.1, hk.2.2.1, hk.2.2.2, (Option.some.inj h).symm⟩)
  next => exact absurd h (by simp)

/-- Bytes whose CRC is good end in the CRC of the others (R110). -/
theorem be16_of_crcGood {body : List Byte} {a b : Byte} (h : crcGood (body ++ [a, b]) = true) :
    be16 (crc16 body) = [a, b] := by
  have hlen : (body ++ [a, b]).length - 2 = body.length := by simp
  have hhigh : (body ++ [a, b]).getD body.length 0 = a := by simp
  have hlow : (body ++ [a, b]).getD (body.length + 1) 0 = b := by simp
  rw [crcGood, hlen, List.take_left, u16At, byteAt, byteAt, hhigh, hlow] at h
  rw [of_decide_eq_true h, be16_spelled]

theorem Frame.bytes_of_body {f : Frame} {body : List Byte} {a b : Byte} (hb : f.body = body)
    (h : crcGood (body ++ [a, b]) = true) : f.bytes = body ++ [a, b] := by
  rw [Frame.bytes, hb, be16_of_crcGood h]

theorem byteOf_of_toNat {b : Byte} {n : Nat} (h : b.toNat = n) : byteOf n = b := by rw [← h, byteOf_toNat]

/-- Bytes read as a frame are its bytes (R109, R110). -/
theorem Frame.bytes_of_fields {bs : List Byte} {f : Frame} (h : Frame.fields bs = some f) (hcrc : crcGood bs = true) :
    f.bytes = bs := by
  obtain ⟨hk, hlen, rfl⟩ | ⟨hk, hlen, ht, rfl⟩ | ⟨hk, hlen, ht, h4, rfl⟩ := Frame.fields_cases h
  · obtain ⟨b0, b1, b2, b3, b4, b5, b6, b7, b8, b9, a, b, rfl⟩ : ∃ b0 b1 b2 b3 b4 b5 b6 b7 b8 b9 a b,
        bs = [b0, b1, b2, b3, b4, b5, b6, b7, b8, b9, a, b] := by
      match bs, hlen with
      | [b0, b1, b2, b3, b4, b5, b6, b7, b8, b9, a, b], _ => exact ⟨b0, b1, b2, b3, b4, b5, b6, b7, b8, b9, a, b, rfl⟩
    refine Frame.bytes_of_body (body := [b0, b1, b2, b3, b4, b5, b6, b7, b8, b9]) ?_ hcrc
    change [byteOf (0 * 32 + (b0.toNat % 32 + 1 - 1)), byteOf b1.toNat] ++ ([byteOf b2.toNat, byteOf b3.toNat, byteOf b4.toNat] ++
      be16 (b5.toNat * 256 + b6.toNat) ++ [byteOf b7.toNat] ++ be16 (b8.toNat * 256 + b9.toNat)) = _
    rw [leading_spelled (b := b0) hk, be16_spelled, be16_spelled]
    simp only [byteOf_toNat, List.cons_append, List.nil_append]
  · obtain ⟨b0, b1, b2, b3, b4, b5, b6, b7, b8, a, b, rfl⟩ : ∃ b0 b1 b2 b3 b4 b5 b6 b7 b8 a b,
        bs = [b0, b1, b2, b3, b4, b5, b6, b7, b8, a, b] := by
      match bs, hlen with
      | [b0, b1, b2, b3, b4, b5, b6, b7, b8, a, b], _ => exact ⟨b0, b1, b2, b3, b4, b5, b6, b7, b8, a, b, rfl⟩
    refine Frame.bytes_of_body (body := [b0, b1, b2, b3, b4, b5, b6, b7, b8]) ?_ hcrc
    change [byteOf (1 * 32 + (b0.toNat % 32 + 1 - 1)), byteOf 0] ++ ([byteOf b2.toNat, byteOf b3.toNat] ++
      be16 (b4.toNat * 256 + b5.toNat) ++ [byteOf b6.toNat] ++ be16 (b7.toNat * 256 + b8.toNat)) = _
    rw [leading_spelled (b := b0) hk, be16_spelled, be16_spelled, byteOf_of_toNat (b := b1) ht]
    simp only [byteOf_toNat, List.cons_append, List.nil_append]
  · obtain ⟨b0, b1, b2, b3, b4, b5, b6, b7, a, b, rfl⟩ : ∃ b0 b1 b2 b3 b4 b5 b6 b7 a b,
        bs = [b0, b1, b2, b3, b4, b5, b6, b7, a, b] := by
      match bs, hlen with
      | [b0, b1, b2, b3, b4, b5, b6, b7, a, b], _ => exact ⟨b0, b1, b2, b3, b4, b5, b6, b7, a, b, rfl⟩
    refine Frame.bytes_of_body (body := [b0, b1, b2, b3, b4, b5, b6, b7]) ?_ hcrc
    change [byteOf (2 * 32 + (b0.toNat % 32 + 1 - 1)), byteOf 0] ++ (be16 (b2.toNat * 256 + b3.toNat) ++
      [byteOf 1, byteOf b5.toNat, byteOf b6.toNat, byteOf b7.toNat]) = _
    rw [leading_spelled (b := b0) hk, be16_spelled, byteOf_of_toNat (b := b1) ht, byteOf_of_toNat (b := b4) h4]
    simp only [byteOf_toNat, List.cons_append, List.nil_append]

end Frames

/-- Settles O55: the messages by their kinds, and the frames by their fields. -/
theorem encodingsRoundTrip : Obligations.EncodingsRoundTrip := by
  refine ⟨fun c m answered hwf hm hrestart => decodeMessage_encodeMessage hwf hm hrestart, fun f hwf => ?_, fun bs f h => ?_⟩
  · exact Frame.parse_eq_some_iff.2 ⟨Frame.fields_bytes hwf, hwf, crcGood_body f.body⟩
  · obtain ⟨hfields, hwf, hcrc⟩ := Frame.parse_eq_some_iff.1 h
    exact ⟨hwf, Frame.bytes_of_fields hfields hcrc⟩

end Sys2Proof.Machine
end

section
/-! ## Power loss (R32, R178, R193)

What is left of the writes in progress when they are cut short, and the state that a loss of power leaves. -/

namespace Sys2Proof.Machine

/-- What a write cut short leaves of the two board memories: nothing of them but the bytes of the write. -/
structure State.Ceased (s : State) (image config : Memory) : Prop where
  /-- Without a write in progress the image memory is as it was. -/
  image_kept : s.store.staging ≠ .storing → image = s.store.mem
  /-- Bytes beyond the staged image are as they were. -/
  image_beyond : ∀ a, s.store.staged.length ≤ a → image.read a = s.store.mem.read a
  /-- Without a write in progress the configuration memory is as it was. -/
  config_kept : s.loader.writes = [] → config = s.loader.mem
  /-- Bytes outside the copy or the record being written are as they were. -/
  config_beyond : ∀ w rest a, s.loader.writes = w :: rest →
    a < (w.target s.label.nextCopy).1 ∨ (w.target s.label.nextCopy).1 + (w.target s.label.nextCopy).2.length ≤ a →
    config.read a = s.loader.mem.read a

/-- The image's write, cut short. -/
theorem State.ceaseStore_eq (s : State) : ∃ no image,
    s.ceaseStore = { s with freeNo := no, store := { s.store with mem := image } } ∧
    (s.store.staging ≠ .storing → image = s.store.mem) ∧
    ∀ a, s.store.staged.length ≤ a → image.read a = s.store.mem.read a := by
  cases hs : s.store.staging with
  | storing =>
    refine ⟨s.freeNo + 1, s.store.mem.writeMixed s.freeNo 0 s.store.staged, ?_, fun h => absurd rfl h, fun a ha =>
      Memory.read_writeMixed_outside _ _ 0 a _ (.inr (by omega))⟩
    rw [State.ceaseStore, hs]
    simp only [State.setStore, State.setFreeNo, hs]
  | idle => exact ⟨s.freeNo, s.store.mem, by rw [State.ceaseStore, hs], fun _ => rfl, fun _ _ => rfl⟩
  | staging => exact ⟨s.freeNo, s.store.mem, by rw [State.ceaseStore, hs], fun _ => rfl, fun _ _ => rfl⟩

/-- The configuration memory's write, cut short. -/
theorem State.ceaseConfig_eq (s : State) : ∃ no config,
    s.ceaseConfig = { s with freeNo := no, loader := { s.loader with mem := config, writes := [] } } ∧
    (s.loader.writes = [] → config = s.loader.mem) ∧
    ∀ w rest a, s.loader.writes = w :: rest →
      a < (w.target s.label.nextCopy).1 ∨ (w.target s.label.nextCopy).1 + (w.target s.label.nextCopy).2.length ≤ a →
      config.read a = s.loader.mem.read a := by
  cases hw : s.loader.writes with
  | nil =>
    refine ⟨s.freeNo, s.loader.mem, ?_, fun _ => rfl, fun w rest a h => nomatch h⟩
    rw [State.ceaseConfig, hw]
    simp [← hw]
  | cons w rest =>
    refine ⟨s.freeNo + 1, s.loader.mem.writeMixed s.freeNo (w.target s.label.nextCopy).1 (w.target s.label.nextCopy).2,
      ?_, fun h => (nomatch h), fun w' rest' a h ha => ?_⟩
    · rw [State.ceaseConfig, hw]
      rfl
    · obtain ⟨rfl, rfl⟩ := List.cons.inj h
      exact Memory.read_writeMixed_outside _ _ _ a _ ha

/-- Every write, cut short. -/
theorem State.ceaseWrites_eq (s : State) : ∃ no image config, s.Ceased image config ∧
    s.ceaseWrites = { s with
      freeNo := no, store := { s.store with mem := image }
      loader := { s.loader with mem := config, writes := [] } } := by
  obtain ⟨no, image, himage, hkept, hbeyond⟩ := s.ceaseStore_eq
  obtain ⟨no', config, hconfig, hkept', hbeyond'⟩ := s.ceaseStore.ceaseConfig_eq
  rw [himage] at hconfig hkept' hbeyond'
  refine ⟨no', image, config, ⟨hkept, hbeyond, hkept', hbeyond'⟩, ?_⟩
  rw [State.ceaseWrites, himage, hconfig]

/-- Settles O7: the two writes in progress are cut short and the part stops, and neither touches another field. -/
theorem powerLossCutsWritesShort : Obligations.PowerLossCutsWritesShort := by
  unfold Obligations.PowerLossCutsWritesShort
  intro s hs
  obtain ⟨no, image, config, hceased, heq⟩ := s.ceaseWrites_eq
  refine ⟨s.ceaseWrites.setPowered false, congrArg Host.Outcome.next (State.event_of_powered hs), rfl, ?_⟩
  rw [heq]
  refine ⟨fun h => ?_, fun h => ?_, hceased.image_beyond, hceased.config_beyond, rfl⟩
  · simp only [State.setPowered, hceased.image_kept h]
  · simp only [State.setPowered, hceased.config_kept h, ← h]

end Sys2Proof.Machine
end

section
/-! ## The starts (R126, R190, R194)

A power-on and a restart end alike: the printer settles, the scanner starts, and the bus takes its state. -/

namespace Sys2Proof.Machine

/-! ### The link's two rises -/

theorem BitVec.or_twoPow_of_bit (l e : BitVec 8) (i : Nat) :
    (if e.getLsbD i then l ||| BitVec.twoPow 8 i else l) = l ||| (e &&& BitVec.twoPow 8 i) := by
  rw [BitVec.and_twoPow]
  split
  · rfl
  · exact (BitVec.or_zero (x := l)).symm

/-- A rise of a source that makes events, with room for its STATION-EVENT (R188, R189). -/
theorem Link.rise_of_room {l : Link} {src : Source} {clock : Option ClockTime} {bus : BusState}
    (h : src.makesEvent = true) (hn : 1 ≤ src.number) (hr : l.reports.length < 16) :
    l.rise src clock bus = { l with
      reports := l.reports ++ [.event src clock (if src = .busState then some bus else none)]
      latch := l.latch ||| (l.edge &&& BitVec.twoPow 8 (src.number - 1)) } := by
  rw [Link.rise_of_makesEvent h, Link.latchRise_eq hn, BitVec.or_twoPow_of_bit, Link.putEvent_of_room (by exact hr)]

/-- What a start raises: a fault line found asserted, then a change of bus state (log entry 13). -/
def Link.startRises (k : Link) (line moved : Bool) (clock : Option ClockTime) (st : BusState) : Link :=
  { k with
    reports := (if line then [.event .printerFault clock none] else []) ++
      (if moved then [.event .busState clock (some st)] else [])
    latch := (if line then k.edge &&& 1 else 0) ||| (if moved then k.edge &&& 2 else 0) }

theorem Link.startRises_eq {k : Link} (hr : k.reports = []) (hl : k.latch = 0) (line moved : Bool)
    (clock : Option ClockTime) (st st' : BusState) :
    (let k1 := if line then k.rise .printerFault clock st' else k
     if moved then k1.rise .busState clock st else k1) = k.startRises line moved clock st := by
  have hfault : k.rise .printerFault clock st' = k.startRises true false clock st := by
    rw [Link.rise_of_room rfl (by decide) (by rw [hr]; decide), hr, hl, BitVec.or_comm]
    rfl
  cases line with
  | true =>
    cases moved with
    | true =>
      dsimp only
      rw [if_pos rfl, if_pos rfl, hfault, Link.rise_of_room (l := k.startRises true false clock st) (src := .busState) rfl
        (by decide) (show 1 < 16 by decide)]
      simp [Link.startRises, Source.number, show BitVec.twoPow 8 1 = 2#8 from rfl]
    | false => exact hfault
  | false =>
    cases moved with
    | true =>
      dsimp only
      rw [if_pos rfl, if_neg Bool.false_ne_true, Link.rise_of_room rfl (by decide) (by rw [hr]; decide), hr, hl]
      rfl
    | false =>
      have hk : k = { k with reports := [], latch := 0 } := by rw [← hr, ← hl]
      exact hk.trans (by simp [Link.startRises])

/-! ### Printer, scanner and bus -/

section Started
variable {s : State}

theorem State.printerSettle_of_unsent (hp : s.label.printer = .idle) (ho : s.label.printOrder = []) :
    s.printerSettle = { s with
      label := { s.label with printer := if s.label.faultLine then .fault else .idle }
      link := if s.label.faultLine then s.link.rise .printerFault s.dispatch.clock s.bus.state else s.link } := by
  cases hl : s.label.faultLine with
  | true => rw [State.printerSettle_of_line hp hl]; rfl
  | false => rw [State.printerSettle_of_empty hl ho]; simp [← hp]

theorem Loader.startBus_eq (l : Loader) :
    l.startBus = if l.station = .running ∧ l.busEnabled = true then .listen else .off := by
  unfold Loader.startBus
  cases l.station <;> simp

theorem BusController.enter_start {b : BusController} {l : Loader} {now : Nat} :
    (b.enter l now l.startBus).waits none now = { b with
      state := l.startBus, waitFrom := none, gatherDue := none, presenceDue := none, activeDue := none, quietDue := none
      listenDue := if l.startBus = .listen then some (now + l.presenceInterval) else none } := by
  rw [Loader.startBus_eq]
  split <;> simp [BusController.enter, BusController.leave, BusController.waits, BusController.offers]

/-- How a start ends, the printer at rest, nothing reported and BUS-STATE false before (R3, R126, R194, R195). -/
theorem State.started_eq (hp : s.label.printer = .idle) (ho : s.label.printOrder = []) (hr : s.link.reports = [])
    (hl : s.link.latch = 0) (hc : s.bus.changed = false) :
    s.printerSettle.startScanner.startBus = { s with
      label := { s.label with printer := if s.label.faultLine then .fault else .idle }
      plate := if s.loader.station = .running then { s.plate with
          running := true, cur := 0, converting := (s.loader.scanned 0).isSome
          stepDue := s.timer.ms * 1000 + s.timer.us + s.loader.scanStepUs }
        else s.plate
      bus := { s.bus with
        state := s.loader.startBus, waitFrom := none, gatherDue := none, presenceDue := none, activeDue := none
        quietDue := none, changed := s.bus.state != s.loader.startBus
        listenDue := if s.loader.startBus = .listen then some (s.timer.ms + s.loader.presenceInterval) else none }
      link := s.link.startRises s.label.faultLine (s.bus.state != s.loader.startBus) s.dispatch.clock s.loader.startBus } := by
  rw [← Link.startRises_eq hr hl _ _ _ _ s.bus.state, State.printerSettle_of_unsent hp ho]
  have hscan : ∀ u : State, u.startScanner = { u with
      plate := if u.loader.station = .running then { u.plate with
          running := true, cur := 0, converting := (u.loader.scanned 0).isSome
          stepDue := u.timer.ms * 1000 + u.timer.us + u.loader.scanStepUs }
        else u.plate } := by
    intro u
    unfold State.startScanner
    split
    next h => rw [if_pos h]; rfl
    next h => rw [if_neg (by rw [h]; decide)]
  rw [hscan, State.startBus]
  dsimp only
  by_cases hst : s.bus.state = s.loader.startBus
  · rw [if_pos hst, State.enterBus_eq]
    dsimp only
    rw [BusController.enter_start, bne_eq_false_iff_eq.2 hst, if_neg Bool.false_ne_true, ← hc]
  · rw [if_neg hst, State.changeBus_eq]
    dsimp only
    rw [BusController.enter_start, bne_iff_ne.2 hst, if_pos rfl, State.risen, hc, if_neg Bool.false_ne_true]

end Started

end Sys2Proof.Machine
end

section
/-! ## Power-on (R194) -/

namespace Sys2Proof.Machine

section PowerOnValues
variable {s : State} {n : Nat} {a b r : Bool} {beam : Beam} {line : Bool}

theorem Link.startSettings_eq (k : Link) (l : Loader) : k.startSettings l = { k with
    mask := if l.station = .running then l.defaultMask else 0
    edge := if l.station = .running then l.defaultEdge else 0
    latch := 0 } := by
  unfold Link.startSettings
  cases l.station <;> rfl

/-- The configuration record as POWER_ON reads it, of the memory that the part held (R192, R193). -/
def State.recordRead (s : State) (n : Nat) : Loader :=
  let bytes := s.loader.mem.readBytes 0 (min n 81)
  { station := if (recordFault bytes).isNone then .running else .configFault
    fault := recordFault bytes, active := bytes, startNo := s.loader.startNo + 1, next := some bytes
    mem := s.loader.mem, writes := [] }

/-- The state that a POWER_ON brings, block by block, before printer, scanner and bus start. -/
theorem State.loaded_eq : s.loaded n a b r beam line = { State.reset with
    pending := s.pending, powered := true, freeNo := s.freeNo, loader := s.recordRead n
    plate := { Plate.powerOn with lo := -((s.recordRead n).halfWidth : Int) }
    store := ImageStore.load { State.reset.store with mem := s.store.mem } r
    outfeed := { Outfeed.powerOn with beam := beam }
    label := { LabelUnit.powerOn with
      cellA := if a then cellOf (s.loader.mem.readBytes 128 7) else none
      cellB := if b then cellOf (s.loader.mem.readBytes 136 7) else none
      faultLine := line }
    link := Link.powerOn.startSettings (s.recordRead n) } := rfl

/-- The state that a POWER_ON brings (R194). -/
theorem State.powerOn_values : s.powerOn n a b r beam line =
    (let l := s.recordRead n
     let k := Link.powerOn.startSettings l
     { s.loaded n a b r beam line with
      label := { (s.loaded n a b r beam line).label with printer := if line then .fault else .idle }
      plate := if l.station = .running then { Plate.powerOn with
          running := true, cur := 0, converting := (l.scanned 0).isSome, stepDue := l.scanStepUs
          lo := -(l.halfWidth : Int) }
        else { Plate.powerOn with lo := -(l.halfWidth : Int) }
      bus := { BusController.powerOn with
        state := l.startBus, changed := BusState.off != l.startBus
        listenDue := if l.startBus = .listen then some l.presenceInterval else none }
      link := k.startRises line (BusState.off != l.startBus) none l.startBus }) := by
  have hlink : (s.loaded n a b r beam line).link.reports = [] ∧ (s.loaded n a b r beam line).link.latch = 0 := by
    rw [State.loaded_eq]
    dsimp only
    rw [Link.startSettings_eq]
    exact ⟨rfl, rfl⟩
  rw [State.powerOn_eq, State.started_eq rfl rfl hlink.1 hlink.2 rfl, State.loaded_eq]
  simp only [State.reset, Nat.zero_mul, Nat.zero_add, BusController.powerOn, LabelUnit.powerOn]

theorem exec_powerOn (h : s.powered = false) :
    exec (.powerOn n a b r beam line) s = .next (s.powerOn n a b r beam line) :=
  congrArg Host.Outcome.next (if_neg (by rw [h]; exact Bool.false_ne_true))

/-- The image that POWER_ON reads, and its fault (R26). -/
theorem State.powerOn_image : (s.powerOn n a b r beam line).store =
    ImageStore.load { State.reset.store with mem := s.store.mem } r := by
  rw [State.powerOn_store]
  rfl

theorem ImageStore.load_true (t : ImageStore) :
    (t.load true).fault = imageFault (t.mem.readBytes 0 Config.imageLen) ∧
      (t.load true).image = if (imageFault (t.mem.readBytes 0 Config.imageLen)).isNone then
        some (t.mem.readBytes 0 Config.imageLen) else none := by
  unfold ImageStore.load
  simp only [if_true]
  generalize t.mem.readBytes 0 Config.imageLen = g
  generalize imageFault g = f
  cases f <;> exact ⟨rfl, rfl⟩

theorem ImageStore.load_staging (t : ImageStore) (read : Bool) :
    (t.load read).staging = t.staging ∧ (t.load read).staged = t.staged := by
  unfold ImageStore.load
  cases read
  · exact ⟨rfl, rfl⟩
  · simp only [if_true]
    generalize imageFault _ = f
    cases f <;> exact ⟨rfl, rfl⟩

end PowerOnValues

/-- Settles O4, block by block. -/
theorem powerOnRunning : Obligations.PowerOnRunning := by
  unfold Obligations.PowerOnRunning
  intro s n a b r beam line hp hrec
  refine ⟨_, exec_powerOn hp, ?_⟩
  have hrun : (s.recordRead n).station = .running := by rw [State.recordRead, hrec]; rfl
  have hstart : (s.recordRead n).startBus = if (s.recordRead n).busEnabled = true then .listen else .off := by
    rw [Loader.startBus_eq, hrun]
    simp
  have hl : s.recordRead n = {
      station := .running, fault := none, active := s.loader.mem.readBytes 0 (min n 81)
      startNo := s.loader.startNo + 1, next := some (s.loader.mem.readBytes 0 (min n 81)), mem := s.loader.mem
      writes := [] } := by
    rw [State.recordRead, hrec]
    rfl
  have hstore : (s.powerOn n a b r beam line).store = _ := State.powerOn_image
  have hmem : (s.powerOn n a b r beam line).store.mem = s.store.mem := by rw [hstore, ImageStore.load_mem]
  have hstaging := ImageStore.load_staging { State.reset.store with mem := s.store.mem } r
  rw [← hstore] at hstaging
  obtain ⟨hs1, hs2⟩ := hstaging
  generalize ht : s.powerOn n a b r beam line = t at *
  rw [State.powerOn_values, State.loaded_eq] at ht
  have hloader : t.loader = s.recordRead n := by rw [← ht]
  rw [hloader]
  refine ⟨by rw [← ht], by rw [← ht], hl, ?_, by rw [← ht]; rfl, by rw [← ht]; rfl, by rw [← ht], by rw [← ht],
    by rw [← ht], by rw [← ht], ?_, by rw [← ht], hmem, hs1, hs2, by rw [← ht]; rfl, ?_⟩
  · rw [← ht]
    exact if_pos hrun
  · rw [← ht]
    dsimp only
    rw [hstart]
    cases (s.recordRead n).busEnabled <;> rfl
  · rw [← ht]
    dsimp only
    rw [hstart, Link.startSettings_eq, hrun]
    cases (s.recordRead n).busEnabled <;> rfl

/-- Settles O5: the record that fails, and the image's two outcomes. -/
theorem powerOnFaultAndImage : Obligations.PowerOnFaultAndImage := by
  unfold Obligations.PowerOnFaultAndImage
  intro s n a b beam line hp
  refine ⟨fun f r hrec => ⟨_, exec_powerOn hp, ?_⟩, ⟨_, exec_powerOn hp, ?_⟩, _, exec_powerOn hp, ?_⟩
  · have hmem : (s.powerOn n a b r beam line).store.mem = s.store.mem := by
      rw [State.powerOn_image, ImageStore.load_mem]
    have hfault : (s.recordRead n).station = .configFault := by rw [State.recordRead, hrec]; rfl
    have hstart : (s.recordRead n).startBus = .off := by rw [Loader.startBus, hfault]
    have hne : ¬(s.recordRead n).station = .running := by rw [hfault]; decide
    generalize ht : s.powerOn n a b r beam line = t at *
    rw [State.powerOn_values, State.loaded_eq] at ht
    dsimp only at ht
    rw [if_neg hne, hstart, Link.startSettings_eq, if_neg hne, if_neg hne] at ht
    subst ht
    refine ⟨rfl, hfault, hrec, rfl, rfl, rfl, rfl, rfl, rfl, ?_, rfl, rfl, hmem⟩
    cases line <;> rfl
  · rw [State.powerOn_image]
    exact ⟨rfl, rfl, rfl, rfl⟩
  · rw [State.powerOn_image]
    obtain ⟨hf, hi⟩ := ImageStore.load_true { State.reset.store with mem := s.store.mem }
    exact ⟨ImageStore.load_mem _ _, hf, hi⟩

end Sys2Proof.Machine
end

section
/-! ## Restart (R85, R107, R126, R185, R195) -/

namespace Sys2Proof.Machine

/-! ### Every record's booking released -/

/-- The loads of the records that hold a booking on a dispatch of a route. -/
def heldLoads (ps : List Parcel) (route : Nat) (b : Booked) : Nat :=
  ((ps.filter (fun p => p.holds && p.route == route && p.dispatch == some b)).map (fun p => p.rating.load.getD 0)).sum

theorem heldLoads_cons (p : Parcel) (ps : List Parcel) (route : Nat) (b : Booked) :
    heldLoads (p :: ps) route b =
      (if p.holds && p.route == route && p.dispatch == some b then p.rating.load.getD 0 else 0) + heldLoads ps route b := by
  rw [heldLoads, List.filter_cons]
  split
  · rfl
  · rw [Nat.zero_add, heldLoads]

/-- The table without the bookings of records. -/
def DispatchTable.unbooked (d : DispatchTable) (ps : List Parcel) : DispatchTable :=
  { d with
    rings := d.rings.map (fun r => { r with
      deferred := r.deferred - heldLoads ps r.route .deferred
      entries := r.entries.map (fun e => { e with booked := e.booked - heldLoads ps r.route (.entry e.day e.slot) }) }) }

theorem DispatchTable.unbooked_nil (d : DispatchTable) : d.unbooked [] = d := by
  simp [DispatchTable.unbooked, heldLoads]

/-- The first record's booking released, then the others'. -/
theorem DispatchTable.unbooked_cons (d : DispatchTable) (p : Parcel) (ps : List Parcel) :
    (d.release p).unbooked ps = d.unbooked (p :: ps) := by
  cases hh : p.holds with
  | false => simp [DispatchTable.release_of_not_holds hh, DispatchTable.unbooked, heldLoads_cons, hh]
  | true =>
    cases hd : p.dispatch with
    | none => simp [DispatchTable.release, DispatchTable.unbooked, heldLoads_cons, hh, hd]
    | some b =>
      cases b with
      | deferred =>
        rw [DispatchTable.release_deferred hh hd, DispatchTable.updateRing]
        simp only [DispatchTable.unbooked, List.map_map, DispatchTable.mk.injEq, true_and, and_true]
        refine List.map_congr_left fun r _ => ?_
        by_cases hr : r.route = p.route
        · simp [heldLoads_cons, hh, hd, hr, Nat.sub_sub]
        · simp [heldLoads_cons, hr, Ne.symm hr]
      | entry day slot =>
        rw [DispatchTable.release_entry hh hd, DispatchTable.updateEntry_eq]
        simp only [DispatchTable.unbooked, List.map_map, DispatchTable.mk.injEq, true_and, and_true]
        refine List.map_congr_left fun r _ => ?_
        simp only [Function.comp_apply, List.map_map, Ring.mk.injEq, true_and, heldLoads_cons, hh, hd, Bool.true_and]
        refine ⟨List.map_congr_left fun e _ => ?_, by simp⟩
        by_cases hon : r.route = p.route ∧ e.day = day ∧ e.slot = slot
        · simp [hon, Nat.sub_sub]
        · have hne : ¬(p.route = r.route ∧ day = e.day ∧ slot = e.slot) := by
            rintro ⟨h1, h2, h3⟩
            exact hon ⟨h1.symm, h2.symm, h3.symm⟩
          simp [hon, hne]

theorem releaseAll_eq (ps : List Parcel) (d : DispatchTable) : releaseAll d ps = d.unbooked ps := by
  induction ps generalizing d with
  | nil => exact d.unbooked_nil.symm
  | cons p ps ih => exact (ih (d.release p)).trans (d.unbooked_cons p ps)

/-! ### The blocks emptied -/

section Restart
variable {s : State} {n : Nat}

/-- The dispatch table after a restart: no booking, and no GIVE's reservation (R107, R149). -/
def State.freshTable (s : State) : DispatchTable :=
  ({ s.dispatch with line := [], current := none }.unbooked s.queue.parcels).dropped s.bus.gives

theorem State.emptied_eq (h : s.dispatch.stranded ≤ 65535) : s.emptied = { s with
    dispatch := s.freshTable
    queue := { s.queue with parcels := [] }
    bus := { s.bus with gives := [], ask := none, presence := none, sending := none, waitFrom := none }
    share := { s.share with openAsk := none }
    peers := ⟨[], false, false⟩ } := by
  rw [State.emptied, releaseAll_eq]
  dsimp only
  rw [State.emptyQueue_eq (by exact h)]
  rfl

/-- The record read afresh by a restart. -/
def Loader.reread (l : Loader) (config : Memory) (n : Nat) : Loader :=
  { station := if (recordFault (config.readBytes 0 (min n 81))).isNone then .running else .configFault
    fault := recordFault (config.readBytes 0 (min n 81)), active := config.readBytes 0 (min n 81)
    startNo := l.startNo + 1, next := some (config.readBytes 0 (min n 81)), mem := config, writes := [] }

/-- The state of a restart before printer, scanner and bus start. -/
def State.afresh (s : State) (no : Nat) (image config : Memory) (n : Nat) : State :=
  { s with
    freeNo := no, loader := s.loader.reread config n, summary := Summary.clear
    plate := { Plate.powerOn with
      zero := s.plate.zero, tare := s.plate.tare, lo := -((s.loader.reread config n).halfWidth : Int) }
    store := { s.store with mem := image, staging := .idle, staged := [], fault := none }
    queue := { s.queue with parcels := [] }
    dispatch := s.freshTable
    share := { s.share with openAsk := none }
    peers := ⟨[], false, false⟩
    bus := { s.bus with
      gives := [], ask := none, presence := none, sending := none, waitFrom := none, quietHistory := 0, changed := false
      listenDue := none, gatherDue := none, presenceDue := none, activeDue := none, quietDue := none
      slotDriven := false, observing := false }
    outfeed := s.outfeed.restarted
    label := s.label.restarted
    link := s.link.restarted (s.loader.reread config n) }

/-- A restart: the writes cut short, the blocks afresh, and the start (R195). -/
theorem State.restart_afresh (h : s.dispatch.stranded ≤ 65535) : ∃ no image config, s.Ceased image config ∧
    s.restart n = (s.afresh no image config n).printerSettle.startScanner.startBus.restartCell := by
  obtain ⟨no, image, config, hceased, heq⟩ := s.ceaseWrites_eq
  refine ⟨no, image, config, hceased, ?_⟩
  rw [State.restart_eq, State.cleared, heq]
  dsimp only
  rw [State.emptied_eq (by exact h)]
  rfl

/-- The writes that a restart begins: the cell's, when the serial is resolved (R185). -/
theorem State.restartCell_eq (h : s.loader.writes = []) : s.restartCell = { s with
    loader := { s.loader with
      writes := match s.label.serial with
        | some (serial, day) => [.cell day (min (serial / 100 * 100 + 100) 999999) false]
        | none => [] } } := by
  unfold State.restartCell
  cases s.label.serial with
  | none => simp [← h]
  | some sd =>
    obtain ⟨serial, day⟩ := sd
    show s.setLoader (s.loader.askCell _ _ _) = _
    rw [Loader.askCell_of_idle (by rw [Loader.cellWriting, h]; rfl), h]
    rfl

theorem Loader.reread_mem (l : Loader) (config : Memory) (n : Nat) : (l.reread config n).mem = config := rfl

theorem Loader.reread_station (l : Loader) (config : Memory) (n : Nat) : (l.reread config n).station =
    if (recordFault (config.readBytes 0 (min n 81))).isNone then .running else .configFault := rfl

theorem Loader.reread_startBus (l : Loader) (config : Memory) (n : Nat) : (l.reread config n).startBus =
    if (recordFault (config.readBytes 0 (min n 81))).isNone && (l.reread config n).busEnabled then .listen else .off := by
  rw [Loader.startBus_eq, Loader.reread_station]
  cases (recordFault (config.readBytes 0 (min n 81))).isNone <;> simp

theorem LabelUnit.restarted_wasted (u : LabelUnit) : u.restarted.wasted =
    if u.slot.isNone then u.wasted else if 65535 ≤ u.wasted then 65535 else u.wasted + 1 := by
  unfold LabelUnit.restarted
  cases u.slot with
  | none => rfl
  | some l => exact satAdd_one _ _

theorem State.freshTable_eq (s : State) : s.freshTable = { s.dispatch with
    line := [], current := none
    stranded := min 65535 (s.dispatch.stranded + liveUnits s.bus.gives TxGive.begun)
    rings := s.dispatch.rings.map (fun r => { r with
      deferred := r.deferred - heldLoads s.queue.parcels r.route .deferred
      entries := r.entries.map (fun e => { e with
        booked := e.booked - heldLoads s.queue.parcels r.route (.entry e.day e.slot)
        reserved := e.reserved - liveUnits s.bus.gives (TxGive.isOn r.route e.day e.slot)
        held := e.held - liveUnits s.bus.gives (fun x => x.begun && TxGive.isOn r.route e.day e.slot x) }) }) } := by
  simp only [State.freshTable, DispatchTable.dropped, DispatchTable.unbooked, List.map_map, Function.comp_def]

theorem Link.startRises_bne (k : Link) (line : Bool) (was st : BusState) (clock : Option ClockTime) :
    k.startRises line (was != st) clock st = { k with
      reports := (if line then [.event .printerFault clock none] else []) ++
        (if was = st then [] else [.event .busState clock (some st)])
      latch := (if line then k.edge &&& 1 else 0) ||| (if was = st then 0 else k.edge &&& 2) } := by
  by_cases h : was = st <;> simp [Link.startRises, h]

theorem Link.restarted_eq (k : Link) (l : Loader) : k.restarted l = { k with
    reports := [], reportLost := false, held := none, metVoid := none
    mask := if l.station = .running then l.defaultMask else 0
    edge := if l.station = .running then l.defaultEdge else 0
    latch := 0 } := Link.startSettings_eq _ _

/-- A restart, started: what the state is made of (R195). -/
theorem State.restart_values (h : s.dispatch.stranded ≤ 65535) : ∃ no image config, s.Ceased image config ∧
    s.restart n = (let u := s.afresh no image config n
      let l := s.loader.reread config n
      { u with
        loader := { l with
          writes := match s.label.serial with
            | some (serial, day) => [.cell day (min (serial / 100 * 100 + 100) 999999) false]
            | none => [] }
        label := { u.label with printer := if s.label.faultLine then .fault else .idle }
        plate := if l.station = .running then { u.plate with
            running := true, cur := 0, converting := (l.scanned 0).isSome
            stepDue := s.timer.ms * 1000 + s.timer.us + l.scanStepUs }
          else u.plate
        bus := { u.bus with
          state := l.startBus, changed := s.bus.state != l.startBus
          listenDue := if l.startBus = .listen then some (s.timer.ms + l.presenceInterval) else none }
        link := u.link.startRises s.label.faultLine (s.bus.state != l.startBus) s.dispatch.clock l.startBus }) := by
  obtain ⟨no, image, config, hceased, heq⟩ := State.restart_afresh (n := n) h
  refine ⟨no, image, config, hceased, ?_⟩
  have hlink : (s.afresh no image config n).link = _ := Link.restarted_eq s.link (s.loader.reread config n)
  rw [heq, State.started_eq rfl rfl (congrArg Link.reports hlink) (congrArg Link.latch hlink) rfl,
    State.restartCell_eq rfl]
  rfl

end Restart

/-- Settles O6: the writes cut short, each block afresh, and what the start raises. -/
theorem restartKeepsAndEmpties : Obligations.RestartKeepsAndEmpties := by
  unfold Obligations.RestartKeepsAndEmpties
  intro s n hs hstranded
  refine ⟨fun hheld => ?_, s.restart n, congrArg Host.Outcome.next (State.event_of_powered hs), ?_⟩
  · refine (next_always ⟨hs, hheld⟩ rfl).trans (congrArg Host.Outcome.next ?_)
    exact (State.event_of_powered (s := s.respond 23 .ok []) (run := fun s => s.restart n) hs).symm
  · obtain ⟨no, image, config, hceased, heq⟩ := State.restart_values (n := n) hstranded
    generalize s.restart n = t at *
    subst heq
    refine ⟨rfl, hceased.config_kept, hceased.config_beyond, hceased.image_kept, hceased.image_beyond, ?_⟩
    simp only [State.mk.injEq]
    refine ⟨rfl, rfl, trivial, rfl, trivial, ?_, rfl, rfl, rfl, ?_, rfl, ?_, rfl, rfl, ?_, ?_⟩
    · cases hr : (recordFault (config.readBytes 0 (min n 81))).isNone with
      | true =>
        rw [if_pos ((Loader.reread_station _ _ _).trans (if_pos hr)), Loader.reread_mem, hr]
        rfl
      | false =>
        rw [if_neg (by rw [Loader.reread_station, hr]; decide), Loader.reread_mem, hr]
        rfl
    · exact State.freshTable_eq s
    · rw [Loader.reread_startBus]
      rfl
    · exact congrArg (fun w => { s.label.restarted with
        printer := if s.label.faultLine then .fault else .idle, wasted := w }) s.label.restarted_wasted
    · have hlink : (s.afresh no image config n).link = _ := Link.restarted_eq s.link (s.loader.reread config n)
      rw [hlink, Link.startRises_bne, Loader.reread_startBus, Loader.reread_station, Loader.reread_mem]
      cases (recordFault (config.readBytes 0 (min n 81))).isNone <;> rfl

end Sys2Proof.Machine
end

section
/-! ## The fourth frame abandoned in a row (R122, R156) -/

namespace Sys2Proof.Machine

/-! ### The trigger -/

section Trigger
variable {s was : State} {k : TxKind}

/-- The controller once the trigger has put it into QUIET and emptied its queue. -/
def BusController.quieted (b : BusController) (now : Nat) : BusController :=
  { b with
    state := .quiet, quietHistory := b.quietHistory + 1, quietEntries := satAdd 255 b.quietEntries 1, consecutive := 0
    changed := true, gives := [], ask := none, presence := none, sending := none, waitFrom := none
    listenDue := none, gatherDue := none, presenceDue := none, activeDue := none, quietDue := some (now + 2000) }

/-- The trigger below the greatest QUIET history: QUIET, the GIVEs ended, then the ask (R122, R156). -/
theorem State.quietTrigger_of_lt (h : s.bus.quietHistory < 2) : s.quietTrigger was =
    (State.dropGives s.bus.gives { s with
      bus := s.bus.quieted s.timer.ms, link := s.risen s.bus.changed .busState .quiet }).endAskSince was := by
  unfold State.quietTrigger
  dsimp only
  rw [if_pos h, State.changeBus_eq]
  rfl

/-- The trigger at the greatest QUIET history: FAILED, the QUIET history kept (R122, R124). -/
theorem State.quietTrigger_of_ge (h : ¬s.bus.quietHistory < 2) : s.quietTrigger was =
    State.enterFailed
      { s with bus := { s.bus with quietEntries := satAdd 255 s.bus.quietEntries 1, consecutive := 0 } } was := by
  unfold State.quietTrigger
  dsimp only
  rw [if_neg h]
  rfl

theorem State.endAskSince_of_none (h : s.share.openAsk = none) : s.endAskSince was = s := by
  rw [State.endAskSince, h]

/-- FAILED entered with nothing queued and no ask open (R124). -/
theorem State.enterFailed_of_empty (hg : s.bus.gives = []) (ha : s.share.openAsk = none) : s.enterFailed was = { s with
    bus := { s.bus with
      state := .failed, gives := [], ask := none, presence := none, sending := none, waitFrom := none
      listenDue := none, gatherDue := none, presenceDue := none, activeDue := none, quietDue := none, changed := true }
    link := s.risen s.bus.changed .busState .failed } := by
  have hempty : (s.enterBus .failed).emptyQueue = { s with
      bus := { s.bus with
        state := .failed, gives := [], ask := none, presence := none, sending := none, waitFrom := none
        listenDue := none, gatherDue := none, presenceDue := none, activeDue := none, quietDue := none } } := by
    rw [State.enterBus_eq, State.emptyQueue]
    show State.dropGives s.bus.gives _ = _
    rw [hg]
    rfl
  rw [State.enterFailed, hempty, State.endAskSince_of_none (by exact ha), State.raiseBus_eq]

/-- The eighth failed attempt of the fourth frame in a row: the frame's ending handed back, then the trigger (R117,
R122). -/
theorem State.abandon_of_three (h : s.bus.consecutive = 3) : s.abandon k =
    (let t := State.handBack { s with bus := (BusController.offeredLeaves { s.bus with consecutive := 4 } k).waits none s.timer.ms }
        { s.bus with presence := if k = .presence then none else s.bus.presence } k .abandoned
     (if t.share.openAsk.isSome then t else t.quotesDue s).quietTrigger s) := by
  unfold State.abandon
  rw [h]
  refine (if_neg (show ¬3 + 1 < 4 by omega)).trans ?_
  rw [State.putBus_eq]
  cases k <;> rfl

/-- The eighth failed attempt of the fourth frame in a row (R117, R122). -/
theorem State.failAttempt_fourth (h : s.bus.fails k = 7) (hc : s.bus.consecutive = 3) : s.failAttempt k =
    (let t := State.handBack { s with bus := s.bus.abandoned k s.timer.ms }
        { s.bus.countFail k with presence := if k = .presence then none else s.bus.presence } k .abandoned
     (if t.share.openAsk.isSome then t else t.quotesDue s).quietTrigger s) := by
  have hcount : ((s.bus.countFail k).waits none s.timer.ms).consecutive = 3 := by cases k <;> exact hc
  have hbus : BusController.waits (BusController.offeredLeaves
      { (s.bus.countFail k).waits none s.timer.ms with consecutive := 4 } k) none s.timer.ms =
        s.bus.abandoned k s.timer.ms := by
    unfold BusController.abandoned
    rw [← satAdd_one, hc]
    cases k with
    | give => cases hg : s.bus.gives <;> simp [BusController.countFail, BusController.offeredLeaves, BusController.waits,
        BusController.offers, hg]
    | ask => rfl
    | presence => rfl
  rw [State.failAttempt_of_seven h, State.abandon_of_three (by exact hcount)]
  dsimp only
  rw [hbus]
  cases k <;> rfl

theorem State.handBack_of_no_presence {b : BusController} {e : Ending} (h : b.presence = none) :
    s.handBack b .presence e = s := by
  simp only [State.handBack, h]

/-- A PRESENCE that is the fourth abandoned in a row ends without more, and the trigger follows (R122). -/
theorem State.failAttempt_fourth_presence (h : s.bus.fails .presence = 7) (hc : s.bus.consecutive = 3) :
    s.failAttempt .presence = State.quietTrigger { s with bus := s.bus.abandoned .presence s.timer.ms } s := by
  rw [State.failAttempt_fourth h hc, State.handBack_of_no_presence rfl]
  dsimp only
  rw [State.quotesDue_of_queue (by rfl)]
  split <;> rfl

/-- A GIVE that is the fourth frame abandoned in a row ends, no ask open, and the trigger follows (R122, R149). -/
theorem State.failAttempt_fourth_give {g : TxGive} {rest : List TxGive} (hg : s.bus.gives = g :: rest)
    (h : s.bus.fails .give = 7) (hc : s.bus.consecutive = 3) (ha : s.share.openAsk = none) :
    s.failAttempt .give = State.quietTrigger { s with
      bus := s.bus.abandoned .give s.timer.ms
      dispatch := if g.live then s.dispatch.giveEnds g .abandoned else s.dispatch } s := by
  have hends : ∀ t : State, t.handBack
      { s.bus.countFail .give with presence := if TxKind.give = .presence then none else s.bus.presence } .give .abandoned =
        { t with dispatch := if g.live then t.dispatch.giveEnds g .abandoned else t.dispatch } := by
    intro t
    rw [State.handBack_give (rest := rest) (g := { g with fails := g.fails + 1 })
      (by rw [BusController.countFail_give hg]), State.giveEnding, if_neg (by decide)]
    cases g.live <;> rfl
  rw [State.failAttempt_fourth h hc, hends]
  dsimp only
  rw [ha, State.quotesDue_of_queue (by rfl)]
  rfl

/-- The trigger with no ask open and no GIVE pending. -/
theorem State.quietTrigger_of_idle (h : s.bus.quietHistory < 2) (hg : s.bus.gives = []) (ha : s.share.openAsk = none) :
    s.quietTrigger was = { s with
      bus := s.bus.quieted s.timer.ms, link := s.risen s.bus.changed .busState .quiet } := by
  rw [State.quietTrigger_of_lt h, hg, State.dropGives, State.endAskSince_of_none (by exact ha)]

end Trigger

end Sys2Proof.Machine
end
section
/-! ### The QUOTEs of an event (R83)

Bookings place quotes and leave the report queue; a change of bus state puts a STATION-EVENT there at most; the QUOTEs of
the quotes placed become due at the event's end. -/

namespace Sys2Proof.Machine

/-- The tag and the quote number that a QUOTE reports. -/
def Report.quoteNo : Report → Option (Nat × Option Nat)
  | .quote tag n .. => some (tag, some n)
  | _ => none

/-- A step of an event that puts up to `n` reports in the queue, none of them a QUOTE, and changes the quote number of
records to one that they have. -/
structure State.Places (s t : State) (n : Nat) : Prop where
  /-- The reports put in the queue. -/
  reports : ∃ ev : List Report, t.link.reports = s.link.reports ++ ev ∧ ev.length ≤ n ∧ ev.filterMap Report.quoteNo = []
  /-- The records, each with its quote number or with another one. -/
  quotes : ∃ f : Parcel → Parcel, t.queue.parcels = s.queue.parcels.map f ∧
    ∀ p, (f p).quote = p.quote ∨ (f p).quote.isSome = true

section Places
variable {s t u : State} {n m : Nat}

theorem State.Places.of_eq (hl : t.link = s.link) (hq : t.queue = s.queue) : s.Places t 0 :=
  ⟨⟨[], by simp [hl], Nat.le_refl 0, rfl⟩, id, by simp [hq], fun _ => .inl rfl⟩

theorem State.Places.trans (h : s.Places t n) (h' : t.Places u m) : s.Places u (n + m) := by
  obtain ⟨⟨ev, hev, hn, hno⟩, f, hf, hfq⟩ := h
  obtain ⟨⟨ev', hev', hm, hno'⟩, f', hf', hfq'⟩ := h'
  refine ⟨⟨ev ++ ev', by rw [hev', hev, List.append_assoc], ?_, by rw [List.filterMap_append, hno, hno']; rfl⟩,
    f' ∘ f, by rw [hf', hf, List.map_map], fun p => ?_⟩
  · rw [List.length_append]
    exact Nat.add_le_add hn hm
  · exact (hfq' (f p)).elim (fun h => (hfq p).imp (h.trans ·) (h ▸ ·)) .inr

/-- Two steps that put no report in the queue. -/
theorem State.Places.after (h' : t.Places u 0) (h : s.Places t 0) : s.Places u 0 := h.trans h'

theorem State.Places.mono (h : s.Places t n) (hle : n ≤ m) : s.Places t m := by
  obtain ⟨⟨ev, hev, hn, hno⟩, hq⟩ := h
  exact ⟨⟨ev, hev, hn.trans hle, hno⟩, hq⟩

theorem State.Places.updateParcel (s : State) (tag : Nat) {f : Parcel → Parcel}
    (hf : ∀ p, (f p).quote = p.quote ∨ (f p).quote.isSome = true) : s.Places (s.updateParcel tag f) 0 := by
  refine ⟨⟨[], (List.append_nil _).symm, Nat.le_refl 0, rfl⟩, fun p => if p.tag = tag then f p else p, rfl, fun p => ?_⟩
  dsimp only
  split
  · exact hf p
  · exact .inl rfl

theorem State.Places.placeQuote (s : State) (tag : Nat) (on : Booked) : s.Places (s.placeQuote tag on) 0 :=
  .updateParcel _ _ fun _ => .inr rfl

theorem State.Places.bookOn (s : State) (b : Booking) (day slot : Nat) : s.Places (s.bookOn b day slot) 0 :=
  .after (.placeQuote _ _ _) (.of_eq rfl rfl)

theorem State.Places.bookDeferred (s : State) (b : Booking) : s.Places (s.bookDeferred b) 0 :=
  .after (.placeQuote _ _ _) (.of_eq rfl rfl)

theorem State.openAsk_link (s : State) (route day slot wanted : Nat) :
    (s.openAsk route day slot wanted).link = s.link := by
  unfold State.openAsk
  dsimp only
  split <;> rfl

theorem State.Places.askFor (s : State) (b : Booking) (e : Entry) : s.Places (s.askFor b e) 0 := by
  unfold State.askFor
  dsimp only
  refine .after (.of_eq (State.openAsk_link _ _ _ _ _) (State.openAsk_queue _ _ _ _ _)) ?_
  exact .after (.updateParcel _ _ fun _ => .inl rfl) (.of_eq rfl rfl)

theorem State.Places.tryEntries (n : Nat) (s : State) (b : Booking) : s.Places (State.tryEntries n s b) 0 := by
  induction n generalizing s b with
  | zero => exact .bookDeferred _ _
  | succ n ih =>
    unfold State.tryEntries
    split
    · exact .bookDeferred _ _
    split
    · exact .bookOn _ _ _ _
    split
    · exact .askFor _ _ _
    · exact .after (ih _ _) (.of_eq rfl rfl)

theorem State.Places.tryCurrent (s : State) : s.Places s.tryCurrent 0 := by
  unfold State.tryCurrent
  split
  · split
    · exact .of_eq rfl rfl
    · exact .tryEntries _ _ _
  · exact .of_eq rfl rfl

theorem State.Places.serveFor (n : Nat) (s : State) : s.Places (State.serveFor n s) 0 := by
  induction n generalizing s with
  | zero => exact .of_eq rfl rfl
  | succ n ih =>
    unfold State.serveFor
    split
    · exact .after (ih _) (.after (.tryCurrent _) (.of_eq rfl rfl))
    · exact .of_eq rfl rfl

theorem State.closeAsk_link (s : State) : s.closeAsk.link = s.link := by
  unfold State.closeAsk
  split
  · rfl
  · dsimp only
    split <;> rfl

theorem State.Places.reportAskEnd (s : State) : s.Places s.reportAskEnd 0 := by
  unfold State.reportAskEnd
  split
  · split
    · exact .after (.serveFor _ _) (.after (.tryCurrent _) (.of_eq rfl rfl))
    · exact .of_eq rfl rfl
  · exact .of_eq rfl rfl

/-- The ask closed and its end reported, the quotes placed not yet due. -/
theorem State.Places.askEnd (s : State) : s.Places s.closeAsk.reportAskEnd 0 :=
  .after (.reportAskEnd _) (.of_eq s.closeAsk_link s.closeAsk_queue)

theorem State.Places.askEnding (s : State) (e : Ending) : s.Places (s.askEnding e) 0 := by
  unfold State.askEnding
  split
  · exact .of_eq rfl rfl
  · split
    case h_3 => exact .askEnd _
    case h_4 => exact .askEnd _
    all_goals exact .of_eq rfl rfl

theorem State.giveEnding_link (s : State) (g : TxGive) (e : Ending) : (s.giveEnding g e).link = s.link := by
  unfold State.giveEnding
  dsimp only
  split <;> split <;> rfl

theorem State.dropGives_link (gs : List TxGive) (s : State) : (State.dropGives gs s).link = s.link := by
  induction gs generalizing s with
  | nil => rfl
  | cons g rest ih => exact (ih _).trans (s.giveEnding_link g _)

theorem State.dropGives_share (gs : List TxGive) (s : State) : (State.dropGives gs s).share = s.share := by
  have hgive : ∀ (s : State) (g : TxGive) (e : Ending), (s.giveEnding g e).share = s.share := by
    intro s g e
    unfold State.giveEnding
    dsimp only
    split <;> split <;> rfl
  induction gs generalizing s with
  | nil => rfl
  | cons g rest ih => exact (ih _).trans (hgive s g _)

/-- A rise puts a STATION-EVENT in the report queue at most. -/
theorem Link.rise_reports (l : Link) (src : Source) (clock : Option ClockTime) (bus : BusState) :
    ∃ ev : List Report, (l.rise src clock bus).reports = l.reports ++ ev ∧ ev.length ≤ 1 ∧
      ev.filterMap Report.quoteNo = [] := by
  have hlatch : (l.latchRise src).reports = l.reports := by
    unfold Link.latchRise
    split <;> rfl
  cases hm : src.makesEvent with
  | false =>
    refine ⟨[], ?_, Nat.zero_le 1, rfl⟩
    rw [Link.rise, hm, List.append_nil]
    exact hlatch
  | true =>
    rw [Link.rise_of_makesEvent hm]
    by_cases hroom : (l.latchRise src).reports.length < 16
    · rw [Link.putEvent_of_room hroom, hlatch]
      exact ⟨_, rfl, Nat.le_refl 1, rfl⟩
    · rw [Link.putEvent_of_full (Nat.not_lt.1 hroom), Link.loseReport_eq]
      exact ⟨[], by simp [hlatch], Nat.zero_le 1, rfl⟩

theorem State.risen_reports (s : State) (was : Bool) (src : Source) (bus : BusState) :
    ∃ ev : List Report, (s.risen was src bus).reports = s.link.reports ++ ev ∧ ev.length ≤ 1 ∧
      ev.filterMap Report.quoteNo = [] := by
  cases was with
  | true => exact ⟨[], by simp [State.risen], Nat.zero_le 1, rfl⟩
  | false => exact s.link.rise_reports _ _ _

theorem State.Places.risen (s : State) (was : Bool) (src : Source) (st : BusState) (bus : BusController) :
    s.Places { s with bus := bus, link := s.risen was src st } 1 :=
  ⟨s.risen_reports _ _ _, id, by simp, fun _ => .inl rfl⟩

theorem State.Places.raiseBus (s : State) : s.Places s.raiseBus 1 := by
  rw [State.raiseBus_eq]
  exact .risen s _ _ _ _

theorem State.Places.changeBus (s : State) (st : BusState) : s.Places (s.changeBus st) 1 :=
  State.Places.trans (t := s.enterBus st) (n := 0) (m := 1) (.of_eq rfl rfl) (.raiseBus _)

theorem State.Places.handBack (s : State) (was : BusController) (k : TxKind) (e : Ending) :
    s.Places (s.handBack was k e) 1 := by
  have hsame : s.Places s 1 := (State.Places.of_eq rfl rfl).mono (Nat.zero_le 1)
  unfold State.handBack
  split
  · split
    · exact (State.Places.of_eq (s.giveEnding_link _ _) (s.giveEnding_queue _ _)).mono (Nat.zero_le 1)
    · exact hsame
  · exact (State.Places.askEnding s e).mono (Nat.zero_le 1)
  · split
    · split
      · split
        · exact .changeBus _ _
        · exact .changeBus _ _
        · exact (State.Places.of_eq (s := s) (t := s.putBus _) rfl rfl).mono (Nat.zero_le 1)
        · exact hsame
        · exact hsame
      · exact hsame
    · exact hsame

end Places

/-! ### The QUOTEs become due -/

/-- The QUOTEs that enter the report queue are those of the records whose quote number changed, in queue order. -/
def State.QuotesInOrder (s t : State) : Prop :=
  ∃ new, t.link.reports = s.link.reports ++ new ∧
    new.filterMap Report.quoteNo = (t.queue.newlyQuoted s.queue).map (fun p => (p.tag, p.quote))

section Due
variable {s t u : State} {n : Nat}

theorem State.quotesDue_queue (h : u.link.reports.length + (u.queue.newlyQuoted s.queue).length ≤ 16) :
    (u.quotesDue s).queue = u.queue := by
  suffices ∀ (ps : List Parcel) (u : State), u.link.reports.length + ps.length ≤ 16 →
      (ps.foldl State.quoteDue u).queue = u.queue from this _ u h
  intro ps
  induction ps with
  | nil => exact fun u _ => rfl
  | cons p ps ih =>
    intro u h
    rw [List.length_cons] at h
    rw [List.foldl_cons, State.quoteDue_of_room (by omega), ih _ (by simp [Link.put]; omega)]
    rfl

theorem ParcelQueue.newlyQuoted_length_le (q was : ParcelQueue) : (q.newlyQuoted was).length ≤ was.parcels.length := by
  rw [ParcelQueue.newlyQuoted, List.length_map]
  refine (List.length_filter_le _ _).trans ?_
  rw [List.length_zip]
  exact Nat.min_le_left _ _

/-- A record newly quoted has a quote number, which its QUOTE reports. -/
theorem State.Places.quoteNo (h : s.Places t n) : ∀ p ∈ t.queue.newlyQuoted s.queue,
    Report.quoteNo p.quoteReport = some (p.tag, p.quote) := by
  obtain ⟨-, f, hf, hq⟩ := h
  intro p hp
  simp only [ParcelQueue.newlyQuoted, hf, List.mem_map, List.mem_filter] at hp
  obtain ⟨x, ⟨hx, hne⟩, rfl⟩ := hp
  have hx2 : x.2 = f x.1 := by
    rw [← List.map_prod_left_eq_zip, List.mem_map] at hx
    obtain ⟨y, -, rfl⟩ := hx
    rfl
  have hsome : x.2.quote.isSome = true := by
    refine (hq x.1).elim (fun h => absurd (hx2 ▸ h.symm) (bne_iff_ne.1 hne)) fun h => hx2 ▸ h
  obtain ⟨q, hq⟩ := Option.isSome_iff_exists.1 hsome
  rw [Parcel.quoteReport, hq]
  rfl

/-- The quotes placed in an event become due with room for all of them (R83). -/
theorem State.Places.quotesDue (h : s.Places u n) (hn : n ≤ 1) (hp : s.queue.parcels.length ≤ 6)
    (hr : s.link.reports.length ≤ 9) : s.QuotesInOrder (u.quotesDue s) := by
  have hlen := ParcelQueue.newlyQuoted_length_le u.queue s.queue
  have hno := h.quoteNo
  obtain ⟨ev, hev, hle, hevno⟩ := h.reports
  have hroom : u.link.reports.length + (u.queue.newlyQuoted s.queue).length ≤ 16 := by
    rw [hev, List.length_append]
    omega
  refine ⟨ev ++ (u.queue.newlyQuoted s.queue).map Parcel.quoteReport, ?_, ?_⟩
  · rw [State.quotesDue_reports, hev, List.take_of_length_le (by rw [hev] at hroom; omega), List.append_assoc]
  · rw [State.quotesDue_queue hroom, List.filterMap_append, hevno, List.nil_append, List.filterMap_map]
    exact (List.filterMap_congr (g := fun p => some (p.tag, p.quote)) hno).trans (congrFun List.filterMap_eq_map' _)

theorem State.QuotesInOrder.of_quiet (h : s.Places t n) (hq : t.queue = s.queue) : s.QuotesInOrder t := by
  obtain ⟨ev, hev, -, hno⟩ := h.reports
  exact ⟨ev, hev, by rw [hno, ParcelQueue.newlyQuoted_none (by rw [hq])]; rfl⟩

/-- A STATION-EVENT after the QUOTEs leaves them. -/
theorem State.QuotesInOrder.then (h : s.QuotesInOrder u) (ht : u.Places t n) (hq : t.queue = u.queue) :
    s.QuotesInOrder t := by
  obtain ⟨new, hnew, hno⟩ := h
  obtain ⟨ev, hev, -, hevno⟩ := ht.reports
  exact ⟨new ++ ev, by rw [hev, hnew, List.append_assoc], by rw [List.filterMap_append, hno, hevno, hq, List.append_nil]⟩

end Due

end Sys2Proof.Machine
end

section
/-! The statement about the fourth frame abandoned in a row. -/

namespace Sys2Proof.Machine

section Failed
variable {s u : State} {k : TxKind}

/-- The trigger with an ask open: the ask's end places quotes, and all of the event become due (R83, R122, R156). -/
theorem State.Places.quietTrigger (h : s.Places u 0) (ha : u.share.openAsk.isSome = true)
    (hp : s.queue.parcels.length ≤ 6) (hr : s.link.reports.length ≤ 9) : s.QuotesInOrder (u.quietTrigger s) := by
  have hend : ∀ {v : State} {n}, s.Places v n → n ≤ 1 → v.share.openAsk.isSome = true →
      s.QuotesInOrder (v.endAskSince s) := by
    intro v n hv hn ha
    obtain ⟨a, ha⟩ := Option.isSome_iff_exists.1 ha
    rw [State.endAskSince, ha]
    exact State.Places.quotesDue (n := n) (hv.trans (.askEnd v)) hn hp hr
  by_cases hlt : u.bus.quietHistory < 2
  · rw [State.quietTrigger_of_lt hlt]
    refine hend (n := 1) (State.Places.trans (n := 1) (m := 0) (h.trans (m := 1) (.risen u _ _ _ _))
      (.of_eq (State.dropGives_link _ _) (State.dropGives_queue _ _))) (Nat.le_refl 1) ?_
    rw [State.dropGives_share]
    exact ha
  · rw [State.quietTrigger_of_ge hlt]
    refine State.QuotesInOrder.then ?_ (.raiseBus _) (State.raiseBus_queue _)
    refine hend (n := 0) (State.Places.after (t := u) (.of_eq (State.dropGives_link _ _) (State.dropGives_queue _ _)) h)
      (Nat.zero_le 1) ?_
    rw [State.emptyQueue, State.dropGives_share]
    exact ha

/-- The trigger with no ask open places no quote. -/
theorem State.quietTrigger_notes (was : State) (ha : s.share.openAsk = none) :
    s.Places (s.quietTrigger was) 1 ∧ (s.quietTrigger was).queue = s.queue := by
  by_cases hlt : s.bus.quietHistory < 2
  · rw [State.quietTrigger_of_lt hlt, State.endAskSince_of_none (by rw [State.dropGives_share]; exact ha)]
    exact ⟨State.Places.trans (n := 1) (m := 0) (.risen s _ _ _ _)
      (.of_eq (State.dropGives_link _ _) (State.dropGives_queue _ _)), State.dropGives_queue _ _⟩
  · rw [State.quietTrigger_of_ge hlt, State.enterFailed, State.endAskSince_of_none (by
      rw [State.emptyQueue, State.dropGives_share]; exact ha)]
    refine ⟨State.Places.trans (n := 0) (m := 1) ?_ (.raiseBus _),
      (State.raiseBus_queue _).trans (State.dropGives_queue _ _)⟩
    exact .of_eq (State.dropGives_link _ _) (State.dropGives_queue _ _)

/-- The ending of an abandoned frame before the trigger: a PRESENCE has none. -/
theorem State.Places.handBack_abandoned (s : State) (b : BusController) (k : TxKind) :
    s.Places (s.handBack { b with presence := if k = .presence then none else b.presence } k .abandoned) 0 := by
  cases k with
  | give =>
    unfold State.handBack
    dsimp only
    split
    · exact .of_eq (s.giveEnding_link _ _) (s.giveEnding_queue _ _)
    · exact .of_eq rfl rfl
  | ask => exact .askEnding s .abandoned
  | presence => exact .of_eq rfl rfl

theorem State.endFrame_quotes {e : Ending} (hp : s.queue.parcels.length ≤ 6) (hr : s.link.reports.length ≤ 9) :
    s.QuotesInOrder (s.endFrame k e) :=
  State.Places.quotesDue (State.Places.trans (t := s.putBus _) (n := 0) (m := 1) (.of_eq rfl rfl) (.handBack _ _ k e))
    (Nat.le_refl 1) hp hr

theorem State.abandon_quotes (hp : s.queue.parcels.length ≤ 6) (hr : s.link.reports.length ≤ 9) :
    s.QuotesInOrder (s.abandon k) := by
  unfold State.abandon
  extract_lets _ s1 _ s2
  have hs2 : s.Places s2 0 := .after (.handBack_abandoned _ s1.bus k) (.of_eq rfl rfl)
  split
  · exact State.endFrame_quotes (s := s1) hp hr
  · split
    next ha => exact hs2.quietTrigger ha hp hr
    next ha =>
      have hnone : (s2.quotesDue s).share.openAsk = none := by
        obtain ⟨q, rs, h⟩ := s2.quotesDue_frame s
        rw [h]
        exact Option.not_isSome_iff_eq_none.1 ha
      obtain ⟨hnotes, hq⟩ := State.quietTrigger_notes s hnone
      exact (hs2.quotesDue (Nat.zero_le 1) hp hr).then hnotes hq

theorem State.failAttempt_quotes (hp : s.queue.parcels.length ≤ 6) (hr : s.link.reports.length ≤ 9) :
    s.QuotesInOrder (s.failAttempt k) := by
  unfold State.failAttempt
  dsimp only
  split
  · exact .of_quiet (.of_eq rfl rfl) rfl
  · exact State.abandon_quotes (s := s.putBus (s.bus.countFail k)) hp hr

theorem State.slotSeen_quotes {d : Bool} (hp : s.queue.parcels.length ≤ 6) (hr : s.link.reports.length ≤ 9) :
    s.QuotesInOrder (s.slotSeen k d) := by
  have hdone : ∀ e, s.QuotesInOrder (s.complete k e) := fun e => State.endFrame_quotes (s := s.setBus _) hp hr
  unfold State.slotSeen
  split
  · exact hdone _
  · cases k with
    | give => exact State.failAttempt_quotes hp hr
    | ask => exact hdone _
    | presence => exact hdone _

end Failed

/-- A booking that finds no room on its ring's three entries, and asks for none, is DEFERRED (R94, R97). -/
theorem State.tryEntries_of_full {s : State} {b : Booking} {e1 e2 e3 : Entry} (h : s.dispatch.OnTrial b [] e1 [e2, e3])
    (h1 : e1.free < b.request.load) (h2 : e2.free < b.request.load) (h3 : e3.free < b.request.load)
    (hask : ∀ b, s.mayAsk b = false) : State.tryEntries 3 s b = s.bookDeferred b := by
  rw [State.tryEntries_of_roll h.entry h1 (hask _), State.tryEntries_of_roll h.next.entry h2 (hask _),
    State.tryEntries_of_roll h.next.next.entry h3 (hask _)]
  rfl

theorem liveUnits_filter (gs : List TxGive) (keep test : TxGive → Bool) :
    liveUnits (gs.filter keep) test = liveUnits gs (fun x => keep x && test x) := by
  simp only [liveUnits, List.filter_filter]
  refine congrArg (fun l => (l.map TxGive.units).sum) (List.filter_congr fun x _ => ?_)
  cases x.live <;> cases keep x <;> simp

/-- A GIVE abandoned before the queue is emptied of the others: its units written off like those of a begun one. -/
theorem DispatchTable.dropped_abandoned {d : DispatchTable} (h : d.stranded ≤ 65535) (g : TxGive) (rest : List TxGive) :
    (if g.live then d.giveEnds g .abandoned else d).dropped rest = { d with
      stranded := min 65535 (d.stranded + liveUnits (g :: rest.filter TxGive.begun) (fun _ => true))
      rings := d.rings.map (fun r => { r with
        entries := r.entries.map (fun e => { e with
          reserved := e.reserved - liveUnits (g :: rest) (TxGive.isOn r.route e.day e.slot)
          held := e.held - liveUnits (g :: rest.filter TxGive.begun) (TxGive.isOn r.route e.day e.slot) }) }) } := by
  have hcons := DispatchTable.dropped_cons h { g with begun := true } rest
  refine hcons.trans ?_
  simp only [DispatchTable.dropped, liveUnits_cons, liveUnits_filter, Bool.and_true, Bool.true_and]
  rfl

/-- Settles O39, frame by frame, and the QUOTEs of the event by what each step leaves due. -/
theorem fourthAbandonmentIsQuiet : Obligations.FourthAbandonmentIsQuiet := by
  unfold Obligations.FourthAbandonmentIsQuiet
  intro s hs hc quiet
  let u : State := { s with bus := { s.bus with observing := false } }
  have hexec : ∀ {k t}, s.bus.sending = some k → u.failAttempt k = t → exec .bitError s = .next t := fun hk ht =>
    (exec_bitError hs hk).trans (congrArg Host.Outcome.next ht)
  have hfails : ∀ k, u.bus.fails k = s.bus.fails k := fun k => by cases k <;> rfl
  have hquiet : ∀ k, (u.bus.abandoned k s.timer.ms).quieted s.timer.ms = quiet := by
    intro k
    simp only [BusController.abandoned, ← satAdd_one]
    rfl
  refine ⟨fun p hst hsend hp h7 hg hask ha => ⟨fun hlt => hexec hsend ?_, fun h2 => hexec hsend ?_⟩,
    fun g rest hst hsend hg h7 hlt ha hstr => hexec hsend ?_,
    fun q b ring e1 e2 e3 older younger p hst hsend hq h7 hg hlt ha hb hasking htries htrial hline hring hentries
      h12 h13 h23 hfull hp htag hroom => hexec hsend ?_, ?_⟩
  · have h7' : u.bus.fails .presence = 7 := (hfails _).trans ((BusController.fails_presence hp).trans h7)
    rw [State.failAttempt_fourth_presence h7' hc, State.quietTrigger_of_idle (by exact hlt) (by exact hg) (by exact ha)]
    dsimp only
    rw [hquiet]
    rfl
  · have h7' : u.bus.fails .presence = 7 := (hfails _).trans ((BusController.fails_presence hp).trans h7)
    rw [State.failAttempt_fourth_presence h7' hc, State.quietTrigger_of_ge (by exact h2.symm ▸ Nat.lt_irrefl 2),
      State.enterFailed_of_empty (by exact hg) (by exact ha)]
    simp only [BusController.abandoned, ← satAdd_one]
    simp only [quiet, ← h2]
    rfl
  · have h7' : u.bus.fails .give = 7 := (hfails _).trans ((BusController.fails_give hg).trans h7)
    have hgives : (u.bus.abandoned .give u.timer.ms).gives = rest := by
      show s.bus.gives.drop 1 = rest
      rw [hg]
      rfl
    have hstranded : (if g.live then s.dispatch.giveEnds g .abandoned else s.dispatch).stranded ≤ 65535 := by
      split
      · exact (DispatchTable.giveEnds_removed hstr { g with begun := true }).symm ▸ Nat.min_le_left _ _
      · exact hstr
    rw [State.failAttempt_fourth_give (s := u) hg h7' hc ha, State.quietTrigger_of_lt (by exact hlt)]
    dsimp only
    rw [hgives, State.dropGives_eq _ _ (by exact hstranded), State.endAskSince_of_none (by exact ha)]
    dsimp only
    rw [DispatchTable.dropped_abandoned (by exact hstr), hquiet]
    cases g.live <;> rfl
  · have h7' : u.bus.fails .presence = 7 := (hfails _).trans ((BusController.fails_presence hq).trans h7)
    rw [State.failAttempt_fourth_presence h7' hc, State.quietTrigger_of_lt (by exact hlt)]
    dsimp only
    rw [hquiet]
    have hgives : (u.bus.abandoned .presence u.timer.ms).gives = [] := hg
    let v : State := { s with bus := quiet, link := s.risen s.bus.changed .busState .quiet }
    let c : State := { v with share := { s.share with openAsk := none } }
    have hclosed : v.closeAsk = c := by
      obtain ⟨a, ha⟩ := Option.ne_none_iff_exists'.1 ha
      rw [State.closeAsk_of_open (s := v) ha]
      split <;> rfl
    have hentries' : ∀ x ∈ [e1, e2, e3], x.free < b.request.load := by
      rw [← hentries]
      exact hfull
    simp only [List.forall_mem_cons] at hentries'
    obtain ⟨hfull1, hfull2, hfull3, -⟩ := hentries'
    have htrial' : c.dispatch.OnTrial { b with asking := false } [] e1 [e2, e3] := by
      refine ⟨ring, hring, hentries, ?_, htrial⟩
      simp only [List.nil_append, List.map_cons, List.map_nil, List.nodup_cons, List.mem_cons, List.not_mem_nil, or_false,
        not_or, not_false_eq_true, List.nodup_nil, and_true]
      exact ⟨⟨h12, h13⟩, h23⟩
    have htried : c.reportAskEnd = c.bookDeferred b := by
      rw [State.reportAskEnd_of_asking (s := c) hb hasking hline, htries]
      exact State.tryEntries_of_full htrial' hfull1 hfull2 hfull3 (fun x => by simp [State.mayAsk, c, v, quiet])
    have hc' : c.Holds older p younger := hp
    have hbooked := hc'.bookDeferred htag
    have hroom' : c.link.reports.length < 16 := by
      obtain ⟨ev, hev, hle, -⟩ := s.risen_reports s.bus.changed .busState .quiet
      show (s.risen s.bus.changed .busState .quiet).reports.length < 16
      rw [hev, List.length_append]
      omega
    have hv : State.endAskSince v s = (c.bookDeferred b).quotesDue s := by
      obtain ⟨a, ha⟩ := Option.ne_none_iff_exists'.1 ha
      rw [State.endAskSince, show v.share.openAsk = some a from ha]
      dsimp only
      rw [hclosed, htried]
    rw [hgives]
    refine hv.trans ?_
    rw [hbooked]
    exact State.quotesDue_placed (p := p) (on := .deferred) ⟨rfl, hp.2⟩ hp.1 rfl rfl hroom'
  · intro c hcs hparcels hreports
    suffices ∃ t, exec c s = .next t ∧ s.QuotesInOrder t by
      obtain ⟨t, ht, new, hnew, hno⟩ := this
      refine ⟨t, new, ht, hnew, (List.filterMap_congr fun r _ => ?_).trans (hno.trans ?_)⟩
      · cases r <;> rfl
      · rw [ParcelQueue.newlyQuoted, List.map_map]
        rfl
    have hsame : s.QuotesInOrder s := .of_quiet (.of_eq rfl rfl) rfl
    simp only [List.mem_cons, List.not_mem_nil, or_false] at hcs
    obtain rfl | rfl | rfl := hcs
    · cases hsend : s.bus.sending with
      | none => exact ⟨s, next_event hs (by rw [State.whileSending, hsend]), hsame⟩
      | some k => exact ⟨_, exec_bitError hs hsend, State.failAttempt_quotes (s := u) hparcels hreports⟩
    · cases hsend : s.bus.sending with
      | none => exact ⟨s, next_event hs (by rw [State.whileSending, hsend]), hsame⟩
      | some k => exact ⟨_, exec_ackSlot hs hsend false, State.slotSeen_quotes hparcels hreports⟩
    · refine ⟨_, next_event hs rfl, ?_⟩
      split
      · exact State.failAttempt_quotes hparcels hreports
      · exact hsame

end Sys2Proof.Machine
end

section
/-! The faces of the records: tag, state and quote standing, all that the bookings, the action table and the print order
turn on; and what those demand of the faces, piece by piece. -/

namespace Sys2Proof.Machine

/-! ### Faces -/

/-- What the bookings, the action table and the print order see of a record: its tag, its state, its quote standing. -/
abbrev Face := Nat × PState × Option Bool

def Parcel.face (p : Parcel) : Face := (p.tag, p.state, p.standing)

def ParcelQueue.faces (q : ParcelQueue) : List Face := q.parcels.map Parcel.face

/-- No two faces have the same tag. -/
def Apart (fs : List Face) : Prop := (fs.map Prod.fst).Nodup

/-- A face of a tag in a state is there. -/
def Shows (fs : List Face) (tag : Nat) (st : PState) : Prop := ∃ sd, (tag, st, sd) ∈ fs

/-- The faces of all other tags stand. -/
def Alters (fs fs' : List Face) (tag : Nat) : Prop := ∀ f : Face, f.1 ≠ tag → (f ∈ fs' ↔ f ∈ fs)

theorem ParcelQueue.faces_fst (q : ParcelQueue) : q.faces.map Prod.fst = q.parcels.map Parcel.tag := by
  simp [ParcelQueue.faces, Parcel.face, Function.comp_def]

theorem State.TagsOk.apart {s : State} (h : s.TagsOk) : Apart s.queue.faces := by
  rw [Apart, ParcelQueue.faces_fst]
  exact h.1

theorem Apart.eq_of_tag {fs : List Face} (h : Apart fs) {f g : Face} (hf : f ∈ fs) (hg : g ∈ fs) (ht : f.1 = g.1) :
    f = g := List.inj_on_of_nodup_map h hf hg ht

theorem Apart.state_eq {fs : List Face} (h : Apart fs) {tag : Nat} {st st' : PState} {sd sd' : Option Bool}
    (hf : (tag, st, sd) ∈ fs) (hg : (tag, st', sd') ∈ fs) : st = st' ∧ sd = sd' := by
  simpa using h.eq_of_tag hf hg rfl

theorem ParcelQueue.has_iff (q : ParcelQueue) (tag : Nat) (st : PState) : q.Has tag st ↔ Shows q.faces tag st := by
  constructor
  · rintro ⟨p, hp, rfl, rfl⟩
    exact ⟨p.standing, List.mem_map_of_mem hp⟩
  · rintro ⟨sd, h⟩
    obtain ⟨p, hp, he⟩ := List.mem_map.1 h
    simp only [Parcel.face, Prod.mk.injEq] at he
    exact ⟨p, hp, he.1, he.2.1⟩

theorem ParcelQueue.mem_faces {q : ParcelQueue} {p : Parcel} (hp : p ∈ q.parcels) :
    (p.tag, p.state, p.standing) ∈ q.faces := List.mem_map_of_mem hp

theorem ParcelQueue.find_mem {q : ParcelQueue} {tag : Nat} {p : Parcel} (h : q.find tag = some p) :
    p ∈ q.parcels ∧ p.tag = tag :=
  ⟨List.mem_of_find?_eq_some h, by simpa using List.find?_some h⟩

theorem ParcelQueue.inState_mem {q : ParcelQueue} {st : PState} {p : Parcel} (h : q.inState st = some p) :
    p ∈ q.parcels ∧ p.state = st :=
  ⟨List.mem_of_find?_eq_some h, by simpa using List.find?_some h⟩

theorem ParcelQueue.beltRecord_mem {q : ParcelQueue} {tag : Nat} {p : Parcel} (h : q.beltRecord tag = some p) :
    p ∈ q.parcels ∧ p.tag = tag ∧ p.state = .onBelt := by
  refine ⟨List.mem_of_find?_eq_some h, ?_⟩
  simpa using List.find?_some h

theorem ParcelQueue.faces_map {q : ParcelQueue} {f : Parcel → Parcel} (hf : ∀ p, (f p).face = p.face) (due : Nat) :
    ParcelQueue.faces { q with parcels := q.parcels.map f, nextDue := due } = q.faces := by
  simp only [ParcelQueue.faces, List.map_map]
  exact List.map_congr_left fun p _ => hf p

theorem ParcelQueue.faces_update {q : ParcelQueue} {f : Parcel → Parcel} (tag : Nat) (hf : ∀ p, (f p).face = p.face) :
    (q.update tag f).faces = q.faces := by
  refine ParcelQueue.faces_map (fun p => ?_) q.nextDue
  split
  · exact hf p
  · rfl

theorem ParcelQueue.faces_owe (q : ParcelQueue) (tag : Nat) (r : Report) : (q.owe tag r).faces = q.faces :=
  ParcelQueue.faces_update (q := q) (f := fun p => { p with owed := some ⟨q.nextDue, r⟩ }) tag fun _ => rfl

/-- A change of the record of a tag alters that tag's face alone. -/
theorem ParcelQueue.update_alters (q : ParcelQueue) (tag : Nat) {f : Parcel → Parcel}
    (hf : ∀ p, p.tag = tag → (f p).tag = tag) :
    Alters q.faces (q.update tag f).faces tag := by
  intro g hg
  simp only [ParcelQueue.faces, ParcelQueue.update, List.map_map, List.mem_map, Function.comp_apply]
  refine exists_congr fun p => and_congr_right fun _ => ?_
  split
  next ht =>
    have h1 : (f p).face ≠ g := fun h => hg (h ▸ hf p ht)
    have h2 : p.face ≠ g := fun h => hg (h ▸ ht)
    simp [h1, h2]
  next => rfl

/-- The face of the tag after a change of its record comes from the record as it was. -/
theorem ParcelQueue.mem_faces_update {q : ParcelQueue} {tag : Nat} {f : Parcel → Parcel} {g : Face} (h : g ∈ (q.update tag f).faces) (hg : g.1 = tag) :
    ∃ p ∈ q.parcels, p.tag = tag ∧ g = (f p).face := by
  simp only [ParcelQueue.faces, ParcelQueue.update, List.map_map, List.mem_map, Function.comp_apply] at h
  obtain ⟨p, hp, rfl⟩ := h
  by_cases ht : p.tag = tag
  · exact ⟨p, hp, ht, by rw [if_pos ht]⟩
  · rw [if_neg ht] at hg
    exact absurd hg ht

/-- A change of the record of a tag that keeps its tag keeps all tags. -/
theorem TagsFrame.updateAt (q : ParcelQueue) (tag : Nat) {f : Parcel → Parcel} (hf : ∀ p, p.tag = tag → (f p).tag = tag) :
    TagsFrame q (q.update tag f) := by
  refine TagsFrame.map q (fun p => ?_) q.nextDue
  split
  next ht => exact (hf p ht).trans ht.symm
  next => rfl

theorem ParcelQueue.remove_alters (q : ParcelQueue) (tag : Nat) : Alters q.faces (q.remove tag).faces tag := by
  intro g hg
  simp only [ParcelQueue.faces, ParcelQueue.remove, List.mem_map, List.mem_filter, bne_iff_ne]
  refine exists_congr fun p => ⟨fun h => ⟨h.1.1, h.2⟩, fun h => ⟨⟨h.1, fun ht => hg ?_⟩, h.2⟩⟩
  exact h.2 ▸ ht

theorem ParcelQueue.not_mem_faces_remove {q : ParcelQueue} {tag : Nat} {g : Face} (h : g ∈ (q.remove tag).faces) :
    g.1 ≠ tag := by
  simp only [ParcelQueue.faces, ParcelQueue.remove, List.mem_map, List.mem_filter, bne_iff_ne] at h
  obtain ⟨p, ⟨-, hp⟩, rfl⟩ := h
  exact hp

theorem Alters.trans {a b c : List Face} {tag : Nat} (h : Alters a b tag) (h' : Alters b c tag) : Alters a c tag :=
  fun f hf => (h' f hf).trans (h f hf)

theorem Alters.shows {fs fs' : List Face} {tag t : Nat} (h : Alters fs fs' tag) (ht : t ≠ tag) (st : PState) :
    Shows fs' t st ↔ Shows fs t st := exists_congr fun _ => h _ ht

/-- A record that ends leaves the faces of the others, and a final state, if any, of its own. -/
theorem State.endParcel_faces (s : State) (p : Parcel) (o : EndOutcome) (r : Option Reason) :
    Alters s.queue.faces (s.endParcel p o r).queue.faces p.tag ∧
      ∀ g ∈ (s.endParcel p o r).queue.faces, g.1 = p.tag → g.2.1 = o.state := by
  obtain ⟨-, h⟩ | ⟨-, h⟩ := s.endParcel_cases p o r
  · rw [h]
    exact ⟨ParcelQueue.remove_alters _ _, fun g hg ht => absurd ht (ParcelQueue.not_mem_faces_remove hg)⟩
  · rw [h]
    dsimp only
    rw [ParcelQueue.faces_owe]
    refine ⟨ParcelQueue.update_alters _ _ fun _ ht => ht, fun g hg ht => ?_⟩
    obtain ⟨q, -, -, rfl⟩ := ParcelQueue.mem_faces_update (f := fun p => p.ended o r) hg ht
    rfl

theorem EndOutcome.state_final (o : EndOutcome) :
    o.state.onPlate = false ∧ o.state ≠ .onBelt ∧ o.state ≠ .labelPending := by
  cases o <;> simp [EndOutcome.state, PState.onPlate]

/-! ### The bookings -/

/-- The record of a request waits for it: in RATING if the request ends a rating, QUOTED with its quote withdrawn if it is
a requote (R71, R93). -/
def Pending (fs : List Face) (r : Request) : Prop :=
  if r.rated then Shows fs r.tag .rating else (r.tag, .quoted, some false) ∈ fs

/-- One record at most is in a plate state (R60). -/
def OnePlate (fs : List Face) : Prop := ∀ f ∈ fs, ∀ g ∈ fs, f.2.1.onPlate = true → g.2.1.onPlate = true → f.1 = g.1

/-- What holds of line and current booking while bookings are made: each is the request of its own waiting record, and
the record of an ASKING booking is in SEEKING (R69, R93). -/
structure BookingsOk (fs : List Face) (line : List Request) (cur : Option Booking) : Prop where
  onePlate : OnePlate fs
  nodup : (cur.toList.map (fun b => b.request.tag) ++ line.map Request.tag).Nodup
  waits : ∀ r ∈ line, Pending fs r
  current : ∀ b, cur = some b → Shows fs b.request.tag .seeking ∨ (b.asking = false ∧ Pending fs b.request)

/-- What holds of them between two events: the current booking asks, and nothing waits without one. -/
structure PlateIn (fs : List Face) (line : List Request) (cur : Option Booking) : Prop where
  onePlate : OnePlate fs
  nodup : (line.map Request.tag).Nodup
  waits : ∀ r ∈ line, r.rated = false ∧ (r.tag, .quoted, some false) ∈ fs
  current : ∀ b, cur = some b → b.asking = true ∧ Shows fs b.request.tag .seeking
  served : cur = none → line = []

theorem length_filter_le_one_iff {fs : List Face} (h : Apart fs) :
    (fs.filter (fun f => f.2.1.onPlate)).length ≤ 1 ↔ OnePlate fs := by
  have hnodup : (fs.filter (fun f => f.2.1.onPlate)).Nodup := (List.Nodup.of_map _ h).filter _
  constructor
  · intro hlen f hf g hg hfp hgp
    have hf' : f ∈ fs.filter (fun f => f.2.1.onPlate) := List.mem_filter.2 ⟨hf, hfp⟩
    have hg' : g ∈ fs.filter (fun f => f.2.1.onPlate) := List.mem_filter.2 ⟨hg, hgp⟩
    rcases hl : fs.filter (fun f => f.2.1.onPlate) with _ | ⟨x, _ | ⟨y, rest⟩⟩
    · simp [hl] at hf'
    · rw [hl, List.mem_singleton] at hf' hg'
      rw [hf', hg']
    · simp [hl] at hlen
  · intro hone
    by_contra hlen
    obtain ⟨x, y, rest, hl⟩ : ∃ x y rest, fs.filter (fun f => f.2.1.onPlate) = x :: y :: rest := by
      rcases hl : fs.filter (fun f => f.2.1.onPlate) with _ | ⟨x, _ | ⟨y, rest⟩⟩
      · simp [hl] at hlen
      · simp [hl] at hlen
      · exact ⟨x, y, rest, hl⟩
    have hx := List.mem_filter.1 (hl ▸ List.mem_cons_self : x ∈ fs.filter (fun f => f.2.1.onPlate))
    have hy := List.mem_filter.1 (hl ▸ List.mem_cons_of_mem _ List.mem_cons_self :
      y ∈ fs.filter (fun f => f.2.1.onPlate))
    have hxy : x = y := h.eq_of_tag hx.1 hy.1 (hone x hx.1 y hy.1 hx.2 hy.2)
    rw [hl, hxy] at hnodup
    simp at hnodup

theorem State.plateOk_iff {s : State} (h : s.TagsOk) :
    s.PlateOk ↔ PlateIn s.queue.faces s.dispatch.line s.dispatch.current := by
  have hone : (s.queue.parcels.filter (fun p => p.state.onPlate)).length ≤ 1 ↔ OnePlate s.queue.faces := by
    rw [← length_filter_le_one_iff h.apart, ParcelQueue.faces, List.filter_map, List.length_map]
    rfl
  have hquoted : ∀ r : Request, (∃ p ∈ s.queue.parcels, p.tag = r.tag ∧ p.state = .quoted ∧ p.standing = some false) ↔
      (r.tag, PState.quoted, some false) ∈ s.queue.faces := by
    intro r
    simp [ParcelQueue.faces, Parcel.face]
  unfold State.PlateOk
  simp only [hone, hquoted, ParcelQueue.has_iff]
  exact ⟨fun ⟨h1, h2, h3, h4, h5⟩ => ⟨h1, h2, h3, h4, h5⟩, fun h => ⟨h.onePlate, h.nodup, h.waits, h.current, h.served⟩⟩

theorem Pending.not_seeking {fs : List Face} (h : Apart fs) {r : Request} (hp : Pending fs r) :
    ¬Shows fs r.tag .seeking := by
  rintro ⟨sd, hs⟩
  unfold Pending at hp
  split at hp
  · obtain ⟨sd', hp⟩ := hp
    simpa using (h.state_eq hs hp).1
  · simpa using (h.state_eq hs hp).1

theorem PlateIn.bookings {fs : List Face} {line : List Request} {cur : Option Booking} (h : PlateIn fs line cur)
    (ha : Apart fs) : BookingsOk fs line cur := by
  have hpending : ∀ r ∈ line, Pending fs r := fun r hr => by
    obtain ⟨hrated, hmem⟩ := h.waits r hr
    simpa [Pending, hrated] using hmem
  refine ⟨h.onePlate, ?_, hpending, fun b hb => .inl (h.current b hb).2⟩
  cases cur with
  | none => simpa using h.nodup
  | some b =>
    simp only [Option.toList_some, List.map_cons, List.map_nil, List.singleton_append, List.nodup_cons]
    refine ⟨fun hmem => ?_, h.nodup⟩
    obtain ⟨r, hr, ht⟩ := List.mem_map.1 hmem
    exact (hpending r hr).not_seeking ha (ht ▸ (h.current b rfl).2)

/-- Once the current booking asks or is gone, and nothing waits without one, the bookings are settled. -/
theorem BookingsOk.settled {fs : List Face} {line : List Request} {cur : Option Booking} (h : BookingsOk fs line cur)
    (hcur : ∀ b, cur = some b → b.asking = true) (hserved : cur = none → line = []) : PlateIn fs line cur := by
  have hseeking : ∀ b, cur = some b → Shows fs b.request.tag .seeking := fun b hb => by
    obtain hs | ⟨ha, -⟩ := h.current b hb
    · exact hs
    · simp [hcur b hb] at ha
  refine ⟨h.onePlate, (List.nodup_append.1 h.nodup).2.1, fun r hr => ?_, fun b hb => ⟨hcur b hb, hseeking b hb⟩, hserved⟩
  have hp := h.waits r hr
  unfold Pending at hp
  split at hp
  next hrated =>
    exfalso
    cases hc : cur with
    | none => simp [hserved hc] at hr
    | some b =>
      obtain ⟨sd, hs⟩ := hseeking b hc
      obtain ⟨sd', hr'⟩ := hp
      have ht : b.request.tag = r.tag := h.onePlate _ hs _ hr' rfl rfl
      have hn := h.nodup
      rw [hc] at hn
      simp only [Option.toList_some, List.map_cons, List.map_nil, List.singleton_append, List.nodup_cons] at hn
      exact hn.1 (ht ▸ List.mem_map_of_mem hr)
  next hrated => exact ⟨by simpa using hrated, hp⟩

theorem Alters.pending {fs fs' : List Face} {tag : Nat} (h : Alters fs fs' tag) {r : Request} (ht : r.tag ≠ tag) :
    Pending fs' r ↔ Pending fs r := by
  unfold Pending
  split
  · exact h.shows ht _
  · exact h _ ht

/-- A record that comes off the plate, or was never on it, leaves one at most there. -/
theorem OnePlate.alter {fs fs' : List Face} {tag : Nat} (h : OnePlate fs) (ha : Alters fs fs' tag)
    (hoff : ∀ g ∈ fs', g.1 = tag → g.2.1.onPlate = false) : OnePlate fs' := by
  have hback : ∀ g ∈ fs', g.2.1.onPlate = true → g ∈ fs := fun g hg hp => by
    by_cases ht : g.1 = tag
    · simp [hoff g hg ht] at hp
    · exact (ha g ht).1 hg
  exact fun f hf g hg hfp hgp => h f (hback f hf hfp) g (hback g hg hgp) hfp hgp

/-- A record on the plate that stays there, or comes to it when no other is on it. -/
theorem OnePlate.of_alone {fs fs' : List Face} {tag : Nat} (ha : Alters fs fs' tag)
    (halone : ∀ g ∈ fs, g.2.1.onPlate = true → g.1 = tag) : OnePlate fs' := by
  have hback : ∀ g ∈ fs', g.2.1.onPlate = true → g.1 = tag := fun g hg hp => by
    by_contra ht
    exact ht (halone g ((ha g ht).1 hg) hp)
  exact fun f hf g hg hfp hgp => (hback f hf hfp).trans (hback g hg hgp).symm

/-- A tag that no request of the line and no current booking carries. -/
def NotBooked (line : List Request) (cur : Option Booking) (tag : Nat) : Prop :=
  (∀ r ∈ line, r.tag ≠ tag) ∧ ∀ b, cur = some b → b.request.tag ≠ tag

theorem PlateIn.unbooked {fs : List Face} {line : List Request} {cur : Option Booking} (h : PlateIn fs line cur)
    (ha : Apart fs) {f : Face} (hf : f ∈ fs) (hseeking : f.2.1 ≠ .seeking)
    (hquoted : f.2.1 = .quoted → f.2.2 ≠ some false) : NotBooked line cur f.1 := by
  refine ⟨fun r hr ht => ?_, fun b hb ht => ?_⟩
  · have he : f = (r.tag, .quoted, some false) := ha.eq_of_tag hf (h.waits r hr).2 ht.symm
    rw [he] at hquoted
    exact hquoted rfl rfl
  · obtain ⟨sd, hs⟩ := (h.current b hb).2
    have he : f = (b.request.tag, .seeking, sd) := ha.eq_of_tag hf hs ht.symm
    rw [he] at hseeking
    exact hseeking rfl

theorem PlateIn.alter {fs fs' : List Face} {line : List Request} {cur : Option Booking} {tag : Nat}
    (h : PlateIn fs line cur) (ha : Alters fs fs' tag) (hone : OnePlate fs') (hu : NotBooked line cur tag) :
    PlateIn fs' line cur :=
  ⟨hone, h.nodup, fun r hr => ⟨(h.waits r hr).1, (ha _ (hu.1 r hr)).2 (h.waits r hr).2⟩,
   fun b hb => ⟨(h.current b hb).1, (ha.shows (hu.2 b hb) _).2 (h.current b hb).2⟩, h.served⟩

/-! ### The action table and the print order -/

/-- An action entry as the table's order with the records sees it: its tag, and whether it is a CLEAR-CHUTE. -/
def Action.mark (a : Action) : Nat × Bool := (a.tag, a.kind == .clearChute)

/-- What holds of action marks, waiting CLEARs, the tag of the open parcel, and the tags of the print order. -/
structure BeltIn (fs : List Face) (marks : List (Nat × Bool)) (waiting : List Nat) (opened : Option Nat)
    (labels : List Nat) : Prop where
  actions : ∀ m ∈ marks, Shows fs m.1 .onBelt
  nodup : waiting.Nodup
  cleared : ∀ t ∈ waiting, Shows fs t .onBelt
  once : ∀ m ∈ marks, m.2 = true → m.1 ∉ waiting
  unclosed : ∀ t, opened = some t → t ∉ waiting ∧ ∀ m ∈ marks, m.2 = true → m.1 ≠ t
  single : labels.Nodup
  printed : ∀ t ∈ labels, Shows fs t .labelPending ∨ Shows fs t .onBelt

/-- The tag of the open parcel's record (R163). -/
def Outfeed.openTag (o : Outfeed) : Option Nat := o.openParcel.bind OpenParcel.tag

theorem State.beltOk_iff (s : State) : s.BeltOk ↔
    BeltIn s.queue.faces (s.outfeed.actions.map Action.mark) (s.outfeed.pendingClear.map Prod.fst) s.outfeed.openTag
      (s.label.printOrder.map Label.tag) := by
  have hopened : (∀ x tag, s.outfeed.openParcel = some x → x.tag = some tag →
        tag ∉ s.outfeed.pendingClear.map Prod.fst ∧ ∀ a ∈ s.outfeed.actions, a.kind = .clearChute → a.tag ≠ tag) ↔
      ∀ t, s.outfeed.openTag = some t → t ∉ s.outfeed.pendingClear.map Prod.fst ∧
        ∀ m ∈ s.outfeed.actions.map Action.mark, m.2 = true → m.1 ≠ t := by
    simp only [Outfeed.openTag, Option.bind_eq_some_iff, List.mem_map, Action.mark, forall_exists_index, and_imp,
      forall_apply_eq_imp_iff₂, beq_iff_eq]
    exact ⟨fun h t x hx ht => h x t hx ht, fun h x t hx ht => h t x hx ht⟩
  unfold State.BeltOk
  simp only [ParcelQueue.has_iff]
  rw [hopened]
  constructor
  · rintro ⟨h1, h2, h3, h4, h5, h6, h7⟩
    refine ⟨?_, h2, h3, ?_, h5, h6, ?_⟩
    · simpa [Action.mark] using h1
    · simpa [Action.mark] using h4
    · simpa using h7
  · rintro ⟨h1, h2, h3, h4, h5, h6, h7⟩
    refine ⟨?_, h2, h3, ?_, h5, h6, ?_⟩
    · simpa [Action.mark] using h1
    · simpa [Action.mark] using h4
    · simpa using h7

section BeltIn
variable {fs fs' : List Face} {marks marks' : List (Nat × Bool)} {waiting waiting' : List Nat} {opened : Option Nat}
  {labels labels' : List Nat}

/-- Fewer entries, waiting CLEARs and labels, and more of the faces they stand on, keep the order. -/
theorem BeltIn.shrink (h : BeltIn fs marks waiting opened labels) (hm : marks' ⊆ marks) (hw : waiting'.Sublist waiting)
    (hl : labels'.Sublist labels) (hbelt : ∀ m ∈ marks', Shows fs m.1 .onBelt → Shows fs' m.1 .onBelt)
    (hwait : ∀ t ∈ waiting', Shows fs t .onBelt → Shows fs' t .onBelt)
    (hlabel : ∀ t ∈ labels', Shows fs t .labelPending ∨ Shows fs t .onBelt →
      Shows fs' t .labelPending ∨ Shows fs' t .onBelt) : BeltIn fs' marks' waiting' opened labels' :=
  ⟨fun m hm' => hbelt m hm' (h.actions m (hm hm')), h.nodup.sublist hw,
   fun t ht => hwait t ht (h.cleared t (hw.subset ht)), fun m hm' hc hmem => h.once m (hm hm') hc (hw.subset hmem),
   fun t ht => ⟨fun hmem => (h.unclosed t ht).1 (hw.subset hmem), fun m hm' => (h.unclosed t ht).2 m (hm hm')⟩,
   h.single.sublist hl, fun t ht => hlabel t ht (h.printed t (hl.subset ht))⟩

theorem BeltIn.sub (h : BeltIn fs marks waiting opened labels) (hm : marks' ⊆ marks) (hw : waiting'.Sublist waiting)
    (hl : labels'.Sublist labels) : BeltIn fs marks' waiting' opened labels' :=
  h.shrink hm hw hl (fun _ _ => id) (fun _ _ => id) fun _ _ => id

/-- The faces on the belt and those whose label is pending stand. -/
theorem BeltIn.keep (h : BeltIn fs marks waiting opened labels)
    (hk : ∀ t st, st = .onBelt ∨ st = .labelPending → Shows fs t st → Shows fs' t st) :
    BeltIn fs' marks waiting opened labels :=
  h.shrink (fun _ => id) (.refl _) (.refl _) (fun _ _ => hk _ _ (.inl rfl)) (fun _ _ => hk _ _ (.inl rfl))
    fun _ _ => Or.imp (hk _ _ (.inr rfl)) (hk _ _ (.inl rfl))

/-- A record changes, or leaves, with all that the belt has of it. -/
theorem BeltIn.leave {tag : Nat} (h : BeltIn fs marks waiting opened labels) (ha : Alters fs fs' tag) (hm : marks' ⊆ marks)
    (hmt : ∀ m ∈ marks', m.1 ≠ tag) (hw : waiting'.Sublist waiting) (hwt : tag ∉ waiting') (hl : labels'.Sublist labels)
    (hlt : tag ∉ labels') : BeltIn fs' marks' waiting' opened labels' :=
  h.shrink hm hw hl (fun m hm' => (ha.shows (hmt m hm') _).2) (fun _ hx => (ha.shows (ne_of_mem_of_not_mem hx hwt) _).2)
    fun _ hx => Or.imp (ha.shows (ne_of_mem_of_not_mem hx hlt) _).2 (ha.shows (ne_of_mem_of_not_mem hx hlt) _).2

/-- A tag whose record is not on the belt has no entry and no waiting CLEAR. -/
theorem BeltIn.off_belt (h : BeltIn fs marks waiting opened labels) (ha : Apart fs) {f : Face} (hf : f ∈ fs)
    (hbelt : f.2.1 ≠ .onBelt) : (∀ m ∈ marks, m.1 ≠ f.1) ∧ f.1 ∉ waiting := by
  have hno : ¬Shows fs f.1 .onBelt := by
    rintro ⟨sd, hs⟩
    exact hbelt (ha.state_eq (sd' := f.2.2) hs hf).1.symm
  exact ⟨fun m hm he => hno (he ▸ h.actions m hm), fun hw => hno (h.cleared _ hw)⟩

/-- A tag whose record is neither on the belt nor waiting for its label to be applied has nothing of the belt. -/
theorem BeltIn.untouched (h : BeltIn fs marks waiting opened labels) (ha : Apart fs) {f : Face} (hf : f ∈ fs)
    (hbelt : f.2.1 ≠ .onBelt) (hlabel : f.2.1 ≠ .labelPending) :
    (∀ m ∈ marks, m.1 ≠ f.1) ∧ f.1 ∉ waiting ∧ f.1 ∉ labels := by
  obtain ⟨hm, hw⟩ := h.off_belt ha hf hbelt
  have hno : ∀ st, Shows fs f.1 st → st = f.2.1 := by
    rintro st ⟨sd, hs⟩
    exact (ha.state_eq (sd' := f.2.2) hs hf).1
  exact ⟨hm, hw, fun hl => (h.printed _ hl).elim (fun hs => hlabel (hno _ hs).symm) fun hs => hbelt (hno _ hs).symm⟩

/-- An entry is made for a record on the belt; a CLEAR-CHUTE for one that has no waiting CLEAR and whose MAKE is taken. -/
theorem BeltIn.enter (h : BeltIn fs marks waiting opened labels) {m : Nat × Bool} (hm : Shows fs m.1 .onBelt)
    (hclear : m.2 = true → m.1 ∉ waiting ∧ opened ≠ some m.1) : BeltIn fs (marks ++ [m]) waiting opened labels := by
  have hmem : ∀ x ∈ marks ++ [m], x ∈ marks ∨ x = m := fun x hx => by simpa using hx
  refine ⟨fun x hx => ?_, h.nodup, h.cleared, fun x hx hc => ?_, fun t ht => ⟨(h.unclosed t ht).1, fun x hx hc => ?_⟩,
    h.single, h.printed⟩
  · obtain hx | rfl := hmem x hx
    · exact h.actions x hx
    · exact hm
  · obtain hx | rfl := hmem x hx
    · exact h.once x hx hc
    · exact (hclear hc).1
  · obtain hx | rfl := hmem x hx
    · exact (h.unclosed t ht).2 x hx hc
    · exact fun he => (hclear hc).2 (he ▸ ht)

/-- A CLEAR waits for a record on the belt that has none in the table and none that waits. -/
theorem BeltIn.wait (h : BeltIn fs marks waiting none labels) {tag : Nat} (ht : Shows fs tag .onBelt)
    (hw : tag ∉ waiting) (hm : ∀ m ∈ marks, m.2 = true → m.1 ≠ tag) : BeltIn fs marks (waiting ++ [tag]) none labels := by
  have hmem : ∀ x ∈ waiting ++ [tag], x ∈ waiting ∨ x = tag := fun x hx => by simpa using hx
  refine ⟨h.actions, ?_, fun x hx => ?_, fun x hx hc hin => ?_, fun _ h => (nomatch h), h.single, h.printed⟩
  · exact h.nodup.append (by simp) (by simpa using hw)
  · obtain hx | rfl := hmem x hx
    · exact h.cleared x hx
    · exact ht
  · obtain hin | he := hmem _ hin
    · exact h.once x hx hc hin
    · exact hm x hx hc he

/-- The open parcel's record has neither a CLEAR in the table nor one that waits; another is opened, or none. -/
theorem BeltIn.reopen (h : BeltIn fs marks waiting opened labels) {opened' : Option Nat}
    (ho : ∀ t, opened' = some t → t ∉ waiting ∧ ∀ m ∈ marks, m.2 = true → m.1 ≠ t) :
    BeltIn fs marks waiting opened' labels := ⟨h.actions, h.nodup, h.cleared, h.once, ho, h.single, h.printed⟩

end BeltIn

end Sys2Proof.Machine
end

section
/-! The state's records in order: what its bookings do to them. -/

namespace Sys2Proof.Machine

/-! ### The state's lists as the order sees them -/

/-- The marks of the action table (R168). -/
def State.actionMarks (s : State) : List (Nat × Bool) := s.outfeed.actions.map Action.mark

/-- The tags of the waiting CLEARs (R167). -/
def State.waitingTags (s : State) : List Nat := s.outfeed.pendingClear.map Prod.fst

/-- The tags of the print order (R180). -/
def State.labelTags (s : State) : List Nat := s.label.printOrder.map Label.tag

/-- The belt's part of the order, for a tag of the open parcel. -/
def State.Belted (s : State) (o : Option Nat) : Prop :=
  BeltIn s.queue.faces s.actionMarks s.waitingTags o s.labelTags

/-- The records in order between two events. -/
structure State.InOrder (s : State) (o : Option Nat) : Prop where
  apart : Apart s.queue.faces
  plate : PlateIn s.queue.faces s.dispatch.line s.dispatch.current
  belt : s.Belted o

/-- The records in order while bookings are made. -/
structure State.Bookable (s : State) (o : Option Nat) : Prop where
  apart : Apart s.queue.faces
  bookings : BookingsOk s.queue.faces s.dispatch.line s.dispatch.current
  belt : s.Belted o

/-- The records in order while a booking is tried as the current one. -/
structure State.Trying (s : State) (b : Booking) (o : Option Nat) : Prop where
  apart : Apart s.queue.faces
  bookings : BookingsOk s.queue.faces s.dispatch.line (some b)
  testing : b.asking = false
  belt : s.Belted o

theorem Apart.frame {q q' : ParcelQueue} (h : Apart q.faces) (hq : TagsFrame q q') : Apart q'.faces := by
  rw [Apart, ParcelQueue.faces_fst] at h ⊢
  exact h.sublist hq.tags

section InOrder
variable {s t : State} {o : Option Nat} {b : Booking}

theorem State.inOrder_iff (h : s.TagsOk) : s.InOrder s.outfeed.openTag ↔ s.PlateOk ∧ s.BeltOk := by
  rw [State.plateOk_iff h, State.beltOk_iff]
  exact ⟨fun h => ⟨h.plate, h.belt⟩, fun h' => ⟨h.apart, h'.1, h'.2⟩⟩

theorem State.InOrder.bookable (h : s.InOrder o) : s.Bookable o := ⟨h.apart, h.plate.bookings h.apart, h.belt⟩

/-- Bookings that are settled leave the records in order (R93). -/
theorem State.Bookable.settled (h : s.Bookable o) (hcur : ∀ b, s.dispatch.current = some b → b.asking = true)
    (hserved : s.dispatch.current = none → s.dispatch.line = []) : s.InOrder o :=
  ⟨h.apart, h.bookings.settled hcur hserved, h.belt⟩

/-- The faces stand, and nothing is added to the belt's lists. -/
theorem State.Belted.same (h : s.Belted o) (hf : t.queue.faces = s.queue.faces) (hm : t.actionMarks ⊆ s.actionMarks)
    (hw : t.waitingTags.Sublist s.waitingTags) (hl : t.labelTags.Sublist s.labelTags) : t.Belted o := by
  rw [State.Belted, hf]
  exact BeltIn.sub h hm hw hl

theorem State.InOrder.same (h : s.InOrder o) (hf : t.queue.faces = s.queue.faces)
    (hline : t.dispatch.line = s.dispatch.line) (hcur : t.dispatch.current = s.dispatch.current)
    (hm : t.actionMarks ⊆ s.actionMarks) (hw : t.waitingTags.Sublist s.waitingTags)
    (hl : t.labelTags.Sublist s.labelTags) : t.InOrder o :=
  ⟨hf ▸ h.apart, hf ▸ hline ▸ hcur ▸ h.plate, h.belt.same hf hm hw hl⟩

/-- What the bookings leave of the belt. -/
theorem State.Belted.of_books (h : s.Belted o) (hf : t.queue.faces = s.queue.faces) (hb : BooksFrame s t) : t.Belted o := by
  refine h.same hf ?_ ?_ ?_
  · rw [State.actionMarks, State.actionMarks, hb.outfeed]
    exact fun _ => id
  · rw [State.waitingTags, State.waitingTags, hb.outfeed]
  · rw [State.labelTags, State.labelTags, hb.label]

end InOrder

/-! ### A booking that ends or asks -/

/-- The face of the record whose booking is tried: on the plate, or QUOTED with its quote withdrawn. -/
theorem BookingsOk.tried {fs : List Face} {line : List Request} {b : Booking} (h : BookingsOk fs line (some b)) :
    ∃ f ∈ fs, f.1 = b.request.tag ∧ f.2.1 ≠ .onBelt ∧ f.2.1 ≠ .labelPending ∧
      (b.request.rated = true → f.2.1.onPlate = true) := by
  obtain ⟨sd, hs⟩ | ⟨-, hp⟩ := h.current b rfl
  · exact ⟨_, hs, rfl, by simp, by simp, fun _ => rfl⟩
  · unfold Pending at hp
    split at hp
    · obtain ⟨sd, hs⟩ := hp
      exact ⟨_, hs, rfl, by simp, by simp, fun _ => rfl⟩
    next hr => exact ⟨_, hp, rfl, by simp, by simp, fun h => absurd h hr⟩

theorem BookingsOk.line_ne {fs : List Face} {line : List Request} {b : Booking} (h : BookingsOk fs line (some b)) :
    (∀ r ∈ line, r.tag ≠ b.request.tag) ∧ (line.map Request.tag).Nodup := by
  have hn := h.nodup
  simp only [Option.toList_some, List.map_cons, List.map_nil, List.singleton_append, List.nodup_cons] at hn
  exact ⟨fun r hr ht => hn.1 (ht ▸ List.mem_map_of_mem hr), hn.2⟩

section Trying
variable {s t : State} {o : Option Nat} {b : Booking}

/-- The record of the booking changes alone, and takes nothing from the belt. -/
theorem State.Trying.belted (h : s.Trying b o) (hb : BooksFrame s t)
    (ha : Alters s.queue.faces t.queue.faces b.request.tag) : t.Belted o := by
  obtain ⟨f, hf, htag, hbelt, hlabel, -⟩ := h.bookings.tried
  obtain ⟨hm, hw, hl⟩ := BeltIn.untouched h.belt h.apart hf hbelt hlabel
  rw [htag] at hm hw hl
  have hlists : t.actionMarks = s.actionMarks ∧ t.waitingTags = s.waitingTags ∧ t.labelTags = s.labelTags := by
    simp only [State.actionMarks, State.waitingTags, State.labelTags, hb.outfeed, hb.label, and_self]
  obtain ⟨h1, h2, h3⟩ := hlists
  rw [State.Belted, h1, h2, h3]
  exact BeltIn.leave h.belt ha (fun _ => id) hm (.refl _) hw (.refl _) hl

/-- A quote placed ends the booking (R70, R94). -/
theorem State.Trying.placed (h : s.Trying b o) (hb : BooksFrame s t) {on : Booked}
    (hq : t.queue = s.queue.update b.request.tag (fun p => p.quoted on)) (hline : t.dispatch.line = s.dispatch.line)
    (hcur : t.dispatch.current = none) : t.Bookable o := by
  have ha : Alters s.queue.faces t.queue.faces b.request.tag := hq ▸ s.queue.update_alters _ fun _ ht => ht
  obtain ⟨hne, hnodup⟩ := h.bookings.line_ne
  have hplate : OnePlate t.queue.faces := h.bookings.onePlate.alter ha fun g hg ht => by
    obtain ⟨p, -, -, rfl⟩ := ParcelQueue.mem_faces_update (hq ▸ hg) ht
    rfl
  refine ⟨h.apart.frame (hq ▸ .update _ _ fun _ => rfl), ?_, h.belted hb ha⟩
  rw [hline, hcur]
  refine ⟨hplate, by simpa using hnodup, fun r hr => ?_, fun _ h => nomatch h⟩
  exact (ha.pending (hne r hr)).2 (h.bookings.waits r hr)

theorem State.Trying.bookOn (h : s.Trying b o) (day slot : Nat) : (s.bookOn b day slot).Bookable o :=
  h.placed (s.bookOn_books b day slot) rfl rfl rfl

theorem State.Trying.bookDeferred (h : s.Trying b o) : (s.bookDeferred b).Bookable o :=
  h.placed (s.bookDeferred_books b) rfl rfl rfl

/-- A booking that may ask leaves its record alone on the plate (R60, R69, R95). -/
theorem State.Trying.askFor (h : s.Trying b o) (hask : s.mayAsk b = true) (e : Entry) : (s.askFor b e).Bookable o ∧
    ∀ b', (s.askFor b e).dispatch.current = some b' → b'.asking = true := by
  have hq : (s.askFor b e).queue = s.queue.update b.request.tag (fun p => { p with state := .seeking }) := by
    rw [State.askFor, State.openAsk_queue]
    rfl
  have hd : (s.askFor b e).dispatch = { s.dispatch with current := some { b with asked := true, asking := true } } := by
    rw [State.askFor, State.openAsk_dispatch]
    rfl
  have ha : Alters s.queue.faces (s.askFor b e).queue.faces b.request.tag := hq ▸ s.queue.update_alters _ fun _ ht => ht
  obtain ⟨f, hf, htag, hbelt, hlabel, hrated⟩ := h.bookings.tried
  have halone : ∀ g ∈ s.queue.faces, g.2.1.onPlate = true → g.1 = b.request.tag := by
    simp only [State.mayAsk, Bool.and_eq_true, Bool.or_eq_true, Bool.not_eq_true'] at hask
    obtain ⟨-, hr | hother⟩ := hask
    · exact fun g hg hp => (h.bookings.onePlate g hg f hf hp (hrated hr)).trans htag
    · intro g hg hp
      obtain ⟨p, hp', rfl⟩ := List.mem_map.1 hg
      by_contra ht
      rw [ParcelQueue.otherOnPlate, List.any_eq_false] at hother
      exact hother p hp' (by simpa [Parcel.face] using And.intro ht hp)
  obtain ⟨hne, hnodup⟩ := h.bookings.line_ne
  refine ⟨⟨h.apart.frame (hq ▸ .update _ _ fun _ => rfl), ?_, h.belted (s.askFor_books b e) ha⟩, fun b' hb' => ?_⟩
  · rw [hd]
    refine ⟨.of_alone ha halone, h.bookings.nodup, fun r hr => ?_, fun b' hb' => .inl ?_⟩
    · exact (ha.pending (hne r hr)).2 (h.bookings.waits r hr)
    · obtain rfl := Option.some.inj hb'
      obtain ⟨p, hp, hface⟩ := List.mem_map.1 hf
      refine ⟨p.standing, ?_⟩
      rw [hq]
      refine List.mem_map.2 ⟨{ p with state := .seeking }, List.mem_map.2 ⟨p, hp, ?_⟩, ?_⟩
      · exact if_pos ((congrArg Prod.fst hface).trans htag)
      · rw [← htag, ← hface]
        rfl
  · rw [hd] at hb'
    obtain rfl := Option.some.inj hb'
    rfl

/-- A booking that rolls is tried on (R94). -/
theorem State.Trying.roll (h : s.Trying b o) :
    (s.setDispatch { s.dispatch with current := some (s.dispatch.rolled b) }).Trying (s.dispatch.rolled b) o := by
  refine ⟨h.apart, ⟨h.bookings.onePlate, h.bookings.nodup, h.bookings.waits, fun b' hb' => ?_⟩, rfl, h.belt⟩
  obtain rfl := Option.some.inj hb'
  exact (h.bookings.current b rfl).imp id fun hp => ⟨rfl, hp.2⟩

theorem State.Trying.tryEntries (n : Nat) (h : s.Trying b o) : (State.tryEntries n s b).Bookable o ∧
    ∀ b', (State.tryEntries n s b).dispatch.current = some b' → b'.asking = true := by
  induction n generalizing s b with
  | zero => exact ⟨h.bookDeferred, fun b' hb' => nomatch hb'⟩
  | succ n ih =>
    unfold State.tryEntries
    split
    · exact ⟨h.bookDeferred, fun b' hb' => nomatch hb'⟩
    split
    · exact ⟨h.bookOn _ _, fun b' hb' => nomatch hb'⟩
    split
    next hask => exact h.askFor hask _
    next => exact ih h.roll

end Trying

/-! ### The line served -/

section Serving
variable {s : State} {o : Option Nat}

theorem State.Bookable.trying (h : s.Bookable o) {b : Booking} (hb : s.dispatch.current = some b)
    (hasking : b.asking = false) : s.Trying b o := ⟨h.apart, hb ▸ h.bookings, hasking, h.belt⟩

theorem State.Bookable.tryCurrent (h : s.Bookable o) : s.tryCurrent.Bookable o ∧
    ∀ b, s.tryCurrent.dispatch.current = some b → b.asking = true := by
  unfold State.tryCurrent
  split
  next b hb =>
    split
    next hasking => exact ⟨h, fun b' hb' => by rw [hb] at hb'; exact Option.some.inj hb' ▸ hasking⟩
    next hasking => exact (h.trying hb (by simpa using hasking)).tryEntries _
  next hb => exact ⟨h, fun b' hb' => by simp [hb] at hb'⟩

/-- The first request of the line becomes the current booking (R93). -/
theorem State.Bookable.serve (h : s.Bookable o) {r : Request} {rest : List Request} (hc : s.dispatch.current = none)
    (hl : s.dispatch.line = r :: rest) :
    (s.setDispatch { s.dispatch with line := rest, current := some (s.dispatch.start r) }).Bookable o := by
  have hb := h.bookings
  rw [hc, hl] at hb
  refine ⟨h.apart, ⟨hb.onePlate, hb.nodup, fun x hx => hb.waits x (List.mem_cons_of_mem _ hx), ?_⟩, h.belt⟩
  intro b' hb'
  obtain rfl := Option.some.inj hb'
  exact .inr ⟨rfl, hb.waits r List.mem_cons_self⟩

/-- The line served to its end, or to a booking that asks, leaves the records in order (R93). -/
theorem State.Bookable.serveFor (n : Nat) (h : s.Bookable o) (hasks : ∀ b, s.dispatch.current = some b → b.asking = true)
    (hn : s.dispatch.line.length ≤ n) : (State.serveFor n s).InOrder o := by
  induction n generalizing s with
  | zero =>
    exact h.settled hasks fun _ => List.eq_nil_of_length_eq_zero (Nat.le_zero.1 hn)
  | succ n ih =>
    unfold State.serveFor
    split
    next r rest hc hl =>
      obtain ⟨hbook, hask⟩ := (h.serve hc hl).tryCurrent
      refine ih hbook hask ?_
      have hline : (State.tryCurrent (s.setDispatch
          { s.dispatch with line := rest, current := some (s.dispatch.start r) })).dispatch.line = rest := by
        rw [State.tryCurrent]
        exact State.tryEntries_line _ _ _
      rw [hline]
      rw [hl, List.length_cons] at hn
      omega
    next hno =>
      refine h.settled hasks fun hc => ?_
      cases hl : s.dispatch.line with
      | nil => rfl
      | cons r rest => exact absurd hl (hno r rest hc)

theorem State.Bookable.serveLine (h : s.Bookable o) (hasks : ∀ b, s.dispatch.current = some b → b.asking = true) :
    s.serveLine.InOrder o := h.serveFor _ hasks (Nat.le_refl _)

/-- The bookings made leave the records in order (R89, R93). -/
theorem State.Bookable.made (h : s.Bookable o) : s.bookings.InOrder o := by
  obtain ⟨hbook, hasks⟩ := h.tryCurrent
  exact hbook.serveLine hasks

end Serving

end Sys2Proof.Machine
end

section
/-! The records in order through the ends of asks, the closings and the hall. -/

namespace Sys2Proof.Machine

/-! ### QUOTEs and asks -/

section Asks
variable {s t : State} {o : Option Nat}

theorem State.quoteDue_faces (s : State) (p : Parcel) : (s.quoteDue p).queue.faces = s.queue.faces := by
  unfold State.quoteDue
  split
  · rfl
  · exact ParcelQueue.faces_owe _ _ _

theorem State.quotesDue_faces (s was : State) : (s.quotesDue was).queue.faces = s.queue.faces := by
  suffices ∀ (ps : List Parcel) (s : State), (ps.foldl State.quoteDue s).queue.faces = s.queue.faces from this _ s
  intro ps
  induction ps with
  | nil => exact fun _ => rfl
  | cons p ps ih => exact fun s => (ih _).trans (s.quoteDue_faces p)

/-- The faces, the line and the current booking stand. -/
theorem State.InOrder.of_books (h : s.InOrder o) (hb : BooksFrame s t) (hf : t.queue.faces = s.queue.faces)
    (hline : t.dispatch.line = s.dispatch.line) (hcur : t.dispatch.current = s.dispatch.current) : t.InOrder o :=
  ⟨hf ▸ h.apart, hf ▸ hline ▸ hcur ▸ h.plate, h.belt.of_books hf hb⟩

theorem State.Bookable.of_books (h : s.Bookable o) (hb : BooksFrame s t) (hf : t.queue.faces = s.queue.faces)
    (hline : t.dispatch.line = s.dispatch.line) (hcur : t.dispatch.current = s.dispatch.current) : t.Bookable o :=
  ⟨hf ▸ h.apart, hf ▸ hline ▸ hcur ▸ h.bookings, h.belt.of_books hf hb⟩

theorem State.InOrder.quotesDue (h : s.InOrder o) (was : State) : (s.quotesDue was).InOrder o := by
  obtain ⟨q, rs, hq⟩ := s.quotesDue_frame was
  exact h.of_books (s.quotesDue_books was) (s.quotesDue_faces was) (by rw [hq]) (by rw [hq])

theorem State.InOrder.closeAsk (h : s.InOrder o) : s.closeAsk.InOrder o :=
  h.of_books s.closeAsk_books (by rw [s.closeAsk_queue]) (by rw [s.closeAsk_dispatch]) (by rw [s.closeAsk_dispatch])

theorem State.Bookable.closeAsk (h : s.Bookable o) : s.closeAsk.Bookable o :=
  h.of_books s.closeAsk_books (by rw [s.closeAsk_queue]) (by rw [s.closeAsk_dispatch]) (by rw [s.closeAsk_dispatch])

/-- The ask's end puts the booking back in TESTING, and the bookings go on (R96). -/
theorem State.InOrder.reportAskEnd (h : s.InOrder o) : s.reportAskEnd.InOrder o := by
  unfold State.reportAskEnd
  split
  next b hb =>
    split
    · refine State.Bookable.made ⟨h.apart, ?_, h.belt⟩
      have hbook := h.bookable.bookings
      rw [hb] at hbook
      refine ⟨hbook.onePlate, hbook.nodup, hbook.waits, fun b' hb' => ?_⟩
      obtain rfl := Option.some.inj hb'
      exact .inl (h.plate.current b hb).2
    · exact h
  · exact h

theorem State.InOrder.endAskSince (h : s.InOrder o) (was : State) : (s.endAskSince was).InOrder o := by
  unfold State.endAskSince
  split
  · exact h.closeAsk.reportAskEnd.quotesDue was
  · exact h

theorem State.InOrder.askEnding (h : s.InOrder o) (e : Ending) : (s.askEnding e).InOrder o := by
  unfold State.askEnding
  split
  · exact h
  · split
    case h_3 => exact h.closeAsk.reportAskEnd
    case h_4 => exact h.closeAsk.reportAskEnd
    all_goals exact h.of_books (by constructor <;> rfl) rfl rfl rfl

end Asks

/-! ### Closings -/

section Closing
variable {s : State} {o : Option Nat}

/-- A current booking that rolls is tried on, or ends DEFERRED (R89, R94). -/
theorem State.Bookable.roll (h : s.Bookable o) {b : Booking} (hb : s.dispatch.current = some b) :
    s.Trying (s.dispatch.rolled b) o := by
  have hbook := h.bookings
  rw [hb] at hbook
  refine ⟨h.apart, ⟨hbook.onePlate, hbook.nodup, hbook.waits, fun b' hb' => ?_⟩, rfl, h.belt⟩
  obtain rfl := Option.some.inj hb'
  exact (hbook.current b rfl).imp id fun hp => ⟨rfl, hp.2⟩

theorem State.Trying.bookable {b : Booking} (h : s.Trying b o) :
    (s.setDispatch { s.dispatch with current := some b }).Bookable o := ⟨h.apart, h.bookings, h.belt⟩

theorem State.Bookable.rollClosed (h : s.Bookable o) (route day slot : Nat) : (s.rollClosed route day slot).Bookable o := by
  unfold State.rollClosed
  split
  next b hb =>
    split
    · dsimp only
      split
      · exact (h.roll hb).bookable
      · exact (h.roll hb).bookDeferred
    · exact h
  · exact h

theorem State.Bookable.closeAskFor (h : s.Bookable o) (route day slot : Nat) :
    (s.closeAskFor route day slot).Bookable o := by
  unfold State.closeAskFor
  split
  · exact h.closeAsk.rollClosed _ _ _
  · exact h.rollClosed _ _ _

theorem Parcel.entryClosed_state (p : Parcel) (route day slot : Nat) : (p.entryClosed route day slot).state = p.state := by
  unfold Parcel.entryClosed
  split
  · rfl
  · split <;> rfl

/-- A record is withdrawn by a closing if its standing quote is on the entry, and keeps its standing otherwise. -/
theorem Parcel.entryClosed_standing (p : Parcel) (route day slot : Nat) : (p.entryClosed route day slot).standing =
    if p.quotedOn route day slot then some false else p.standing := by
  unfold Parcel.entryClosed
  split
  · rfl
  · split <;> rfl

/-- The faces once the standing quotes on an entry are withdrawn. -/
def closedFaces (ps : List Parcel) (route day slot : Nat) : List Face :=
  (ps.map (fun p => p.entryClosed route day slot)).map Parcel.face

section Requote
variable {ps : List Parcel} {route day slot : Nat}

theorem mem_closedFaces {p : Parcel} (hp : p ∈ ps) :
    (p.tag, p.state, if p.quotedOn route day slot then some false else p.standing) ∈ closedFaces ps route day slot := by
  refine List.mem_map.2 ⟨_, List.mem_map_of_mem hp, ?_⟩
  rw [Parcel.face, p.entryClosed_tag, p.entryClosed_state, p.entryClosed_standing]

theorem of_mem_closedFaces {f : Face} (hf : f ∈ closedFaces ps route day slot) :
    ∃ g ∈ ps.map Parcel.face, g.1 = f.1 ∧ g.2.1 = f.2.1 := by
  simp only [closedFaces, List.map_map, List.mem_map, Function.comp_apply] at hf
  obtain ⟨p, hp, rfl⟩ := hf
  exact ⟨p.face, List.mem_map_of_mem hp, (p.entryClosed_tag _ _ _).symm, (p.entryClosed_state _ _ _).symm⟩

theorem shows_closedFaces {tag : Nat} {st : PState} (h : Shows (ps.map Parcel.face) tag st) :
    Shows (closedFaces ps route day slot) tag st := by
  obtain ⟨sd, h⟩ := h
  obtain ⟨p, hp, he⟩ := List.mem_map.1 h
  simp only [Parcel.face, Prod.mk.injEq] at he
  obtain ⟨rfl, rfl, -⟩ := he
  exact ⟨_, mem_closedFaces hp⟩

theorem pending_closedFaces {r : Request} (h : Pending (ps.map Parcel.face) r) :
    Pending (closedFaces ps route day slot) r := by
  unfold Pending at h ⊢
  split
  next hr =>
    rw [if_pos hr] at h
    exact shows_closedFaces h
  next hr =>
    rw [if_neg hr] at h
    obtain ⟨p, hp, he⟩ := List.mem_map.1 h
    have hmem := mem_closedFaces (route := route) (day := day) (slot := slot) hp
    simp only [Parcel.face, Prod.mk.injEq] at he
    obtain ⟨htag, hstate, hstanding⟩ := he
    rw [htag, hstate, hstanding, ite_self] at hmem
    exact hmem

/-- A request of a record that is requoted: the record had a standing quote (R71). -/
theorem of_mem_requotes {r : Request} (hr : r ∈ requotes ps route day slot) : ∃ p ∈ ps, p.quotedOn route day slot = true ∧
    r.tag = p.tag ∧ r.rated = false ∧ (p.tag, PState.quoted, some true) ∈ ps.map Parcel.face := by
  obtain ⟨p, hp, rfl⟩ := List.mem_map.1 hr
  obtain ⟨hp, hon⟩ := List.mem_filter.1 hp
  obtain ⟨⟨hstate, hstanding⟩, -⟩ := Parcel.quotedOn_iff.1 hon
  exact ⟨p, hp, hon, rfl, rfl, List.mem_map.2 ⟨p, hp, by rw [Parcel.face, hstate, hstanding]⟩⟩

end Requote

/-- A record with a standing quote has no booking that waits. -/
theorem BookingsOk.not_standing {fs : List Face} {line : List Request} {cur : Option Booking} (h : BookingsOk fs line cur)
    (ha : Apart fs) {tag : Nat} (hs : (tag, PState.quoted, some true) ∈ fs) :
    tag ∉ cur.toList.map (fun b => b.request.tag) ++ line.map Request.tag := by
  have hpending : ∀ r : Request, r.tag = tag → ¬Pending fs r := by
    rintro r rfl hp
    unfold Pending at hp
    split at hp
    · obtain ⟨sd, hp⟩ := hp
      simpa using (ha.state_eq hs hp).1
    · simpa using (ha.state_eq hs hp).2
  intro hmem
  obtain hb | hr := List.mem_append.1 hmem
  · obtain ⟨b, hb, htag⟩ := List.mem_map.1 hb
    obtain ⟨sd, hseek⟩ | ⟨-, hp⟩ := h.current b (Option.mem_toList.1 hb)
    · rw [htag] at hseek
      simpa using (ha.state_eq hs hseek).1
    · exact hpending _ htag hp
  · obtain ⟨r, hr, htag⟩ := List.mem_map.1 hr
    exact hpending r htag (h.waits r hr)

/-- The records whose standing quotes close are withdrawn, and their requests join the line (R71, R103). -/
theorem State.Bookable.requote (h : s.Bookable o) (route day slot : Nat) :
    ((s.setDispatch { s.dispatch with line := s.dispatch.line ++ requotes s.queue.parcels route day slot }).setQueue
      { s.queue with parcels := s.queue.parcels.map (fun p => p.entryClosed route day slot) }).Bookable o := by
  have hplate : OnePlate (closedFaces s.queue.parcels route day slot) := by
    intro f hf g hg hfp hgp
    obtain ⟨f', hf', hft, hfs⟩ := of_mem_closedFaces hf
    obtain ⟨g', hg', hgt, hgs⟩ := of_mem_closedFaces hg
    rw [← hft, ← hgt]
    exact h.bookings.onePlate f' hf' g' hg' (hfs ▸ hfp) (hgs ▸ hgp)
  refine ⟨h.apart.frame (.map s.queue (fun p => p.entryClosed_tag _ _ _) _), ⟨hplate, ?_, fun r hr => ?_, fun b hb => ?_⟩, ?_⟩
  · show (_ ++ (s.dispatch.line ++ requotes s.queue.parcels route day slot).map Request.tag).Nodup
    rw [List.map_append, ← List.append_assoc]
    refine h.bookings.nodup.append ?_ fun tag htag hnew => ?_
    · have hapart := h.apart
      rw [Apart, ParcelQueue.faces_fst] at hapart
      rw [requotes, List.map_map]
      exact hapart.sublist (List.filter_sublist.map _)
    · obtain ⟨r, hr, rfl⟩ := List.mem_map.1 hnew
      obtain ⟨p, -, -, ht, -, hface⟩ := of_mem_requotes hr
      exact h.bookings.not_standing h.apart (ht ▸ hface) htag
  · obtain hr | hr := List.mem_append.1 hr
    · exact pending_closedFaces (h.bookings.waits r hr)
    · obtain ⟨p, hp, hon, ht, hrated, -⟩ := of_mem_requotes hr
      have hmem := mem_closedFaces (route := route) (day := day) (slot := slot) hp
      obtain ⟨⟨hstate, -⟩, -⟩ := Parcel.quotedOn_iff.1 hon
      rw [if_pos hon, hstate, ← ht] at hmem
      rw [Pending, if_neg (by simp [hrated])]
      exact hmem
  · exact (h.bookings.current b hb).imp shows_closedFaces (And.imp_right pending_closedFaces)
  · exact BeltIn.keep h.belt fun _ _ _ => shows_closedFaces

theorem State.Bookable.closeHead (h : s.Bookable o) (route : Nat) (e : Entry) : (s.closeHead route e).Bookable o := by
  unfold State.closeHead
  extract_lets s1 s2 s3 s4 s5
  have h2 : s2.Bookable o := ⟨h.apart, h.bookings, h.belt⟩
  have h3 : s3.Bookable o := h2.closeAskFor _ _ _
  have h4 : s4.Bookable o := ⟨h3.apart, h3.bookings, h3.belt⟩
  exact h4.requote _ _ _

theorem State.Bookable.closeSpan (n : Nat) (h : s.Bookable o) (c : ClockTime) (d : Nat) :
    (State.closeSpan n s c d).Bookable o := by
  induction n generalizing s with
  | zero => exact h
  | succ n ih =>
    unfold State.closeSpan
    split
    · exact ih (h.closeHead _ _)
    · exact h

theorem State.Bookable.quiet {t : State} (h : s.Bookable o) (hq : Quiet s t) : t.Bookable o := by
  refine ⟨hq.queue ▸ h.apart, hq.queue ▸ hq.dispatch.line ▸ hq.dispatch.current ▸ h.bookings, h.belt.same (by rw [hq.queue]) ?_ ?_ ?_⟩
  · rw [State.actionMarks, hq.outfeed.actions]
    exact fun _ => id
  · rw [State.waitingTags, hq.outfeed.pendingClear]
    exact .refl _
  · exact hq.label.printOrder

theorem State.InOrder.quiet {t : State} (h : s.InOrder o) (hq : Quiet s t) : t.InOrder o := by
  have hb := h.bookable.quiet hq
  exact ⟨hb.apart, hq.queue ▸ hq.dispatch.line ▸ hq.dispatch.current ▸ h.plate, hb.belt⟩

theorem State.InOrder.stepForward (h : s.InOrder o) (c new : ClockTime) (d : Nat) : (s.stepForward c new d).InOrder o := by
  unfold State.stepForward
  extract_lets s1 s2
  have h1 : s1.Bookable o := h.bookable.closeSpan _ _ _
  have h2 : s2.Bookable o := by
    unfold s2
    split
    · exact h1
    · exact h1.quiet (.labelDay _ _)
  have h3 : (s2.setDispatch { s2.dispatch with clock := some new }).Bookable o := ⟨h2.apart, h2.bookings, h2.belt⟩
  exact h3.made.quotesDue s

end Closing

/-! ### The hall -/

section Hall
variable {s : State} {o : Option Nat}

/-- The records, the requests, the action table and the labels stand. -/
theorem State.InOrder.aside {t : State} (h : s.InOrder o) (hq : t.queue = s.queue) (hline : t.dispatch.line = s.dispatch.line)
    (hcur : t.dispatch.current = s.dispatch.current) (hb : HallFrame s t) : t.InOrder o := by
  refine h.same (by rw [hq]) hline hcur ?_ ?_ ?_
  · rw [State.actionMarks, State.actionMarks, hb.outfeed]
    exact fun _ => id
  · rw [State.waitingTags, State.waitingTags, hb.outfeed]
  · rw [State.labelTags, State.labelTags, hb.label]

theorem State.giveEnding_bookings (s : State) (g : TxGive) (e : Ending) :
    (s.giveEnding g e).dispatch.line = s.dispatch.line ∧ (s.giveEnding g e).dispatch.current = s.dispatch.current := by
  have hends : (s.dispatch.giveEnds g e).line = s.dispatch.line ∧ (s.dispatch.giveEnds g e).current = s.dispatch.current := by
    cases e <;> exact ⟨rfl, rfl⟩
  unfold State.giveEnding
  dsimp only
  cases g.live with
  | true => split <;> exact hends
  | false => split <;> exact ⟨rfl, rfl⟩

theorem State.InOrder.giveEnding (h : s.InOrder o) (g : TxGive) (e : Ending) : (s.giveEnding g e).InOrder o := by
  obtain ⟨hline, hcur⟩ := s.giveEnding_bookings g e
  exact h.aside (s.giveEnding_queue g e) hline hcur (s.giveEnding_halls g e)

theorem State.InOrder.dropGives (gs : List TxGive) (h : s.InOrder o) : (State.dropGives gs s).InOrder o := by
  induction gs generalizing s with
  | nil => exact h
  | cons g gs ih => exact ih (h.giveEnding g _)

theorem State.InOrder.setBus (h : s.InOrder o) (b : BusController) : (s.setBus b).InOrder o :=
  h.aside rfl rfl rfl (by constructor <;> rfl)

theorem State.InOrder.emptyQueue (h : s.InOrder o) : s.emptyQueue.InOrder o := (h.setBus _).dropGives _

theorem State.InOrder.raiseBus (h : s.InOrder o) : s.raiseBus.InOrder o := h.quiet (.raiseBus s)

theorem State.InOrder.changeBus (h : s.InOrder o) (st : BusState) : (s.changeBus st).InOrder o := (h.setBus _).raiseBus

theorem State.InOrder.enterFailed (h : s.InOrder o) (was : State) : (s.enterFailed was).InOrder o :=
  ((h.setBus _).emptyQueue.endAskSince was).raiseBus

theorem State.InOrder.quietTrigger (h : s.InOrder o) (was : State) : (s.quietTrigger was).InOrder o := by
  unfold State.quietTrigger
  dsimp only
  split
  · exact ((h.setBus _).changeBus _).emptyQueue.endAskSince was
  · exact (h.setBus _).enterFailed was

theorem State.InOrder.handBack (h : s.InOrder o) (was : BusController) (k : TxKind) (e : Ending) :
    (s.handBack was k e).InOrder o := by
  unfold State.handBack
  split
  · split
    · exact h.giveEnding _ _
    · exact h
  · exact h.askEnding e
  · split
    · split
      · split
        · exact h.changeBus _
        · exact h.changeBus _
        · exact h.setBus _
        · exact h
        · exact h
      · exact h
    · exact h

theorem State.InOrder.endFrame (h : s.InOrder o) (k : TxKind) (e : Ending) : (s.endFrame k e).InOrder o :=
  ((h.setBus _).handBack _ k e).quotesDue s

theorem State.InOrder.abandon (h : s.InOrder o) (k : TxKind) : (s.abandon k).InOrder o := by
  unfold State.abandon
  extract_lets _ s1 _ s2
  have h1 : s1.InOrder o := h.setBus _
  have h2 : s2.InOrder o := (h1.setBus _).handBack _ k .abandoned
  split
  · exact h1.endFrame k .abandoned
  · split
    · exact h2.quietTrigger s
    · exact (h2.quotesDue s).quietTrigger s

theorem State.InOrder.failAttempt (h : s.InOrder o) (k : TxKind) : (s.failAttempt k).InOrder o := by
  unfold State.failAttempt
  dsimp only
  split
  · exact h.setBus _
  · exact (h.setBus _).abandon k

end Hall

end Sys2Proof.Machine
end

section
/-! The records in order through the ends of records and the belt. -/

namespace Sys2Proof.Machine

/-! ### A record that ends -/

section Leaving
variable {s t : State} {o : Option Nat} {tag : Nat} {p : Parcel}

/-- A record changes off the plate, or leaves, with all that bookings and belt have of it. -/
theorem State.InOrder.leave (h : s.InOrder o) (hq : TagsFrame s.queue t.queue)
    (ha : Alters s.queue.faces t.queue.faces tag) (hoff : ∀ g ∈ t.queue.faces, g.1 = tag → g.2.1.onPlate = false)
    (hline : t.dispatch.line = s.dispatch.line) (hcur : t.dispatch.current = s.dispatch.current)
    (hu : NotBooked s.dispatch.line s.dispatch.current tag) (hm : t.actionMarks ⊆ s.actionMarks)
    (hmt : ∀ m ∈ t.actionMarks, m.1 ≠ tag) (hw : t.waitingTags.Sublist s.waitingTags) (hwt : tag ∉ t.waitingTags)
    (hl : t.labelTags.Sublist s.labelTags) (hlt : tag ∉ t.labelTags) : t.InOrder o := by
  refine ⟨h.apart.frame hq, ?_, BeltIn.leave h.belt ha hm hmt hw hwt hl hlt⟩
  rw [hline, hcur]
  exact h.plate.alter ha (h.plate.onePlate.alter ha hoff) hu

/-- A record that ends as a state goes on from its end: off the plate, its face changed alone. -/
theorem State.endParcel_off_plate (s : State) (p : Parcel) (e : EndOutcome) (r : Option Reason) :
    ∀ g ∈ (s.endParcel p e r).queue.faces, g.1 = p.tag → g.2.1.onPlate = false := fun g hg ht => by
  rw [(s.endParcel_faces p e r).2 g hg ht]
  exact e.state_final.1

theorem State.endParcel_lists (s : State) (p : Parcel) (e : EndOutcome) (r : Option Reason) :
    (s.endParcel p e r).dispatch = s.dispatch ∧ (s.endParcel p e r).outfeed = s.outfeed ∧
      (s.endParcel p e r).label = s.label := by
  unfold State.endParcel
  split <;> exact ⟨rfl, rfl, rfl⟩

/-- The lists of the belt stand as they were. -/
theorem State.lists_of_eq (ho : t.outfeed = s.outfeed) (hl : t.label = s.label) :
    t.actionMarks = s.actionMarks ∧ t.waitingTags = s.waitingTags ∧ t.labelTags = s.labelTags := by
  simp only [State.actionMarks, State.waitingTags, State.labelTags, ho, hl, and_self]

/-- A record of the queue, as its face. -/
theorem State.InOrder.unbooked (h : s.InOrder o) (hp : p ∈ s.queue.parcels) (hseeking : p.state ≠ .seeking)
    (hquoted : p.state = .quoted → p.standing ≠ some false) : NotBooked s.dispatch.line s.dispatch.current p.tag :=
  h.plate.unbooked h.apart (ParcelQueue.mem_faces hp) hseeking hquoted

/-- A record that neither the bookings nor the belt stand on ends. -/
theorem State.InOrder.endParcel (h : s.InOrder o) (hp : p ∈ s.queue.parcels) (hseeking : p.state ≠ .seeking)
    (hquoted : p.state = .quoted → p.standing ≠ some false) (hbelt : p.state ≠ .onBelt) (hlabel : p.state ≠ .labelPending)
    (e : EndOutcome) (r : Option Reason) : (s.endParcel p e r).InOrder o := by
  obtain ⟨hd, ho, hl⟩ := s.endParcel_lists p e r
  obtain ⟨h1, h2, h3⟩ := State.lists_of_eq ho hl
  obtain ⟨hm, hw, hlt⟩ := BeltIn.untouched h.belt h.apart (ParcelQueue.mem_faces hp) hbelt hlabel
  exact h.leave (.endParcel s p e r) (s.endParcel_faces p e r).1 (s.endParcel_off_plate p e r) (by rw [hd]) (by rw [hd])
    (h.unbooked hp hseeking hquoted) (h1 ▸ fun _ => id) (h1 ▸ hm) (h2 ▸ .refl _) (h2 ▸ hw) (h3 ▸ .refl _) (h3 ▸ hlt)

/-- The label's way out of the slot, once it has left the print order. -/
theorem Quiet.discardSlot (s : State) (tag : Nat) : Quiet (s.leavePrintOrder tag) (s.discardLabel tag) := by
  unfold State.discardLabel
  dsimp only
  split
  next l hl =>
    split
    · refine .after (.slotEmptied _ fun ha => ?_) (.setLabel _ ⟨id, .refl _, fun _ => satAdd_le _ _ _⟩)
      exact ha.not_printing_of_slot (Option.isSome_iff_exists.2 ⟨l, hl⟩)
    · rfl
  next => rfl

theorem State.leavePrintOrder_tags (s : State) (tag : Nat) :
    (s.leavePrintOrder tag).labelTags.Sublist s.labelTags ∧ tag ∉ (s.leavePrintOrder tag).labelTags := by
  refine ⟨List.filter_sublist.map _, fun hmem => ?_⟩
  obtain ⟨l, hl, ht⟩ := List.mem_map.1 hmem
  obtain ⟨-, hne⟩ := List.mem_filter.1 hl
  exact bne_iff_ne.1 hne ht

/-- A record with no entry and no waiting CLEAR ends, its label discarded (R80, R183). -/
theorem State.InOrder.discard (h : s.InOrder o) {u : State} (hp : p ∈ s.queue.parcels) (hseeking : p.state ≠ .seeking)
    (hquoted : p.state ≠ .quoted) (hm : ∀ m ∈ s.actionMarks, m.1 ≠ p.tag) (hw : p.tag ∉ s.waitingTags) (e : EndOutcome)
    (r : Option Reason) (hq : u.queue = (s.endParcel p e r).queue) (hline : u.dispatch.line = s.dispatch.line)
    (hcur : u.dispatch.current = s.dispatch.current) (ho : u.outfeed = s.outfeed) (hl : u.label = s.label) :
    (u.discardLabel p.tag).InOrder o := by
  obtain ⟨h1, h2, h3⟩ := State.lists_of_eq ho hl
  obtain ⟨hsub, hnot⟩ := u.leavePrintOrder_tags p.tag
  refine State.InOrder.quiet (s := u.leavePrintOrder p.tag) ?_ (.discardSlot u p.tag)
  have hq' : (u.leavePrintOrder p.tag).queue = (s.endParcel p e r).queue := hq
  exact h.leave (hq' ▸ .endParcel s p e r) (hq' ▸ (s.endParcel_faces p e r).1) (hq' ▸ s.endParcel_off_plate p e r) hline hcur
    (h.unbooked hp hseeking fun h => absurd h hquoted) (h1 ▸ fun _ => id) (h1 ▸ hm) (h2 ▸ .refl _) (h2 ▸ hw) (h3 ▸ hsub) hnot

theorem DispatchTable.release_bookings (d : DispatchTable) (p : Parcel) :
    (d.release p).line = d.line ∧ (d.release p).current = d.current := by
  obtain ⟨rs, h⟩ := d.release_frame p
  rw [h]
  exact ⟨rfl, rfl⟩

/-- A record's end with its booking released and its label discarded. -/
theorem State.InOrder.endReleased (h : s.InOrder o) (hp : p ∈ s.queue.parcels) (hseeking : p.state ≠ .seeking)
    (hquoted : p.state ≠ .quoted) (hm : ∀ m ∈ s.actionMarks, m.1 ≠ p.tag) (hw : p.tag ∉ s.waitingTags) (e : EndOutcome)
    (r : Option Reason) : (((s.endParcel p e r).release p).discardLabel p.tag).InOrder o := by
  obtain ⟨hd, ho, hl⟩ := s.endParcel_lists p e r
  obtain ⟨hline, hcur⟩ := DispatchTable.release_bookings (s.endParcel p e r).dispatch p
  exact h.discard hp hseeking hquoted hm hw e r rfl (hline.trans (by rw [hd])) (hcur.trans (by rw [hd])) ho hl

theorem State.InOrder.endOnBelt (h : s.InOrder o) (hp : p ∈ s.queue.parcels) (hbelt : p.state = .onBelt)
    (hm : ∀ m ∈ s.actionMarks, m.1 ≠ p.tag) (hw : p.tag ∉ s.waitingTags) : (s.endOnBelt p).InOrder o := by
  unfold State.endOnBelt
  split
  next r _ => exact h.endReleased hp (by simp [hbelt]) (by simp [hbelt]) hm hw .rejected (some r)
  next =>
    obtain ⟨hd, ho, hl⟩ := s.endParcel_lists p .done none
    exact h.discard hp (by simp [hbelt]) (by simp [hbelt]) hm hw .done none rfl (by rw [hd]) (by rw [hd]) ho hl

end Leaving

/-! ### Actions carried out -/

section Actions
variable {s : State} {o : Option Nat} {tag : Nat} {a : Action}

theorem State.mark_faces (s : State) (tag : Nat) (f : Marks → Marks) : (s.mark tag f).queue.faces = s.queue.faces :=
  ParcelQueue.faces_update tag fun _ => rfl

theorem State.InOrder.mark (h : s.InOrder o) (tag : Nat) (f : Marks → Marks) : (s.mark tag f).InOrder o :=
  h.same (s.mark_faces tag f) rfl rfl (fun _ => id) (.refl _) (.refl _)

theorem Outfeed.divert_marks (u : Outfeed) (tag : Nat) :
    (u.divert tag).actions.map Action.mark = u.actions.map Action.mark ∧ (u.divert tag).pendingClear = u.pendingClear := by
  unfold Outfeed.divert
  split
  · refine ⟨?_, rfl⟩
    rw [List.map_map]
    refine List.map_congr_left fun a _ => ?_
    simp only [Function.comp_apply]
    split
    next hs =>
      unfold Action.setsFor at hs
      split at hs
      next hk => simp [Action.mark, hk]
      · exact absurd hs Bool.false_ne_true
      · exact absurd hs Bool.false_ne_true
    next => rfl
  · split <;> exact ⟨rfl, rfl⟩

theorem State.InOrder.markAndDivert (h : s.InOrder o) (tag : Nat) (f : Marks → Marks) : (s.markAndDivert tag f).InOrder o := by
  obtain ⟨hm, hw⟩ := (s.mark tag f).outfeed.divert_marks tag
  have hm' : (s.markAndDivert tag f).actionMarks = s.actionMarks := hm
  have hw' : (s.markAndDivert tag f).waitingTags = s.waitingTags := congrArg (List.map Prod.fst) hw
  exact h.same (s.mark_faces tag f) rfl rfl (hm' ▸ fun _ => id) (hw' ▸ .refl _) (.refl _)

theorem State.InOrder.carryApply (h : s.InOrder o) (tag : Nat) : (s.carryApply tag).InOrder o := by
  have hlate : ((s.markAndDivert tag (fun m => { m with labelLate := true })).leavePrintOrder tag).InOrder o :=
    (h.markAndDivert tag _).quiet (.leavePrintOrder _ _)
  unfold State.carryApply
  split
  next l hl =>
    split
    · have hfired : (s.setOutfeed { s.outfeed with strobes := s.outfeed.strobes + 1 }).InOrder o :=
        h.same rfl rfl rfl (fun _ => id) (.refl _) (.refl _)
      refine hfired.quiet (.slotEmptied _ fun ha => ?_)
      exact ha.not_printing_of_slot (Option.isSome_iff_exists.2 ⟨l, hl⟩)
    · exact hlate
  next => exact hlate

/-- A CLEAR-CHUTE of a record with no waiting CLEAR ends it with all its entries (R170, R171). -/
theorem State.InOrder.carryClear (h : s.InOrder o) (hw : tag ∉ s.waitingTags) : (s.carryClear tag).InOrder o := by
  unfold State.carryClear
  extract_lets s1 s2 s3
  have ho : s1.actionMarks = s.actionMarks ∧ s1.waitingTags = s.waitingTags := by
    simp only [s1, State.actionMarks, State.waitingTags, State.setOutfeed_outfeed, Outfeed.carryClear]
    split <;> exact ⟨rfl, rfl⟩
  have h1 : s1.InOrder o := h.same rfl rfl rfl (ho.1 ▸ fun _ => id) (ho.2 ▸ .refl _) (.refl _)
  have h2 : s2.InOrder o ∧ s2.actionMarks = s1.actionMarks ∧ s2.waitingTags = s1.waitingTags := by
    unfold s2
    split
    · exact ⟨h1.mark _ _, rfl, rfl⟩
    · exact ⟨h1, rfl, rfl⟩
  obtain ⟨h2, -, hw2⟩ := h2
  have hw3 : tag ∉ s3.waitingTags := by
    show tag ∉ s2.waitingTags
    rw [hw2, ho.2]
    exact hw
  have h3 : s3.InOrder o := h2.same rfl rfl rfl (List.map_subset _ (List.filter_subset_self _)) (.refl _) (.refl _)
  have hm3 : ∀ m ∈ s3.actionMarks, m.1 ≠ tag := by
    intro m hm ht
    obtain ⟨a, ha, rfl⟩ := List.mem_map.1 hm
    exact bne_iff_ne.1 (List.mem_filter.1 ha).2 ht
  split
  next p hp =>
    obtain ⟨hp, rfl, hbelt⟩ := ParcelQueue.beltRecord_mem hp
    exact h3.endOnBelt hp hbelt hm3 hw3
  next => exact h3

theorem State.InOrder.carry (h : s.InOrder o) (hw : a.kind = .clearChute → a.tag ∉ s.waitingTags) : (s.carry a).InOrder o := by
  unfold State.carry
  split
  next => exact h.carryApply _
  next => exact h.same rfl rfl rfl (fun _ => id) (.refl _) (.refl _)
  next hk => exact h.carryClear (hw hk)

/-- An action made for a record on the belt, a CLEAR-CHUTE once its MAKE is taken (R165, R167). -/
theorem State.InOrder.makeAction (h : s.InOrder o) (hon : Shows s.queue.faces a.tag .onBelt)
    (hclear : a.kind = .clearChute → a.tag ∉ s.waitingTags ∧ o ≠ some a.tag) : (s.makeAction a).InOrder o := by
  unfold State.makeAction
  split
  · exact h.carry fun hk => (hclear hk).1
  · refine ⟨h.apart, h.plate, ?_⟩
    have hmarks : State.actionMarks (s.setOutfeed { s.outfeed with actions := s.outfeed.actions ++ [a] }) =
        s.actionMarks ++ [a.mark] := List.map_append
    rw [State.Belted, hmarks]
    exact BeltIn.enter h.belt hon fun hk => hclear (by simpa [Action.mark] using hk)

/-- The oldest waiting CLEAR enters the table (R167). -/
theorem State.InOrder.clearIn {pos : Count} {rest : List (Nat × Count)} (h : s.InOrder o)
    (hp : s.outfeed.pendingClear = (tag, pos) :: rest) :
    ((s.setOutfeed { s.outfeed with pendingClear := rest }).makeAction ⟨pos, .clearChute, tag⟩).InOrder o := by
  have hwait : s.waitingTags = tag :: rest.map Prod.fst := by rw [State.waitingTags, hp]; rfl
  have hmem : tag ∈ s.waitingTags := by rw [hwait]; exact List.mem_cons_self
  have hnodup := h.belt.nodup
  rw [hwait, List.nodup_cons] at hnodup
  refine State.InOrder.makeAction ?_ (h.belt.cleared tag hmem) fun _ => ⟨hnodup.1, fun ho => ?_⟩
  · exact h.same rfl rfl rfl (fun _ => id) (hwait ▸ List.sublist_cons_self _ _) (.refl _)
  · exact (h.belt.unclosed tag ho).1 hmem

theorem State.InOrder.fillClears (n : Nat) (h : s.InOrder o) : (State.fillClears n s).InOrder o := by
  induction n generalizing s with
  | zero => exact h
  | succ n ih =>
    unfold State.fillClears
    split
    next hp =>
      split
      · exact ih (h.clearIn hp)
      · exact h
    next => exact h

end Actions

end Sys2Proof.Machine
end

section
/-! The records in order through every move, and so through every step (O57). -/

namespace Sys2Proof.Machine

/-! ### The open parcel through the belt's operations -/

section Opened
variable {s t : State} {o : Option Nat} {tag : Nat} {p : Parcel}

theorem State.carry_openParcel (s : State) (a : Action) : (s.carry a).outfeed.openParcel = s.outfeed.openParcel := by
  have hdivert : ∀ (u : Outfeed) (tag : Nat), (u.divert tag).openParcel = u.openParcel := by
    intro u tag
    unfold Outfeed.divert
    split
    · rfl
    · split <;> rfl
  unfold State.carry
  split
  · unfold State.carryApply
    split
    · split
      · rw [(State.slotEmptied_prints _).outfeed]
        rfl
      · exact hdivert _ _
    · exact hdivert _ _
  · rfl
  · have hclear : (s.outfeed.carryClear a.tag).openParcel = s.outfeed.openParcel := by
      unfold Outfeed.carryClear
      split <;> rfl
    unfold State.carryClear
    dsimp only
    split
    · rw [State.endOnBelt_outfeed]
      split <;> exact hclear
    · split <;> exact hclear

theorem State.makeAction_openParcel (s : State) (a : Action) :
    (s.makeAction a).outfeed.openParcel = s.outfeed.openParcel := by
  unfold State.makeAction
  split
  · exact s.carry_openParcel a
  · rfl

/-- The open parcel stands. -/
theorem State.InOrder.opened (h : t.InOrder s.outfeed.openTag) (ho : t.outfeed.openParcel = s.outfeed.openParcel) :
    t.InOrder t.outfeed.openTag := by
  rw [Outfeed.openTag, ho]
  exact h

/-- No condition on the open parcel: it is closed, or another of no record. -/
theorem State.InOrder.close (h : s.InOrder o) : s.InOrder none := ⟨h.apart, h.plate, BeltIn.reopen h.belt fun _ ht => nomatch ht⟩

/-- The state of nothing: no record, no request, no entry, no label. -/
theorem State.InOrder.of_empty (hq : s.queue.parcels = []) (hline : s.dispatch.line = []) (hcur : s.dispatch.current = none)
    (ha : s.outfeed.actions = []) (hp : s.outfeed.pendingClear = []) (hl : s.label.printOrder = []) : s.InOrder o := by
  have hfaces : s.queue.faces = [] := by rw [ParcelQueue.faces, hq]; rfl
  refine ⟨?_, ?_, ?_⟩
  · rw [hfaces]
    exact List.nodup_nil
  · rw [hfaces, hline, hcur]
    exact ⟨fun _ h => (nomatch h), List.nodup_nil, fun _ h => (nomatch h), fun _ h => (nomatch h), fun _ => rfl⟩
  · rw [State.Belted, hfaces, State.actionMarks, ha, State.waitingTags, hp, State.labelTags, hl]
    exact ⟨fun _ h => (nomatch h), List.nodup_nil, fun _ h => (nomatch h), fun _ h => (nomatch h),
      fun _ _ => ⟨fun h => (nomatch h), fun _ h => (nomatch h)⟩, List.nodup_nil, fun _ h => (nomatch h)⟩

end Opened

/-! ### The records' moves -/

section Records
variable {s : State} {o : Option Nat} {tag : Nat} {p : Parcel}

/-- A record accepted to an empty plate (R60, R64). -/
theorem State.InOrder.accept (h : s.InOrder o) {n : Parcel} {cursor : Nat} (hplate : s.queue.plateBusy = false)
    (htag : ∀ p ∈ s.queue.parcels, p.tag ≠ n.tag) :
    (s.setQueue { s.queue with parcels := s.queue.parcels ++ [n], cursor := cursor }).InOrder o := by
  have hfaces : (s.setQueue { s.queue with parcels := s.queue.parcels ++ [n], cursor := cursor }).queue.faces =
      s.queue.faces ++ [n.face] := List.map_append
  have hmem : ∀ f ∈ s.queue.faces ++ [n.face], f ∈ s.queue.faces ∨ f = n.face := fun f hf => by simpa using hf
  have hsub : ∀ f ∈ s.queue.faces, f ∈ s.queue.faces ++ [n.face] := fun f hf => List.mem_append_left _ hf
  have hoff : ∀ f ∈ s.queue.faces, f.2.1.onPlate = false := by
    intro f hf
    obtain ⟨p, hp, rfl⟩ := List.mem_map.1 hf
    rw [ParcelQueue.plateBusy, List.any_eq_false] at hplate
    simpa [Parcel.face] using hplate p hp
  have hshows : ∀ {t st}, Shows s.queue.faces t st → Shows (s.queue.faces ++ [n.face]) t st :=
    fun ⟨sd, hs⟩ => ⟨sd, hsub _ hs⟩
  refine ⟨?_, ?_, ?_⟩
  · rw [hfaces, Apart, List.map_append]
    refine h.apart.append (by simp) ?_
    rw [ParcelQueue.faces_fst]
    simpa [Parcel.face] using htag
  · rw [hfaces]
    refine ⟨fun f hf g hg hfp hgp => ?_, h.plate.nodup, fun r hr => ⟨(h.plate.waits r hr).1, hsub _ (h.plate.waits r hr).2⟩,
      fun b hb => ⟨(h.plate.current b hb).1, hshows (h.plate.current b hb).2⟩, h.plate.served⟩
    have honly : ∀ x ∈ s.queue.faces ++ [n.face], x.2.1.onPlate = true → x = n.face := fun x hx hxp =>
      (hmem x hx).resolve_left fun hx => by rw [hoff x hx] at hxp; exact Bool.false_ne_true hxp
    rw [honly f hf hfp, honly g hg hgp]
  · rw [State.Belted, hfaces]
    exact BeltIn.keep h.belt fun _ _ _ => hshows

/-- A change of a record's state, its tag's face alone. -/
theorem ParcelQueue.shows_update {q : ParcelQueue} {f : Parcel → Parcel} (hp : p ∈ q.parcels) (ht : (f p).tag = p.tag) :
    Shows (q.update p.tag f).faces p.tag (f p).state := by
  refine ⟨(f p).standing, List.mem_map.2 ⟨f p, List.mem_map.2 ⟨p, hp, if_pos rfl⟩, ?_⟩⟩
  rw [Parcel.face, ht]

/-- A confirmed record waits for its label, which joins the print order (R74, R180). -/
theorem State.InOrder.confirm (h : s.InOrder o) (hp : p ∈ s.queue.parcels) (hquoted : p.state = .quoted)
    (hstands : p.standing ≠ some false) (tn : List Nat) {l : Label} (hl : l.tag = p.tag) :
    ((s.updateParcel p.tag (fun p => { p with state := .labelPending, tracking := some tn })).setLabel
      { s.label with printOrder := s.label.printOrder ++ [l] }).InOrder o := by
  have ha := s.queue.update_alters p.tag (f := fun p => { p with state := .labelPending, tracking := some tn }) fun _ ht => ht
  have hshows := ParcelQueue.shows_update (f := fun p => { p with state := .labelPending, tracking := some tn }) hp rfl
  obtain ⟨hm, hw, hlt⟩ := BeltIn.untouched h.belt h.apart (ParcelQueue.mem_faces hp) (by simp [hquoted]) (by simp [hquoted])
  have hbelt := BeltIn.leave h.belt ha (fun _ => id) hm (.refl _) hw (.refl _) hlt
  refine ⟨h.apart.frame (.update _ _ fun _ => rfl), ?_, ?_⟩
  · refine h.plate.alter ha (h.plate.onePlate.alter ha fun g hg ht => ?_) (h.unbooked hp (by simp [hquoted]) fun _ => hstands)
    obtain ⟨q, -, -, rfl⟩ := ParcelQueue.mem_faces_update hg ht
    rfl
  · have hlabels : State.labelTags ((s.updateParcel p.tag (fun p => { p with state := .labelPending, tracking := some tn })).setLabel
        { s.label with printOrder := s.label.printOrder ++ [l] }) = s.labelTags ++ [p.tag] := by
      simp [State.labelTags, hl]
    rw [State.Belted, hlabels]
    refine ⟨hbelt.actions, hbelt.nodup, hbelt.cleared, hbelt.once, hbelt.unclosed, ?_, fun t ht => ?_⟩
    · exact hbelt.single.append (by simp) (by simpa using hlt)
    · obtain ht | rfl : t ∈ s.labelTags ∨ t = p.tag := by simpa using ht
      · exact hbelt.printed t ht
      · exact .inl hshows

/-- A record of a plate state that changes to another stays alone on the plate. -/
theorem State.InOrder.onPlate (h : s.InOrder o) (hp : p ∈ s.queue.parcels) (hplate : p.state.onPlate = true) :
    ∀ g ∈ s.queue.faces, g.2.1.onPlate = true → g.1 = p.tag := fun g hg hgp =>
  h.plate.onePlate g hg _ (ParcelQueue.mem_faces hp) hgp hplate

/-- The record on the plate changes there, no booking standing on it. -/
theorem State.InOrder.plateChange (h : s.InOrder o) (hp : p ∈ s.queue.parcels) (hplate : p.state.onPlate = true)
    (hseeking : p.state ≠ .seeking) {f : Parcel → Parcel}
    (hf : ∀ q, q.tag = p.tag → (f q).tag = p.tag) : (s.updateParcel p.tag f).InOrder o := by
  have ha := s.queue.update_alters p.tag hf
  have hstate : p.state ≠ .quoted ∧ p.state ≠ .onBelt ∧ p.state ≠ .labelPending := by
    cases hs : p.state <;> simp_all [PState.onPlate]
  obtain ⟨hquoted, hbelt, hlabel⟩ := hstate
  obtain ⟨hm, hw, hlt⟩ := BeltIn.untouched h.belt h.apart (ParcelQueue.mem_faces hp) hbelt hlabel
  refine ⟨h.apart.frame (.updateAt _ _ hf), ?_, BeltIn.leave h.belt ha (fun _ => id) hm (.refl _) hw (.refl _) hlt⟩
  exact h.plate.alter ha (.of_alone ha (h.onPlate hp hplate)) (h.unbooked hp hseeking fun hq => absurd hq hquoted)

/-- The record on the plate goes on to its measurement (R67). -/
theorem State.InOrder.settle (h : s.InOrder o) (hp : p ∈ s.queue.parcels) (hwait : p.state = .waitPlate) :
    (s.settleHandOver p).InOrder o := by
  let w := s.plate.settledWeight s.loader
  let f := fun p : Parcel =>
    { p with state := .measuring, weight := some (gramsOf w, w), cleared := some false, plateDue := none }
  have hchange : (s.updateParcel p.tag f).InOrder o := h.plateChange hp (by rw [hwait]; rfl) (by simp [hwait]) fun _ ht => ht
  exact hchange.same rfl rfl rfl (fun _ => id) (.refl _) (.refl _)

/-- While a record is measured no booking is current and none waits. -/
theorem State.InOrder.unbooked_of_measuring (h : s.InOrder o) (hp : p ∈ s.queue.parcels) (hm : p.state = .measuring) :
    s.dispatch.current = none ∧ s.dispatch.line = [] := by
  have hcur : s.dispatch.current = none := by
    by_contra hne
    obtain ⟨b, hb⟩ := Option.ne_none_iff_exists'.1 hne
    obtain ⟨sd, hs⟩ := (h.plate.current b hb).2
    have ht : b.request.tag = p.tag := h.onPlate hp (by rw [hm]; rfl) _ hs rfl
    have he := (h.apart.state_eq (ht ▸ hs) (ParcelQueue.mem_faces hp)).1
    simp [hm] at he
  exact ⟨hcur, h.plate.served hcur⟩

/-- The measured record is rated, and rejected, or its booking is made (R66, R93). -/
theorem State.InOrder.handOver (h : s.InOrder o) (hp : p ∈ s.queue.parcels) (hm : p.state = .measuring) (d : Dims) :
    (s.measurementHandOver p d).InOrder o := by
  obtain ⟨hcur, hline⟩ := h.unbooked_of_measuring hp hm
  unfold State.measurementHandOver
  extract_lets r p' s1
  have hrated : (s.updateParcel p.tag (fun _ => p')).InOrder o :=
    h.plateChange hp (by rw [hm]; rfl) (by simp [hm]) fun _ _ => rfl
  have h1 : s1.InOrder o := hrated.same rfl rfl rfl (fun _ => id) (.refl _) (.refl _)
  have hp' : p' ∈ s1.queue.parcels := List.mem_map.2 ⟨p, hp, if_pos rfl⟩
  split
  · exact h1.endParcel hp' (by simp [p']) (by simp [p']) (by simp [p']) (by simp [p']) _ _
  · have hcur1 : s1.dispatch.current = none := hcur
    have hline1 : s1.dispatch.line = [] := hline
    have hbook := h1.bookable.bookings
    rw [hline1, hcur1] at hbook
    have hb : (s1.setDispatch (s1.dispatch.request
        { tag := p.tag, route := p.route, load := r.rating.load.getD 0, rated := true })).Bookable o := by
      refine ⟨h1.apart, ?_, h1.belt⟩
      simp only [State.setDispatch_dispatch, State.setDispatch_queue, DispatchTable.request, hline1, hcur1]
      refine ⟨hbook.onePlate, by simp, fun x hx => ?_, fun _ hb => nomatch hb⟩
      obtain rfl : x = _ := by simpa using hx
      rw [Pending, if_pos rfl]
      exact ⟨p'.standing, ParcelQueue.mem_faces hp'⟩
    refine (hb.serveLine fun b hb => ?_).quotesDue s1
    rw [State.setDispatch_dispatch, DispatchTable.request, hcur1] at hb
    exact nomatch hb

/-- A record that the belt has nothing of ends. -/
theorem State.InOrder.ended (h : s.InOrder o) {u : State} (hp : p ∈ s.queue.parcels) (hbelt : p.state ≠ .onBelt)
    (hlabel : p.state ≠ .labelPending) {e : EndOutcome} {r : Option Reason} (hq : u.queue = (s.endParcel p e r).queue)
    (ho : u.outfeed = s.outfeed) (hl : u.label = s.label) : Apart u.queue.faces ∧ u.Belted o := by
  obtain ⟨h1, h2, h3⟩ := State.lists_of_eq ho hl
  obtain ⟨hm, hw, hlt⟩ := BeltIn.untouched h.belt h.apart (ParcelQueue.mem_faces hp) hbelt hlabel
  rw [State.Belted, hq, h1, h2, h3]
  exact ⟨h.apart.frame (.endParcel s p e r),
    BeltIn.leave h.belt (s.endParcel_faces p e r).1 (fun _ => id) hm (.refl _) hw (.refl _) hlt⟩

/-- A record in SEEKING ends, and its booking with it (R77, R153). -/
theorem State.InOrder.endSeeking (h : s.InOrder o) {u : State} (hp : p ∈ s.queue.parcels) (hs : p.state = .seeking)
    {e : EndOutcome} {r : Option Reason} (hq : u.queue = (s.endParcel p e r).queue) (ho : u.outfeed = s.outfeed)
    (hl : u.label = s.label) (hline : u.dispatch.line = s.dispatch.line) (hcur : u.dispatch.current = none) :
    u.Bookable o := by
  obtain ⟨hapart, hbelt⟩ := h.ended hp (by simp [hs]) (by simp [hs]) hq ho hl
  refine ⟨hapart, ?_, hbelt⟩
  have ha := (s.endParcel_faces p e r).1
  rw [hq, hline, hcur]
  refine ⟨h.plate.onePlate.alter ha (s.endParcel_off_plate p e r), by simpa using h.plate.nodup, fun x hx => ?_,
    fun _ hb => nomatch hb⟩
  obtain ⟨hrated, hmem⟩ := h.plate.waits x hx
  have hne : x.tag ≠ p.tag := fun ht => by
    have he := (h.apart.state_eq (ht ▸ hmem) (ParcelQueue.mem_faces hp)).1
    simp [hs] at he
  rw [Pending, if_neg (by simp [hrated])]
  exact (ha (x.tag, .quoted, some false) hne).2 hmem

/-- A QUOTED record ends, and its request with it (R77, R93). -/
theorem State.InOrder.endQuoted (h : s.InOrder o) (hp : p ∈ s.queue.parcels) (hs : p.state = .quoted) (e : EndOutcome)
    (r : Option Reason) : ((s.endParcel p e r).setDispatch { (s.endParcel p e r).dispatch with
      line := (s.endParcel p e r).dispatch.line.filter (fun r => r.tag != p.tag) }).InOrder o := by
  obtain ⟨hd, ho, hl⟩ := s.endParcel_lists p e r
  have ha := (s.endParcel_faces p e r).1
  rw [hd]
  obtain ⟨hapart, hbelt⟩ := h.ended (u := (s.endParcel p e r).setDispatch
    { s.dispatch with line := s.dispatch.line.filter (fun r => r.tag != p.tag) }) hp (by simp [hs]) (by simp [hs]) rfl ho hl
  refine ⟨hapart, ⟨h.plate.onePlate.alter ha (s.endParcel_off_plate p e r), ?_, fun x hx => ?_, fun b hb => ?_, fun hc => ?_⟩,
    hbelt⟩
  · exact h.plate.nodup.sublist (List.filter_sublist.map _)
  · obtain ⟨hx, hne⟩ := List.mem_filter.1 hx
    obtain ⟨hrated, hmem⟩ := h.plate.waits x hx
    exact ⟨hrated, (ha (x.tag, .quoted, some false) (bne_iff_ne.1 hne)).2 hmem⟩
  · obtain ⟨hasks, hseek⟩ := h.plate.current b hb
    have hne : b.request.tag ≠ p.tag := fun ht => by
      obtain ⟨sd, hsd⟩ := hseek
      have he := (h.apart.state_eq (ht ▸ hsd) (ParcelQueue.mem_faces hp)).1
      simp [hs] at he
    exact ⟨hasks, (ha.shows hne _).2 hseek⟩
  · have hnil : s.dispatch.line = [] := h.plate.served hc
    simp [hnil]

/-- A record voided at the counter ends with what stands on it (R77). -/
theorem State.InOrder.void (h : s.InOrder o) (hp : p ∈ s.queue.parcels) (hv : p.state.voidable = true) :
    ((s.endParcel p .void (some .command)).voidEffect p).InOrder o := by
  obtain ⟨hd, ho, hl⟩ := s.endParcel_lists p .void (some .command)
  unfold State.voidEffect
  cases hst : p.state with
  | waitPlate => exact h.endParcel hp (by simp [hst]) (by simp [hst]) (by simp [hst]) (by simp [hst]) _ _
  | measuring =>
    have hend := h.endParcel hp (by simp [hst]) (by simp [hst]) (by simp [hst]) (by simp [hst]) .void (some .command)
    exact hend.same rfl rfl rfl (fun _ => id) (.refl _) (.refl _)
  | seeking =>
    have hclosed := (s.endParcel p .void (some .command)).closeAsk_books
    have hb : ((s.endParcel p .void (some .command)).closeAsk.setDispatch
        { (s.endParcel p .void (some .command)).closeAsk.dispatch with current := none }).Bookable o :=
      h.endSeeking hp hst (State.closeAsk_queue _) (hclosed.outfeed.trans ho) (hclosed.label.trans hl)
        ((congrArg DispatchTable.line (State.closeAsk_dispatch _)).trans (congrArg DispatchTable.line hd)) rfl
    exact (hb.serveLine fun _ h => nomatch h).quotesDue _
  | quoted =>
    dsimp only
    split
    next hstands =>
      have hend := h.endParcel hp (by simp [hst]) (fun _ => by simp [hstands]) (by simp [hst]) (by simp [hst]) .void
        (some .command)
      obtain ⟨hline, hcur⟩ := DispatchTable.release_bookings (s.endParcel p .void (some .command)).dispatch p
      exact hend.same rfl hline hcur (fun _ => id) (.refl _) (.refl _)
    next => exact h.endQuoted hp hst _ _
  | labelPending =>
    obtain ⟨hm, hw⟩ := BeltIn.off_belt h.belt h.apart (ParcelQueue.mem_faces hp) (by simp [hst])
    exact h.endReleased hp (by simp [hst]) (by simp [hst]) hm hw _ _
  | rating => rw [hst] at hv; exact absurd hv Bool.false_ne_true
  | onBelt => rw [hst] at hv; exact absurd hv Bool.false_ne_true
  | done => rw [hst] at hv; exact absurd hv Bool.false_ne_true
  | void => rw [hst] at hv; exact absurd hv Bool.false_ne_true
  | rejected => rw [hst] at hv; exact absurd hv Bool.false_ne_true

theorem ParcelQueue.oldestOwed_mem {q : ParcelQueue} (h : q.oldestOwed = some p) : p ∈ q.parcels := by
  suffices ∀ (ps : List Parcel) (a : Option (Nat × Parcel)) (d : Nat), ps.foldl olderOwed a = some (d, p) →
      p ∈ ps ∨ a = some (d, p) by
    obtain ⟨⟨d, q'⟩, hq, rfl⟩ := Option.map_eq_some_iff.1 h
    exact (this q.parcels none d hq).resolve_right (by simp)
  intro ps
  induction ps with
  | nil => exact fun a d ha => .inr ha
  | cons x ps ih =>
    intro a d ha
    obtain hmem | hstep := ih _ d ha
    · exact .inl (List.mem_cons_of_mem _ hmem)
    · have hx : olderOwed a x = a ∨ ∃ n, olderOwed a x = some (n, x) := by
        unfold olderOwed
        split
        · exact .inl rfl
        · exact .inr ⟨_, rfl⟩
        · split
          · exact .inr ⟨_, rfl⟩
          · exact .inl rfl
      obtain hx | ⟨n, hx⟩ := hx
      · exact .inr (hx ▸ hstep)
      · rw [hx] at hstep
        obtain ⟨-, rfl⟩ := Prod.mk.inj (Option.some.inj hstep)
        exact .inl List.mem_cons_self

/-- An owed report is placed; a record that owed its PARCEL-END leaves (R82). -/
theorem State.InOrder.placeOwed (h : s.InOrder o) : s.placeOwed.InOrder o := by
  unfold State.placeOwed
  split
  · split
    · exact h
    next p hp =>
      have hp := ParcelQueue.oldestOwed_mem hp
      split
      · exact h
      next d _ =>
        refine State.InOrder.quiet (s := s.setQueue (if p.state.final then s.queue.remove p.tag
          else s.queue.update p.tag (fun p => { p with owed := none }))) ?_ (.setLink _ (.put (by assumption) _))
        split
        next hfinal =>
          have hst : p.state ≠ .seeking ∧ p.state ≠ .quoted ∧ p.state ≠ .onBelt ∧ p.state ≠ .labelPending := by
            cases hs : p.state <;> simp_all [PState.final]
          obtain ⟨hseeking, hquoted, hbelt, hlabel⟩ := hst
          obtain ⟨hm, hw, hlt⟩ := BeltIn.untouched h.belt h.apart (ParcelQueue.mem_faces hp) hbelt hlabel
          exact h.leave (.remove _ _) (ParcelQueue.remove_alters _ _)
            (fun g hg ht => absurd ht (ParcelQueue.not_mem_faces_remove hg)) rfl rfl
            (h.unbooked hp hseeking fun hq => absurd hq hquoted) (fun _ => id) hm (.refl _) hw (.refl _) hlt
        next => exact h.same (ParcelQueue.faces_update _ fun _ => rfl) rfl rfl (fun _ => id) (.refl _) (.refl _)
  · exact h

theorem State.InOrder.plateCleared (h : s.InOrder o) : (s.setQueue s.queue.plateCleared).InOrder o := by
  refine h.same (ParcelQueue.faces_map (fun p => ?_) s.queue.nextDue) rfl rfl (fun _ => id) (.refl _) (.refl _)
  split <;> rfl

theorem State.InOrder.toFault (h : s.InOrder o) : s.printerToFault.InOrder o := by
  have hf := s.printerToFault_prints
  obtain ⟨hm, hw, -⟩ := State.lists_of_eq (s := s) (t := s.printerToFault.setLabel s.label) hf.outfeed rfl
  refine h.same (by rw [hf.queue]) (by rw [hf.dispatch]) (by rw [hf.dispatch]) (hm ▸ fun _ => id) (hw ▸ .refl _) ?_
  rw [State.labelTags, s.printerToFault_label]
  exact .refl _

/-- The label at the printer goes back to the head of the print order, where its tag then stands once (R180, R181). -/
theorem State.InOrder.printFailed (h : s.InOrder o) : s.printFailed.InOrder o := by
  unfold State.printFailed
  split
  next l _ hl =>
    refine State.InOrder.toFault ⟨h.apart, h.plate, ?_⟩
    rw [State.Belted]
    dsimp only [State.labelTags, State.setLabel_label]
    split
    next hback =>
      obtain ⟨hcarries, -⟩ := Bool.and_eq_true_iff.1 hback
      obtain ⟨p, hp, hbears⟩ := List.any_eq_true.1 hcarries
      simp only [Parcel.bears, Bool.and_eq_true, Bool.or_eq_true, beq_iff_eq] at hbears
      obtain ⟨⟨htag, -⟩, hst⟩ := hbears
      have hface := ParcelQueue.mem_faces hp
      have hrest : ((s.label.printOrder.filter (fun x => x.tag != l.tag)).map Label.tag).Sublist s.labelTags :=
        List.filter_sublist.map _
      refine ⟨h.belt.actions, h.belt.nodup, h.belt.cleared, h.belt.once, h.belt.unclosed, ?_, fun t ht => ?_⟩
      · refine List.nodup_cons.2 ⟨fun hmem => ?_, h.belt.single.sublist hrest⟩
        obtain ⟨x, hx, htx⟩ := List.mem_map.1 hmem
        exact bne_iff_ne.1 (List.mem_filter.1 hx).2 htx
      · obtain rfl | ht := List.mem_cons.1 ht
        · rw [← htag]
          obtain hst | hst := hst
          · exact .inl ⟨p.standing, hst ▸ hface⟩
          · exact .inr ⟨p.standing, hst ▸ hface⟩
        · exact h.belt.printed t (hrest.subset ht)
    next => exact h.belt
  · exact h

end Records

end Sys2Proof.Machine
end

section
/-! The records in order through the belt's moves, the starts and every step (O57). -/

namespace Sys2Proof.Machine

/-! ### Edges taken -/

section Edges
variable {s : State} {o : Option Nat} {p : Parcel}

theorem Outfeed.dropped_lists (u : Outfeed) (tag : Nat) :
    let v := (u.dropActions tag).dropPending tag
    v.actions.map Action.mark ⊆ u.actions.map Action.mark ∧ (∀ m ∈ v.actions.map Action.mark, m.1 ≠ tag) ∧
      (v.pendingClear.map Prod.fst).Sublist (u.pendingClear.map Prod.fst) ∧ tag ∉ v.pendingClear.map Prod.fst := by
  refine ⟨(List.filter_sublist.map _).subset, fun m hm => ?_, List.filter_sublist.map _, fun hmem => ?_⟩
  · obtain ⟨a, ha, rfl⟩ := List.mem_map.1 hm
    exact bne_iff_ne.1 (List.mem_filter.1 ha).2
  · obtain ⟨x, hx, ht⟩ := List.mem_map.1 hmem
    exact bne_iff_ne.1 (List.mem_filter.1 hx).2 ht

/-- A record on the belt is rejected once its entries and its waiting CLEAR have left (R163, R172). -/
theorem State.InOrder.rejectDropped (h : s.InOrder o) (hp : p ∈ s.queue.parcels) (hbelt : p.state = .onBelt) {u : Outfeed}
    (ha : u.actions = ((s.outfeed.dropActions p.tag).dropPending p.tag).actions)
    (hw : u.pendingClear = ((s.outfeed.dropActions p.tag).dropPending p.tag).pendingClear) (r : Reason) :
    ((s.setOutfeed u).rejectOnBelt p r).InOrder o := by
  obtain ⟨hm1, hm2, hw1, hw2⟩ := s.outfeed.dropped_lists p.tag
  rw [← ha] at hm1 hm2
  rw [← hw] at hw1 hw2
  have hdropped : (s.setOutfeed u).InOrder o := h.same rfl rfl rfl hm1 hw1 (.refl _)
  exact hdropped.endReleased hp (by simp [hbelt]) (by simp [hbelt]) hm2 hw2 _ _

theorem State.InOrder.closeShort (h : s.InOrder o) (hp : p ∈ s.queue.parcels) (hbelt : p.state = .onBelt) :
    (s.closeShort p).InOrder o := by
  unfold State.closeShort
  dsimp only
  split
  · exact h.rejectDropped (u := { (s.outfeed.dropActions p.tag).dropPending p.tag with chute := 0 }) hp hbelt rfl rfl _
  · exact h.rejectDropped hp hbelt rfl rfl _

theorem State.InOrder.orphanBreak (h : s.InOrder o) : s.orphanBreak.InOrder o := by
  unfold State.orphanBreak
  split
  · exact h
  next x _ =>
    extract_lets _ s1
    have h1 : s1.InOrder o := h.same rfl rfl rfl (fun _ => id) (.refl _) (.refl _)
    split
    next p hp =>
      obtain ⟨t, -, hp⟩ := Option.bind_eq_some_iff.1 hp
      obtain ⟨hp, -, hbelt⟩ := ParcelQueue.beltRecord_mem hp
      exact h1.closeShort hp hbelt
    next => exact h1

theorem State.InOrder.enterApply (h : s.InOrder o) {tag : Nat} (hon : Shows s.queue.faces tag .onBelt) (p0 : Count) :
    (s.enterApply tag p0).InOrder o ∧ Shows (s.enterApply tag p0).queue.faces tag .onBelt := by
  unfold State.enterApply
  dsimp only
  split
  · refine ⟨h.mark _ _, ?_⟩
    rw [State.mark_faces]
    exact hon
  · refine ⟨⟨h.apart, h.plate, ?_⟩, hon⟩
    have hmarks : State.actionMarks (s.setOutfeed { s.outfeed with
        actions := s.outfeed.actions ++ [⟨p0 + offset s.loader.applicator, .apply, tag⟩] }) = s.actionMarks ++ [(tag, false)] :=
      List.map_append
    rw [State.Belted, hmarks]
    exact BeltIn.enter h.belt hon fun hc => absurd hc Bool.false_ne_true

/-- The oldest record whose label is pending comes onto the belt (R79, R164). -/
theorem State.InOrder.toBelt (h : s.InOrder o) (hp : p ∈ s.queue.parcels) (hst : p.state = .labelPending) (e : Edge) :
    (s.updateParcel p.tag (fun p => { p with state := .onBelt, front := some (e.pos, e.time) })).InOrder (some p.tag) := by
  let f := fun p : Parcel => { p with state := .onBelt, front := some (e.pos, e.time) }
  have ha := s.queue.update_alters p.tag (f := f) fun _ ht => ht
  have hshows := ParcelQueue.shows_update (f := f) hp rfl
  obtain ⟨hm, hw⟩ := BeltIn.off_belt h.belt h.apart (ParcelQueue.mem_faces hp) (by simp [hst])
  refine ⟨h.apart.frame (.update _ _ fun _ => rfl), ?_, ?_⟩
  · refine h.plate.alter ha (h.plate.onePlate.alter ha fun g hg ht => ?_) (h.unbooked hp (by simp [hst]) fun hq => ?_)
    · obtain ⟨q, -, -, rfl⟩ := ParcelQueue.mem_faces_update (f := f) hg ht
      rfl
    · simp [hst] at hq
  · have hbelt : BeltIn (s.queue.update p.tag f).faces s.actionMarks s.waitingTags o s.labelTags := by
      refine BeltIn.shrink h.belt (fun _ => id) (.refl _) (.refl _) (fun m hm' => (ha.shows (hm m hm') _).2)
        (fun t ht => (ha.shows (ne_of_mem_of_not_mem ht hw) _).2) fun t _ hlabel => ?_
      by_cases ht : t = p.tag
      · exact .inr (ht ▸ hshows)
      · exact hlabel.imp (ha.shows ht _).2 (ha.shows ht _).2
    refine BeltIn.reopen hbelt fun t ht => ?_
    obtain rfl := Option.some.inj ht
    exact ⟨hw, fun m hm' _ => hm m hm'⟩

theorem State.InOrder.matchBreak (h : s.InOrder o) (hp : p ∈ s.queue.parcels) (hst : p.state = .labelPending) (e : Edge) :
    (s.matchBreak p e).InOrder (s.matchBreak p e).outfeed.openTag := by
  have hopen : (s.matchBreak p e).outfeed.openParcel = some ⟨e.pos, e.time, some p.tag⟩ := by
    refine (State.makeAction_openParcel _ _).trans ?_
    unfold State.enterApply
    dsimp only
    repeat' split
    all_goals rfl
  rw [Outfeed.openTag, hopen]
  unfold State.matchBreak
  extract_lets s1 _ s2 s3 s4
  have h1 : s1.InOrder (some p.tag) := h.toBelt hp hst e
  have hon1 : Shows s1.queue.faces p.tag .onBelt :=
    ParcelQueue.shows_update (f := fun p => { p with state := .onBelt, front := some (e.pos, e.time) }) hp rfl
  have h2 : s2.InOrder (some p.tag) := h1.same rfl rfl rfl (fun _ => id) (.refl _) (.refl _)
  have h3 : s3.InOrder (some p.tag) ∧ Shows s3.queue.faces p.tag .onBelt := by
    unfold s3
    split
    · refine ⟨h2.mark _ _, ?_⟩
      rw [State.mark_faces]
      exact hon1
    · exact ⟨h2, hon1⟩
  obtain ⟨h4, hon4⟩ := h3.1.enterApply h3.2 e.pos
  exact h4.makeAction hon4 fun hk => nomatch hk

theorem State.markAndDivert_faces (s : State) (tag : Nat) (f : Marks → Marks) :
    (s.markAndDivert tag f).queue.faces = s.queue.faces := s.mark_faces tag f

theorem State.markAndDivert_openParcel (s : State) (tag : Nat) (f : Marks → Marks) :
    (s.markAndDivert tag f).outfeed.openParcel = s.outfeed.openParcel := by
  show ((s.mark tag f).outfeed.divert tag).openParcel = _
  unfold Outfeed.divert
  split
  · rfl
  · split <;> rfl

theorem State.InOrder.unmatchedBreak (h : s.InOrder o) (e : Edge) :
    (s.unmatchedBreak e).InOrder (s.unmatchedBreak e).outfeed.openTag := by
  have hopen : (s.unmatchedBreak e).outfeed.openParcel = some ⟨e.pos, e.time, none⟩ := by
    unfold State.unmatchedBreak
    dsimp only
    split
    · split
      · split
        · exact State.markAndDivert_openParcel _ _ _
        · rfl
      · rfl
    · rfl
  rw [Outfeed.openTag, hopen]
  unfold State.unmatchedBreak
  extract_lets _ s1
  have h1 : s1.InOrder none := h.close.same rfl rfl rfl (fun _ => id) (.refl _) (.refl _)
  split
  · split
    · split
      · exact h1.markAndDivert _ _
      · exact h1
    · exact h1
  · exact h1

/-- A BREAK taken (R163 to R165). -/
theorem State.InOrder.breakTaken (h : s.InOrder o) (e : Edge) : (s.breakTaken e).InOrder (s.breakTaken e).outfeed.openTag := by
  unfold State.breakTaken
  dsimp only
  split
  next p hp =>
    have hst : p.state = .labelPending := by simpa using List.find?_some hp
    exact h.orphanBreak.matchBreak (List.mem_of_find?_eq_some hp) hst e
  next => exact h.orphanBreak.unmatchedBreak e

/-- A MAKE of a record on the belt: its CLEAR-CHUTE is entered, or waits (R167). -/
theorem State.InOrder.measureBelt (h : s.InOrder (some p.tag)) (hp : p ∈ s.queue.parcels) (hbelt : p.state = .onBelt)
    (p0 p1 : Count) : (s.measureBelt p p0 p1).InOrder none := by
  unfold State.measureBelt
  extract_lets len s1 s2 pos
  have hface1 : s1.queue.faces = s.queue.faces := ParcelQueue.faces_update _ fun _ => rfl
  have h1 : s1.InOrder (some p.tag) := h.same hface1 rfl rfl (fun _ => id) (.refl _) (.refl _)
  have h2 : s2.InOrder (some p.tag) ∧ s2.queue.faces = s1.queue.faces := by
    unfold s2
    split
    · exact ⟨h1.markAndDivert _ _, s1.markAndDivert_faces _ _⟩
    · exact ⟨h1, rfl⟩
  obtain ⟨h2, hface2⟩ := h2
  have hon : Shows s2.queue.faces p.tag .onBelt := by
    rw [hface2, hface1]
    exact ⟨p.standing, hbelt ▸ ParcelQueue.mem_faces hp⟩
  obtain ⟨hw, hm⟩ := h2.belt.unclosed p.tag rfl
  split
  · exact (h2.close.makeAction hon fun _ => ⟨hw, nofun⟩).fillClears _
  · have hwait : State.waitingTags (s2.setOutfeed { s2.outfeed with
        pendingClear := s2.outfeed.pendingClear ++ [(p.tag, pos)] }) = s2.waitingTags ++ [p.tag] := List.map_append
    refine ⟨h2.apart, h2.plate, ?_⟩
    rw [State.Belted, hwait]
    exact BeltIn.wait h2.close.belt hon hw hm

/-- A MAKE taken (R163, R167). -/
theorem State.InOrder.makeTaken (h : s.InOrder s.outfeed.openTag) (e : Edge) :
    (s.makeTaken e).InOrder (s.makeTaken e).outfeed.openTag := by
  have hshut : ∀ {t : State} {g}, t.InOrder none →
      (t.setOutfeed { t.outfeed with gap := g, openParcel := none }).InOrder none :=
    fun ht => ht.same rfl rfl rfl (fun _ => id) (.refl _) (.refl _)
  unfold State.makeTaken
  split
  · exact h.same rfl rfl rfl (fun _ => id) (.refl _) (.refl _)
  next x hx =>
    refine hshut ?_
    split
    next p hp =>
      obtain ⟨t, ht, hp⟩ := Option.bind_eq_some_iff.1 hp
      obtain ⟨hmem, rfl, hbelt⟩ := ParcelQueue.beltRecord_mem hp
      rw [Outfeed.openTag, hx, Option.bind_some, ht] at h
      exact h.measureBelt hmem hbelt _ _
    next => exact h.close

/-- A jam ends its record with all that the belt has of it (R172). -/
theorem State.InOrder.jam (h : s.InOrder s.outfeed.openTag) (hp : p ∈ s.queue.parcels) (hbelt : p.state = .onBelt) :
    ((s.setOutfeed (s.outfeed.jam p.tag)).rejectOnBelt p .jam).InOrder
      ((s.setOutfeed (s.outfeed.jam p.tag)).rejectOnBelt p .jam).outfeed.openTag := by
  have hj := h.rejectDropped (u := s.outfeed.jam p.tag) hp hbelt rfl rfl .jam
  refine ⟨hj.apart, hj.plate, BeltIn.reopen hj.belt fun t ht => hj.belt.unclosed t ?_⟩
  rw [State.rejectOnBelt_outfeed] at ht
  have hjam : (s.outfeed.jam p.tag).openTag = (s.outfeed.openParcel.map
      (fun x => if x.tag = some p.tag then { x with tag := none } else x)).bind OpenParcel.tag := rfl
  rw [State.setOutfeed_outfeed, hjam] at ht
  cases hx : s.outfeed.openParcel with
  | none => rw [hx] at ht; exact nomatch ht
  | some x =>
    rw [hx, Option.map_some, Option.bind_some] at ht
    split at ht
    · exact nomatch ht
    · rw [Outfeed.openTag, hx]
      exact ht

end Edges

/-! ### Starts and the image -/

section Starts
variable {s : State} {o : Option Nat}

theorem State.emptyQueue_bookings (s : State) :
    s.emptyQueue.dispatch.line = s.dispatch.line ∧ s.emptyQueue.dispatch.current = s.dispatch.current := by
  suffices ∀ (gs : List TxGive) (t : State), (State.dropGives gs t).dispatch.line = t.dispatch.line ∧
      (State.dropGives gs t).dispatch.current = t.dispatch.current from this _ _
  intro gs
  induction gs with
  | nil => exact fun t => ⟨rfl, rfl⟩
  | cons g gs ih =>
    intro t
    obtain ⟨hline, hcur⟩ := ih (t.giveEnding g (if g.begun then .abandoned else .dropped))
    obtain ⟨hline', hcur'⟩ := t.giveEnding_bookings g (if g.begun then .abandoned else .dropped)
    exact ⟨hline.trans hline', hcur.trans hcur'⟩

theorem releaseAll_bookings (ps : List Parcel) (d : DispatchTable) :
    (releaseAll d ps).line = d.line ∧ (releaseAll d ps).current = d.current := by
  induction ps generalizing d with
  | nil => exact ⟨rfl, rfl⟩
  | cons p ps ih =>
    obtain ⟨hline, hcur⟩ := d.release_bookings p
    exact ⟨(ih _).1.trans hline, (ih _).2.trans hcur⟩

/-- What a start changes, the records' order does not see. -/
theorem State.InOrder.started (h : s.InOrder o) : s.startScanner.startBus.InOrder o := by
  obtain ⟨p, hf⟩ := s.started_halls
  obtain ⟨hd, hq, -⟩ := s.started_keeps
  have hplate : (s.setPlate p).InOrder o := h.same rfl rfl rfl (fun _ => id) (.refl _) (.refl _)
  exact hplate.aside hq (by rw [hd]; rfl) (by rw [hd]; rfl) hf

theorem State.InOrder.powerOn (s : State) (n : Nat) (a b r : Bool) (beam : Beam) (line : Bool) :
    (s.powerOn n a b r beam line).InOrder o := by
  rw [State.powerOn_eq]
  refine State.InOrder.started (State.InOrder.quiet (State.InOrder.of_empty ?_ ?_ ?_ ?_ ?_ ?_) (.printerSettle _))
  all_goals rfl

theorem State.InOrder.restart (s : State) (n : Nat) : (s.restart n).InOrder o := by
  rw [State.restart_eq]
  refine State.InOrder.quiet (State.InOrder.started ?_) (.restartCell _)
  refine State.InOrder.quiet (State.InOrder.of_empty ?_ ?_ ?_ ?_ ?_ ?_) (.printerSettle _)
  · simp [State.restartValues, State.emptied, State.emptyQueue_queue]
  · simp [State.restartValues, State.emptied, State.emptyQueue_bookings, releaseAll_bookings]
  · simp [State.restartValues, State.emptied, State.emptyQueue_bookings, releaseAll_bookings]
  · simp [State.restartValues, Outfeed.restarted]
  · simp [State.restartValues, Outfeed.restarted]
  · simp [State.restartValues, LabelUnit.restarted]

theorem State.InOrder.editionChange (h : s.InOrder o) (g : Image) : (s.editionChange g).InOrder o := by
  rw [State.editionChange_eq]
  refine h.same rfl ?_ ?_ (fun _ => id) (.refl _) (.refl _)
  · unfold DispatchTable.rebuild
    split <;> rfl
  · unfold DispatchTable.rebuild
    split <;> rfl

end Starts

/-! ### Every move and every step -/

theorem State.voided_outfeed (s : State) (p : Parcel) (e : EndOutcome) (r : Option Reason) :
    ((s.endParcel p e r).voidEffect p).outfeed = s.outfeed := by
  refine Eq.trans ?_ (s.endParcel_outfeed p e r)
  unfold State.voidEffect
  split
  · rfl
  · exact ((State.serveFor_books _ _).trans (State.quotesDue_books _ _)).outfeed.trans (State.closeAsk_books _).outfeed
  · split <;> rfl
  · exact (State.discardLabel_prints _ _).outfeed
  all_goals rfl

theorem State.imageStored_outfeed (s : State) : (s.imageStored true).outfeed = s.outfeed := by
  unfold State.imageStored
  simp only [if_true]
  rw [State.editionChange_eq]
  rfl

theorem DispatchTable.applyUnits_bookings (d : DispatchTable) (route day slot m : Nat) :
    (d.applyUnits route day slot m).line = d.line ∧ (d.applyUnits route day slot m).current = d.current := by
  unfold DispatchTable.applyUnits
  split <;> exact ⟨rfl, rfl⟩

theorem State.measurementHandOver_outfeed (s : State) (p : Parcel) (d : Dims) :
    (s.measurementHandOver p d).outfeed = s.outfeed := by
  unfold State.measurementHandOver
  dsimp only
  split
  · exact State.endParcel_outfeed _ _ _ _
  · exact ((State.serveFor_books _ _).trans (State.quotesDue_books _ _)).outfeed

/-- Every move keeps the records in order (O57). -/
theorem Move.keeps_order {s t : State} (h : Move s t) (hs : s.TagsOk) (ho : s.InOrder s.outfeed.openTag) :
    t.InOrder t.outfeed.openTag := by
  induction h with
  | quiet h => exact (ho.quiet h).opened h.outfeed.openParcel
  | trans h _ ih ih' => exact ih' (h.keeps_tags hs) (ih hs ho)
  | powerOn => exact .powerOn _ _ _ _ _ _ _
  | restart => exact .restart _ _
  | @accept s g postcode service declared due hplate hroom =>
    obtain ⟨-, -, hfresh⟩ := ParcelQueue.newTag_fresh hs
    exact ho.accept hplate hfresh
  | confirm tn hp hquoted hstands =>
    exact ho.confirm (ParcelQueue.find_mem hp).1 hquoted hstands tn rfl
  | void hp hv => exact (ho.void (ParcelQueue.find_mem hp).1 hv).opened (congrArg _ (State.voided_outfeed _ _ _ _))
  | plateTimeout hp =>
    obtain ⟨hp, hst⟩ := ParcelQueue.inState_mem hp
    have hend := ho.endParcel hp (by simp [hst]) (by simp [hst]) (by simp [hst]) (by simp [hst]) .void (some .plateTimeout)
    exact hend.opened (congrArg _ (State.endParcel_outfeed _ _ _ _))
  | placeOwed s =>
    obtain ⟨q, rs, h⟩ := s.placeOwed_frame
    refine ho.placeOwed.opened ?_
    rw [h]
  | firstClock => exact ho.same rfl rfl rfl (fun _ => id) (.refl _) (.refl _)
  | @forward s c new d _ _ =>
    obtain ⟨s1, s2, hbooks, hquiet, -, h⟩ := s.stepForward_keeps c new d
    refine (ho.stepForward _ _ d).opened ?_
    rw [h, ((State.bookings_books _).trans (State.quotesDue_books _ s)).outfeed]
    exact hquiet.outfeed.openParcel.trans (congrArg _ hbooks.outfeed)
  | cutOff =>
    refine ((ho.bookable.closeHead _ _).made.quotesDue _).opened (congrArg _ ?_)
    exact (((State.closeHead_books _ _ _).trans (State.bookings_books _)).trans (State.quotesDue_books _ _)).outfeed
  | @imageStored s _ =>
    refine State.InOrder.opened (s := s) (State.InOrder.quiet (State.InOrder.editionChange ?_ _) (.answerHeld _ _ _ _)) ?_
    · exact ho.same rfl rfl rfl (fun _ => id) (.refl _) (.refl _)
    · rw [State.imageStored_outfeed]
  | changeBus => exact (ho.changeBus _).opened (congrArg Outfeed.openParcel (State.changeBus_halls _ _).outfeed)
  | plateCleared => exact ho.plateCleared
  | settle hp =>
    obtain ⟨hp, hst⟩ := ParcelQueue.inState_mem hp
    exact ho.settle hp hst
  | handOver d hp =>
    obtain ⟨hp, hst⟩ := ParcelQueue.inState_mem hp
    exact (ho.handOver hp hst d).opened (congrArg _ (State.measurementHandOver_outfeed _ _ _))
  | failAttempt => exact (ho.failAttempt _).opened (congrArg Outfeed.openParcel (State.failAttempt_halls _ _).outfeed)
  | endFrame => exact (ho.endFrame _ _).opened (congrArg Outfeed.openParcel (State.endFrame_halls _ _ _).outfeed)
  | meet => exact ho.same rfl rfl rfl (fun _ => id) (.refl _) (.refl _)
  | takeAsk s p =>
    unfold State.takeAsk
    split
    · exact ho
    · split
      · exact ho.same rfl rfl rfl (fun _ => id) (.refl _) (.refl _)
      · exact ho
  | applyUnits s route day slot units =>
    obtain ⟨hline, hcur⟩ := s.dispatch.applyUnits_bookings route day slot units
    exact ho.same rfl hline hcur (fun _ => id) (.refl _) (.refl _)
  | endAsk => exact (ho.endAskSince _).opened (congrArg _ (State.endAskSince_books _ _).outfeed)
  | enterFailed => exact (ho.enterFailed _).opened (congrArg Outfeed.openParcel (State.enterFailed_halls _ _).outfeed)
  | breakTaken => exact ho.breakTaken _
  | makeTaken => exact ho.makeTaken _
  | @carryOut s a ha =>
    have herased : (s.setOutfeed { s.outfeed with actions := s.outfeed.actions.erase a }).InOrder s.outfeed.openTag :=
      ho.same rfl rfl rfl (List.map_subset _ List.erase_subset) (.refl _) (.refl _)
    refine (herased.carry fun hk => ?_).opened (State.carry_openParcel _ _)
    exact ho.belt.once _ (List.mem_map_of_mem ha) (by simp [Action.mark, hk])
  | clearIn hpending => exact (ho.clearIn hpending).opened (State.makeAction_openParcel _ _)
  | jam hp =>
    obtain ⟨hp, -, hbelt⟩ := ParcelQueue.beltRecord_mem hp
    exact ho.jam hp hbelt
  | printFailed => exact ho.printFailed.opened (congrArg Outfeed.openParcel (State.printFailed_prints _).outfeed)

/-- Settles O57: every step is of the listed moves, each of which keeps the records in order. -/
theorem stepKeepsRecords : Obligations.StepKeepsRecords := by
  intro s t h
  have hmove := step_moves h
  refine ⟨hmove.keeps_tags, fun htags hplate hbelt => ?_⟩
  exact (State.inOrder_iff (hmove.keeps_tags htags)).1 (hmove.keeps_order htags ((State.inOrder_iff htags).2 ⟨hplate, hbelt⟩))

end Sys2Proof.Machine
end

section
/-! What counters and units see of a move: most of its parts stand aside, and the others are few. O58 and O59 are kept by
every move once they are kept by each of these pieces. -/

namespace Sys2Proof.Machine

/-! ### Aside -/

/-- The rings stand, a set clock stays set and in range, and the counters stay within theirs. -/
structure TableAside (d d' : DispatchTable) : Prop where
  rings : d'.rings = d.rings
  expired : d.expired ≤ 65535 → d'.expired ≤ 65535
  stranded : d.stranded ≤ 65535 → d'.stranded ≤ 65535
  clockSet : d'.clock = none → d.clock = none
  clock : (∀ c, d.clock = some c → c.InRange) → ∀ c, d'.clock = some c → c.InRange

/-- The reservations of the GIVEs stand, and the counters stay within their bounds. -/
structure BusAside (b b' : BusController) : Prop where
  gives : b'.gives.map TxGive.reservation = b.gives.map TxGive.reservation
  failedAttempts : b.failedAttempts ≤ 255 → b'.failedAttempts ≤ 255
  quietEntries : b.quietEntries ≤ 255 → b'.quietEntries ≤ 255
  unheardPresence : b.unheardPresence ≤ 255 → b'.unheardPresence ≤ 255
  unknownSender : b.unknownSender ≤ 255 → b'.unknownSender ≤ 255
  quietHistory : b.quietHistory ≤ 2 → b'.quietHistory ≤ 2

/-- The units that the peer entries count (R138). -/
def PeerTable.UnitsWithin (t : PeerTable) : Prop := ∀ p ∈ t.peers, p.given ≤ 65535 ∧ p.received ≤ 65535

/-- Edges and counters stay within their bounds. -/
structure OutfeedAside (o o' : Outfeed) : Prop where
  edges : o.edges.length ≤ 8 → o'.edges.length ≤ 8
  dropped : o.dropped ≤ 255 → o'.dropped ≤ 255
  orphans : o.orphans ≤ 255 → o'.orphans ≤ 255
  unmatched : o.unmatched ≤ 65535 → o'.unmatched ≤ 65535
  jams : o.jams ≤ 255 → o'.jams ≤ 255

/-- The rings and the reservations stand, and each block keeps the bounds that are its own; records, bookings, action
entries, labels and the bus state may change. -/
structure Aside (s t : State) : Prop where
  store : StoreQuiet s.store t.store
  plate : PlateQuiet s.plate t.plate
  dispatch : TableAside s.dispatch t.dispatch
  share : ShareQuiet s.share t.share
  bus : BusAside s.bus t.bus
  peers : s.peers.UnitsWithin → t.peers.UnitsWithin
  outfeed : OutfeedAside s.outfeed t.outfeed
  wasted : s.label.wasted ≤ 65535 → t.label.wasted ≤ 65535
  link : LinkQuiet s.link t.link

@[refl] theorem TableAside.refl (d : DispatchTable) : TableAside d d := ⟨rfl, id, id, id, id⟩
@[refl] theorem BusAside.refl (b : BusController) : BusAside b b := ⟨rfl, id, id, id, id, id⟩
@[refl] theorem OutfeedAside.refl (o : Outfeed) : OutfeedAside o o := ⟨id, id, id, id, id⟩

theorem TableAside.trans {a b c : DispatchTable} (h : TableAside a b) (h' : TableAside b c) : TableAside a c :=
  ⟨h'.rings.trans h.rings, h'.expired ∘ h.expired, h'.stranded ∘ h.stranded, h.clockSet ∘ h'.clockSet, h'.clock ∘ h.clock⟩

theorem BusAside.trans {a b c : BusController} (h : BusAside a b) (h' : BusAside b c) : BusAside a c :=
  ⟨h'.gives.trans h.gives, h'.failedAttempts ∘ h.failedAttempts, h'.quietEntries ∘ h.quietEntries,
   h'.unheardPresence ∘ h.unheardPresence, h'.unknownSender ∘ h.unknownSender, h'.quietHistory ∘ h.quietHistory⟩

theorem OutfeedAside.trans {a b c : Outfeed} (h : OutfeedAside a b) (h' : OutfeedAside b c) : OutfeedAside a c :=
  ⟨h'.edges ∘ h.edges, h'.dropped ∘ h.dropped, h'.orphans ∘ h.orphans, h'.unmatched ∘ h.unmatched, h'.jams ∘ h.jams⟩

@[refl] theorem Aside.refl (s : State) : Aside s s :=
  ⟨.refl _, .refl _, .refl _, .refl _, .refl _, id, .refl _, id, .refl _⟩

theorem Aside.trans {a b c : State} (h : Aside a b) (h' : Aside b c) : Aside a c :=
  ⟨h.store.trans h'.store, h.plate.trans h'.plate, h.dispatch.trans h'.dispatch, h.share.trans h'.share,
   h.bus.trans h'.bus, h'.peers ∘ h.peers, h.outfeed.trans h'.outfeed, h'.wasted ∘ h.wasted, h.link.trans h'.link⟩

/-- `Aside.trans` with the last change first. -/
theorem Aside.after {a b c : State} (h' : Aside b c) (h : Aside a b) : Aside a c := h.trans h'

theorem Aside.quiet {s t : State} (h : Quiet s t) : Aside s t :=
  ⟨h.store, h.plate, ⟨h.dispatch.rings, h.dispatch.expired, h.dispatch.stranded, h.dispatch.clockSet, h.dispatch.clock⟩,
   h.share, ⟨h.bus.gives, h.bus.failedAttempts, h.bus.quietEntries, h.bus.unheardPresence, h.bus.unknownSender,
   h.bus.quietHistory⟩, h.peers.units, ⟨h.outfeed.edges, h.outfeed.dropped, h.outfeed.orphans, h.outfeed.unmatched,
   h.outfeed.jams⟩, h.label.wasted, h.link⟩

section Blocks
variable (s : State)

theorem Aside.setQueue (q : ParcelQueue) : Aside s (s.setQueue q) :=
  ⟨.refl _, .refl _, .refl _, .refl _, .refl _, id, .refl _, id, .refl _⟩

theorem Aside.setPlate {p : Plate} (h : PlateQuiet s.plate p) : Aside s (s.setPlate p) :=
  ⟨.refl _, h, .refl _, .refl _, .refl _, id, .refl _, id, .refl _⟩

theorem Aside.setSummary (u : Summary) : Aside s (s.setSummary u) :=
  ⟨.refl _, .refl _, .refl _, .refl _, .refl _, id, .refl _, id, .refl _⟩

theorem Aside.setLoader (l : Loader) : Aside s (s.setLoader l) :=
  ⟨.refl _, .refl _, .refl _, .refl _, .refl _, id, .refl _, id, .refl _⟩

theorem Aside.setStore {t : ImageStore} (h : StoreQuiet s.store t) : Aside s (s.setStore t) :=
  ⟨h, .refl _, .refl _, .refl _, .refl _, id, .refl _, id, .refl _⟩

theorem Aside.setDispatch {d : DispatchTable} (h : TableAside s.dispatch d) : Aside s (s.setDispatch d) :=
  ⟨.refl _, .refl _, h, .refl _, .refl _, id, .refl _, id, .refl _⟩

theorem Aside.setShare {a : ShareAgent} (h : ShareQuiet s.share a) : Aside s (s.setShare a) :=
  ⟨.refl _, .refl _, .refl _, h, .refl _, id, .refl _, id, .refl _⟩

theorem Aside.setBus {b : BusController} (h : BusAside s.bus b) : Aside s (s.setBus b) :=
  ⟨.refl _, .refl _, .refl _, .refl _, h, id, .refl _, id, .refl _⟩

theorem Aside.putBus {b : BusController} (h : BusAside s.bus b) : Aside s (s.putBus b) :=
  ⟨.refl _, .refl _, .refl _, .refl _, ⟨h.gives, h.failedAttempts, h.quietEntries, h.unheardPresence, h.unknownSender,
   h.quietHistory⟩, id, .refl _, id, .refl _⟩

theorem Aside.setPeers {t : PeerTable} (h : s.peers.UnitsWithin → t.UnitsWithin) : Aside s (s.setPeers t) :=
  ⟨.refl _, .refl _, .refl _, .refl _, .refl _, h, .refl _, id, .refl _⟩

theorem Aside.setOutfeed {o : Outfeed} (h : OutfeedAside s.outfeed o) : Aside s (s.setOutfeed o) :=
  ⟨.refl _, .refl _, .refl _, .refl _, .refl _, id, h, id, .refl _⟩

theorem Aside.setLabel {u : LabelUnit} (h : s.label.wasted ≤ 65535 → u.wasted ≤ 65535) : Aside s (s.setLabel u) :=
  ⟨.refl _, .refl _, .refl _, .refl _, .refl _, id, .refl _, h, .refl _⟩

theorem Aside.setLink {k : Link} (h : LinkQuiet s.link k) : Aside s (s.setLink k) :=
  ⟨.refl _, .refl _, .refl _, .refl _, .refl _, id, .refl _, id, h⟩

end Blocks

/-! ### The pieces -/

/-- A ring with bookings lowered or moved to another place, its dispatches, held and reserved units as they were. -/
structure Ring.Eases (r r' : Ring) : Prop where
  route : r'.route = r.route
  deferred : r.deferred ≤ 65535 → r'.deferred ≤ 65535
  entries : ∃ f : Entry → Entry, r'.entries = r.entries.map f ∧ ∀ e, (f e).day = e.day ∧ (f e).slot = e.slot ∧
    (f e).held = e.held ∧ (f e).reserved = e.reserved ∧ (f e).booked ≤ e.booked

/-- The parts of moves that counters and units see. -/
inductive Piece : State → State → Prop where
  | aside {s t : State} (h : Aside s t) : Piece s t
  | trans {s t u : State} (h : Piece s t) (h' : Piece t u) : Piece s u
  | ease {s : State} {f : Ring → Ring} (h : ∀ r : Ring, r.Eases (f r)) :
      Piece s (s.setDispatch { s.dispatch with rings := s.dispatch.rings.map f })
  | book {s : State} {route day slot load : Nat} {e : Entry} (he : s.dispatch.entry route day slot = some e)
      (hload : load ≤ e.free) :
      Piece s (s.setDispatch (s.dispatch.updateEntry route day slot (fun e => { e with booked := e.booked + load })))
  | takeAsk (s : State) (p : Peer) (askNo route day slot units : Nat) : Piece s (s.takeAsk p askNo route day slot units)
  | giveEnds {s : State} {g : TxGive} {rest : List TxGive} (hg : s.bus.gives = g :: rest) (e : Ending) :
      Piece s ((s.putBus (s.bus.offeredLeaves .give)).giveEnding g e)
  | emptyQueue (s : State) : Piece s s.emptyQueue
  | withdraw (s : State) (test : TxGive → Bool) : Piece s (s.putBus (s.bus.withdrawGives test))
  | refill {s : State} {r : Ring} {e : Entry} (hr : r ∈ s.dispatch.rings) (he : r.entries.head? = some e)
      (hgives : ∀ g ∈ s.bus.gives, g.names r.route e.day e.slot = false) :
      Piece s (s.setDispatch (s.dispatch.updateRing r.route (fun r => r.refill s.store)))
  | imageStored {s : State} (hs : s.store.staging = .storing) : Piece s (s.imageStored true)
  | loaded (s : State) (answered : Nat) (cellA cellB imageRead : Bool) (beam : Beam) (faultLine : Bool) :
      Piece s (s.loaded answered cellA cellB imageRead beam faultLine)
  | firstClock {s : State} {new : ClockTime} (hclock : s.dispatch.clock = none) (hnew : new.InRange) :
      Piece s (s.setDispatch { s.dispatch with clock := some new, rings := fillRings s.store new.day new.ms })
  | applyUnits (s : State) (route day slot units : Nat) :
      Piece s (s.setDispatch (s.dispatch.applyUnits route day slot units))

@[refl] theorem Piece.refl (s : State) : Piece s s := .aside (.refl s)

/-- `Piece.trans` with the last piece first. -/
theorem Piece.after {s t u : State} (h' : Piece t u) (h : Piece s t) : Piece s u := h.trans h'

theorem Piece.thenAside {s t u : State} (h : Aside t u) (h' : Piece s t) : Piece s u := h'.trans (.aside h)

/-- One change of the bookings after another, on the rings that the table had. -/
theorem Piece.of_rings {s : State} {d : DispatchTable} {f : Ring → Ring} (h : ∀ r : Ring, r.Eases (f r))
    (hd : TableAside { s.dispatch with rings := s.dispatch.rings.map f } d) : Piece s (s.setDispatch d) :=
  .thenAside (t := s.setDispatch { s.dispatch with rings := s.dispatch.rings.map f })
    ⟨.refl _, .refl _, hd, .refl _, .refl _, id, .refl _, id, .refl _⟩ (.ease h)

/-! ### Reports and bookings -/

section Books
variable {s : State}

theorem Aside.updateParcel (s : State) (tag : Nat) (f : Parcel → Parcel) : Aside s (s.updateParcel tag f) := .setQueue s _

theorem Aside.endParcel (s : State) (p : Parcel) (o : EndOutcome) (r : Option Reason) : Aside s (s.endParcel p o r) := by
  unfold State.endParcel
  split
  next hroom => exact .after (.setLink _ (.put hroom _)) (.setQueue s _)
  next => exact .setQueue s _

theorem Aside.quoteDue (s : State) (p : Parcel) : Aside s (s.quoteDue p) := by
  unfold State.quoteDue
  split
  next hroom => exact .setLink s (.put hroom _)
  next => exact .setQueue s _

theorem Aside.quotesDue (s was : State) : Aside s (s.quotesDue was) := by
  suffices ∀ (ps : List Parcel) (s : State), Aside s (ps.foldl State.quoteDue s) from this _ s
  intro ps
  induction ps with
  | nil => exact fun s => .refl s
  | cons p ps ih => exact fun s => .after (ih _) (.quoteDue s p)

theorem Aside.placeOwed (s : State) : Aside s s.placeOwed := by
  unfold State.placeOwed
  split
  next hroom =>
    split
    · rfl
    · split
      · rfl
      · exact .after (.setLink _ (.put hroom _)) (.setQueue s _)
  next => rfl

theorem Ring.Eases.refl (r : Ring) : r.Eases r := ⟨rfl, id, id, by simp, fun _ => ⟨rfl, rfl, rfl, rfl, Nat.le_refl _⟩⟩

theorem Ring.Eases.deferred_of (r : Ring) {n : Nat} (h : r.deferred ≤ 65535 → n ≤ 65535) : r.Eases { r with deferred := n } :=
  ⟨rfl, h, id, by simp, fun _ => ⟨rfl, rfl, rfl, rfl, Nat.le_refl _⟩⟩

theorem Ring.eases_ite {route : Nat} {f : Ring → Ring} (h : ∀ r : Ring, r.Eases (f r)) (r : Ring) :
    r.Eases (if r.route = route then f r else r) := by
  split
  · exact h r
  · exact .refl r

theorem DispatchTable.names_of_entry {d : DispatchTable} {route day slot : Nat} {e : Entry}
    (h : d.entry route day slot = some e) : e.day = day ∧ e.slot = slot := by
  unfold DispatchTable.entry at h
  split at h
  · simpa [Entry.names] using List.find?_some h
  · exact nomatch h

theorem Piece.release (s : State) (p : Parcel) : Piece s (s.release p) := by
  unfold State.release DispatchTable.release
  dsimp only
  split
  · split
    next day slot _ =>
      refine .ease (Ring.eases_ite fun r => ⟨rfl, id, _, rfl, fun e => ?_⟩)
      split
      · exact ⟨rfl, rfl, rfl, rfl, Nat.sub_le _ _⟩
      · exact ⟨rfl, rfl, rfl, rfl, Nat.le_refl _⟩
    next => exact .ease (Ring.eases_ite fun r => .deferred_of r fun h => (Nat.sub_le _ _).trans h)
    next => exact .aside (.setDispatch s (.refl _))
  · exact .aside (.setDispatch s (.refl _))

theorem Piece.bookOn {b : Booking} {day slot : Nat} {e : Entry} (he : s.dispatch.entry b.request.route day slot = some e)
    (hload : b.request.load ≤ e.free) : Piece s (s.bookOn b day slot) := by
  refine .thenAside (.updateParcel _ _ _) (.thenAside ?_ (.book he hload))
  exact .setDispatch _ ⟨rfl, id, id, id, id⟩

theorem Piece.bookDeferred (s : State) (b : Booking) : Piece s (s.bookDeferred b) := by
  refine .thenAside (.updateParcel _ _ _) (.of_rings (f := fun r => if r.route = b.request.route then
      { r with deferred := satAdd 65535 r.deferred b.request.load } else r) ?_ ⟨rfl, id, id, id, id⟩)
  exact Ring.eases_ite fun r => .deferred_of r fun _ => satAdd_le _ _ _

theorem AsksFrame.aside {b b' : BusController} (h : AsksFrame b b') : BusAside b b' := by
  have hq := h.quiet
  exact ⟨hq.gives, hq.failedAttempts, hq.quietEntries, hq.unheardPresence, hq.unknownSender, hq.quietHistory⟩

theorem Aside.sendAsk (s : State) (a : OpenAsk) (ha : a.received ≤ 65535 ∨ s.share.openAsk = some a) : Aside s (s.sendAsk a) := by
  refine .after (.putBus _ ⟨rfl, id, id, id, id, id⟩) (.setShare s ⟨fun h x hx => ?_, id⟩)
  obtain rfl := Option.some.inj hx
  exact ha.elim id fun ha => h a ha

theorem Aside.openAsk (s : State) (route day slot wanted : Nat) : Aside s (s.openAsk route day slot wanted) := by
  unfold State.openAsk
  extract_lets a _ s'
  have h' : Aside s s' := .setShare s ⟨fun _ x hx => by obtain rfl := Option.some.inj hx; exact Nat.zero_le _, id⟩
  split
  · exact h'
  · exact h'.trans (.sendAsk s' a (.inl (Nat.zero_le _)))

theorem Aside.askFor (s : State) (b : Booking) (e : Entry) : Aside s (s.askFor b e) :=
  .after (.openAsk _ _ _ _ _) (.after (.updateParcel _ _ _) (.setDispatch s ⟨rfl, id, id, id, id⟩))

theorem Piece.tryEntries (n : Nat) (s : State) (b : Booking) : Piece s (State.tryEntries n s b) := by
  induction n generalizing s b with
  | zero => exact .bookDeferred s b
  | succ n ih =>
    unfold State.tryEntries
    split
    · exact .bookDeferred s b
    next e he =>
      obtain ⟨t, -, he⟩ := Option.bind_eq_some_iff.1 he
      split
      next hload =>
        obtain ⟨hday, hslot⟩ := DispatchTable.names_of_entry he
        exact .bookOn (by rw [hday, hslot]; exact he) hload
      next =>
        split
        · exact .aside (.askFor s b e)
        · exact .after (ih _ _) (.aside (.setDispatch s ⟨rfl, id, id, id, id⟩))

theorem Piece.tryCurrent (s : State) : Piece s s.tryCurrent := by
  unfold State.tryCurrent
  split
  · split
    · rfl
    · exact .tryEntries _ _ _
  · rfl

theorem Piece.serveFor (n : Nat) (s : State) : Piece s (State.serveFor n s) := by
  induction n generalizing s with
  | zero => rfl
  | succ n ih =>
    unfold State.serveFor
    split
    · exact .after (ih _) (.after (.tryCurrent _) (.aside (.setDispatch s ⟨rfl, id, id, id, id⟩)))
    · rfl

theorem Piece.bookings (s : State) : Piece s s.bookings := .after (.serveFor _ _) (.tryCurrent s)

theorem Aside.closeAsk (s : State) : Aside s s.closeAsk := by
  unfold State.closeAsk
  split
  · rfl
  · have hshut : Aside s (s.setShare { s.share with openAsk := none }) := .setShare s ⟨fun _ _ h => (nomatch h), id⟩
    dsimp only
    split
    · exact .after (.putBus _ (AsksFrame.aside (BusController.withdrawAsk_asks _))) hshut
    · exact hshut

theorem Piece.reportAskEnd (s : State) : Piece s s.reportAskEnd := by
  unfold State.reportAskEnd
  split
  · split
    · exact .after (.bookings _) (.aside (.setDispatch s ⟨rfl, id, id, id, id⟩))
    · rfl
  · rfl

theorem Piece.endAskSince (s was : State) : Piece s (s.endAskSince was) := by
  unfold State.endAskSince
  split
  · exact .thenAside (.quotesDue _ _) (.after (.reportAskEnd _) (.aside (.closeAsk s)))
  · rfl

theorem Piece.askEnding (s : State) (e : Ending) : Piece s (s.askEnding e) := by
  unfold State.askEnding
  split
  · rfl
  next a ha =>
    have hend : Piece s s.closeAsk.reportAskEnd := .after (.reportAskEnd _) (.aside (.closeAsk s))
    split
    · exact .aside (.sendAsk s a (.inr ha))
    · refine .aside (.setShare s ⟨fun h x hx => ?_, id⟩)
      obtain rfl := Option.some.inj hx
      exact h a ha
    · exact hend
    · exact hend
    · rfl
    · rfl
    · rfl

end Books

end Sys2Proof.Machine
end

section
/-! Every move made of the pieces that counters and units see. -/

namespace Sys2Proof.Machine

/-! ### Closings -/

section Closing
variable {s : State} {route day slot : Nat} {r : Ring} {e : Entry}

theorem Piece.rollClosed (s : State) (route day slot : Nat) : Piece s (s.rollClosed route day slot) := by
  unfold State.rollClosed
  split
  · split
    · dsimp only
      split
      · exact .aside (.setDispatch s ⟨rfl, id, id, id, id⟩)
      · exact .bookDeferred s _
    · rfl
  · rfl

theorem Piece.closeAskFor (s : State) (route day slot : Nat) : Piece s (s.closeAskFor route day slot) := by
  unfold State.closeAskFor
  split
  · exact .after (.rollClosed _ _ _ _) (.aside (.closeAsk s))
  · exact .rollClosed _ _ _ _

/-- The end of an ask at a closing leaves every ring its entries. -/
theorem State.closeAskFor_rings (hr : r ∈ s.dispatch.rings) (route day slot : Nat) :
    ∃ r' ∈ (s.closeAskFor route day slot).dispatch.rings, r'.route = r.route ∧ r'.entries = r.entries := by
  have hroll : ∀ t : State, t.dispatch = s.dispatch →
      ∃ r' ∈ (t.rollClosed route day slot).dispatch.rings, r'.route = r.route ∧ r'.entries = r.entries := by
    intro t ht
    have hr' : r ∈ t.dispatch.rings := ht ▸ hr
    unfold State.rollClosed
    split
    · split
      · dsimp only
        split
        · exact ⟨r, hr', rfl, rfl⟩
        · refine ⟨_, List.mem_map_of_mem hr', ?_⟩
          split <;> exact ⟨rfl, rfl⟩
      · exact ⟨r, hr', rfl, rfl⟩
    · exact ⟨r, hr', rfl, rfl⟩
  unfold State.closeAskFor
  split
  · exact hroll _ s.closeAsk_dispatch
  · exact hroll s rfl

theorem TxGive.names_withdrawn (g : TxGive) (route day slot : Nat) :
    (if g.names route day slot then { g with live := false } else g).names route day slot = false := by
  split
  next => rfl
  next h => simpa using h

/-- A head closes: its GIVEs are withdrawn, and its ring is refilled (R103). -/
theorem Piece.closeHead (hr : r ∈ s.dispatch.rings) (he : r.entries.head? = some e) : Piece s (s.closeHead r.route e) := by
  unfold State.closeHead
  extract_lets s1 s2 s3 s4 _ s5
  have h1 : Piece s s1 := .aside (.setDispatch s ⟨rfl, fun _ => satAdd_le _ _ _, id, id, id⟩)
  have h2 : Piece s1 s2 := .withdraw s1 _
  have h3 : Piece s2 s3 := .closeAskFor s2 _ _ _
  have h4 : Piece s3 s4 := by
    obtain ⟨r', hr', hroute, hentries⟩ := State.closeAskFor_rings (s := s2) (r := r) hr r.route e.day e.slot
    have hgives : s3.bus.gives = s2.bus.gives := (State.closeAskFor_asks s2 r.route e.day e.slot).gives
    have hstore : s3.store = s.store := (State.closeAskFor_books s2 r.route e.day e.slot).store
    unfold s4
    rw [← hstore, ← hroute]
    refine .refill hr' (hentries ▸ he) fun g hg => ?_
    rw [hgives] at hg
    obtain ⟨g, -, rfl⟩ := List.mem_map.1 hg
    rw [hroute]
    exact g.names_withdrawn _ _ _
  have h5 : Piece s4 s5 := .aside (.setDispatch s4 ⟨rfl, id, id, id, id⟩)
  exact .thenAside (.setQueue s5 _) (h1.trans (h2.trans (h3.trans (h4.trans h5))))

theorem DispatchTable.ring_of_nextClosing {d : DispatchTable} {c : ClockTime} {n : Nat}
    (h : d.nextClosing c n = some (route, e)) : ∃ r ∈ d.rings, r.route = route ∧ r.entries.head? = some e := by
  have hmem : ∀ (xs : List (Nat × Entry)) (best : Option (Nat × Entry)), xs.foldl (earlier c) best = some (route, e) →
      (route, e) ∈ xs ∨ best = some (route, e) := by
    intro xs
    induction xs with
    | nil => exact fun best h => .inr h
    | cons x xs ih =>
      intro best h
      obtain hin | hbest := ih _ h
      · exact .inl (List.mem_cons_of_mem _ hin)
      · have hx : earlier c best x = some x ∨ earlier c best x = best := by
          unfold earlier
          split
          · exact .inl rfl
          · split
            · exact .inl rfl
            · exact .inr rfl
        obtain hx | hx := hx
        · exact .inl (Option.some.inj (hx.symm.trans hbest) ▸ List.mem_cons_self)
        · exact .inr (hx.symm.trans hbest)
  obtain hin | hno := hmem _ none h
  · obtain ⟨r, hr, hdue⟩ := List.mem_filterMap.1 hin
    unfold Ring.dueHead at hdue
    split at hdue
    next e' rest he =>
      split at hdue
      · obtain ⟨hroute, rfl⟩ := Prod.mk.inj (Option.some.inj hdue)
        exact ⟨r, hr, hroute, by rw [he]; rfl⟩
      · exact nomatch hdue
    · exact nomatch hdue
  · exact nomatch hno

theorem Piece.closeSpan (n : Nat) (s : State) (c : ClockTime) (d : Nat) : Piece s (State.closeSpan n s c d) := by
  induction n generalizing s with
  | zero => rfl
  | succ n ih =>
    unfold State.closeSpan
    split
    next route e hnext =>
      obtain ⟨r, hr, rfl, he⟩ := DispatchTable.ring_of_nextClosing hnext
      exact .after (ih _) (.closeHead hr he)
    next => rfl

theorem TableAside.setClock {d : DispatchTable} {new : ClockTime} (hnew : new.InRange) :
    TableAside d { d with clock := some new } := by
  refine ⟨rfl, id, id, fun h => (nomatch h), fun _ c hc => ?_⟩
  obtain rfl := Option.some.inj hc
  exact hnew

theorem Piece.stepForward (s : State) (c : ClockTime) {new : ClockTime} (d : Nat) (hnew : new.InRange) :
    Piece s (s.stepForward c new d) := by
  unfold State.stepForward
  extract_lets s1 s2
  have h2 : Piece s1 s2 := by
    unfold s2
    split
    · rfl
    · exact .aside (.quiet (.labelDay _ _))
  exact .thenAside (.quotesDue _ _) (.after (.bookings _) (.thenAside (.setDispatch _ (.setClock hnew))
    (.after h2 (.closeSpan _ _ _ _))))

theorem DispatchTable.ring_of_dueHead {d : DispatchTable} (h : d.dueHead route = some e) :
    ∃ r ∈ d.rings, r.route = route ∧ r.entries.head? = some e := by
  unfold DispatchTable.dueHead at h
  split at h
  next c e' rest hring =>
    split at h
    · obtain rfl := Option.some.inj h
      obtain ⟨r, hr, he⟩ := Option.map_eq_some_iff.1 hring
      exact ⟨r, List.mem_of_find?_eq_some hr, by simpa using List.find?_some hr, by rw [he]; rfl⟩
    · exact nomatch h
  · exact nomatch h

end Closing

/-! ### The hall -/

section Hall
variable {s : State}

theorem Aside.enterBus (s : State) (st : BusState) : Aside s (s.enterBus st) := by
  obtain ⟨_, _, _, _, _, _, h⟩ := s.bus.enter_frame s.loader s.timer.ms st
  unfold State.enterBus
  rw [h]
  exact .putBus s ⟨rfl, id, id, id, id, id⟩

theorem Aside.changeBus (s : State) (st : BusState) : Aside s (s.changeBus st) := .after (.quiet (.raiseBus _)) (.enterBus s st)

theorem Piece.enterFailed (s was : State) : Piece s (s.enterFailed was) :=
  .thenAside (.quiet (.raiseBus _)) (.after (.endAskSince _ _) (.after (.emptyQueue _) (.aside (.enterBus s _))))

theorem Piece.quietTrigger (s was : State) : Piece s (s.quietTrigger was) := by
  unfold State.quietTrigger
  dsimp only
  split
  next hlt =>
    refine .after (.endAskSince _ _) (.after (.emptyQueue _) (.thenAside (.changeBus _ _) (.aside (.setBus s ?_))))
    exact ⟨rfl, id, fun _ => satAdd_le _ _ _, id, id, fun _ => hlt⟩
  next => exact .after (.enterFailed _ _) (.aside (.setBus s ⟨rfl, id, fun _ => satAdd_le _ _ _, id, id, id⟩))

theorem Aside.queuePresence (s : State) (join : Bool) : Aside s (s.putBus (s.bus.queuePresence join)) := by
  obtain ⟨_, h⟩ := s.bus.queuePresence_frame join
  rw [h]
  exact .putBus s ⟨rfl, id, id, id, id, id⟩

/-- The frame offered leaves the queue, and its ending is handed back (R121, R149). -/
theorem Piece.leaves (s : State) (was : BusController) (hwas : was.gives = s.bus.gives) (k : TxKind) (e : Ending) :
    Piece s ((s.putBus (s.bus.offeredLeaves k)).handBack was k e) := by
  cases k with
  | give =>
    unfold State.handBack
    dsimp only
    rw [hwas]
    split
    next g rest hg => exact .giveEnds hg e
    next hg =>
      refine .aside (.putBus s ⟨?_, id, id, id, id, id⟩)
      simp [BusController.offeredLeaves, hg]
  | ask => exact .after (.askEnding _ e) (.aside (.putBus s ⟨rfl, id, id, id, id, id⟩))
  | presence =>
    have hleft : Aside s (s.putBus (s.bus.offeredLeaves .presence)) := .putBus s ⟨rfl, id, id, id, id, id⟩
    refine .aside (.after ?_ hleft)
    unfold State.handBack
    dsimp only
    split
    · split
      · split
        · exact .changeBus _ _
        · exact .changeBus _ _
        · exact .queuePresence _ _
        · rfl
        · rfl
      · rfl
    · rfl

theorem Piece.endFrame (s : State) (k : TxKind) (e : Ending) : Piece s (s.endFrame k e) :=
  .thenAside (.quotesDue _ _) (.leaves s _ rfl k e)

theorem Piece.abandon (s : State) (k : TxKind) : Piece s (s.abandon k) := by
  have h1 : Piece s (s.setBus { s.bus with consecutive := s.bus.consecutive + 1 }) :=
    .aside (.setBus s ⟨rfl, id, id, id, id, id⟩)
  obtain ⟨-, h⟩ | ⟨-, s2, s3, h2, h3, h⟩ := s.abandon_cases k
  · rw [h]
    exact h1.trans (.endFrame _ _ _)
  · have hleft : Piece s s2 := by
      rw [h2]
      exact h1.trans (.leaves _ _ (by rfl) k .abandoned)
    rw [h]
    refine .after (.quietTrigger _ _) ?_
    obtain rfl | rfl := h3
    · exact hleft
    · exact .thenAside (.quotesDue _ _) hleft

theorem Piece.failAttempt (s : State) (k : TxKind) : Piece s (s.failAttempt k) := by
  have hcount : Piece s (s.putBus (s.bus.countFail k)) := by
    refine .aside (.putBus s ⟨?_, fun _ => satAdd_le _ _ _, id, id, id, id⟩)
    unfold BusController.countFail
    dsimp only
    split
    · split
      next g rest hg => rw [hg]; rfl
      next hg => rw [hg]
    · rfl
  unfold State.failAttempt
  dsimp only
  split
  · exact hcount
  · exact .after (.abandon _ k) hcount

theorem Aside.meet {p : Peer} (hp : p.given ≤ 65535 ∧ p.received ≤ 65535) :
    Aside s (s.setPeers { s.peers with peers := insertPeer p s.peers.peers }) := by
  refine .setPeers s fun h q hq => ?_
  suffices ∀ ps : List Peer, q ∈ insertPeer p ps → q = p ∨ q ∈ ps from
    (this _ hq).elim (fun hqp => hqp ▸ hp) (h q)
  intro ps
  induction ps with
  | nil => simp [insertPeer]
  | cons x ps ih =>
    intro hq
    unfold insertPeer at hq
    split at hq
    · exact List.mem_cons.1 hq
    · obtain rfl | hq := List.mem_cons.1 hq
      · exact .inr List.mem_cons_self
      · exact (ih hq).imp_right (List.mem_cons_of_mem _)

end Hall

/-! ### The belt and the printer -/

section Belt
variable {s : State}

theorem OutfeedAside.divert (u : Outfeed) (tag : Nat) : OutfeedAside u (u.divert tag) := by
  unfold Outfeed.divert
  split
  · exact ⟨id, id, id, id, id⟩
  · split
    · exact ⟨id, id, id, id, id⟩
    · rfl

theorem Aside.markAndDivert (s : State) (tag : Nat) (f : Marks → Marks) : Aside s (s.markAndDivert tag f) :=
  .after (.setOutfeed _ (.divert _ tag)) (.updateParcel s _ _)

theorem Aside.carryApply (s : State) (tag : Nat) : Aside s (s.carryApply tag) := by
  have hlate : Aside s ((s.markAndDivert tag (fun m => { m with labelLate := true })).leavePrintOrder tag) :=
    .after (.quiet (.leavePrintOrder _ _)) (.markAndDivert s _ _)
  unfold State.carryApply
  split
  · split
    · exact .after (.quiet (.printerSettle _)) (.after (.setLabel _ id) (.setOutfeed s ⟨id, id, id, id, id⟩))
    · exact hlate
  · exact hlate

theorem Piece.rejectOnBelt (s : State) (p : Parcel) (r : Reason) : Piece s (s.rejectOnBelt p r) :=
  .thenAside (.quiet (.discardLabel _ _)) (.after (.release _ p) (.aside (.endParcel s _ _ _)))

theorem Piece.endOnBelt (s : State) (p : Parcel) : Piece s (s.endOnBelt p) := by
  unfold State.endOnBelt
  split
  · exact .rejectOnBelt s p _
  · exact .aside (.after (.quiet (.discardLabel _ _)) (.endParcel s _ _ _))

theorem Piece.carryClear (s : State) (tag : Nat) : Piece s (s.carryClear tag) := by
  unfold State.carryClear
  extract_lets s1 s2 s3
  have h1 : Aside s s1 := by
    refine .setOutfeed s ?_
    unfold Outfeed.carryClear
    split
    · exact ⟨id, id, id, id, id⟩
    · rfl
  have h2 : Aside s1 s2 := by
    unfold s2
    split
    · exact .updateParcel s1 _ _
    · rfl
  have h3 : Aside s s3 := .after (.setOutfeed s2 ⟨id, id, id, id, id⟩) (h1.trans h2)
  split
  · exact .after (.endOnBelt s3 _) (.aside h3)
  · exact .aside h3

theorem Piece.carry (s : State) (a : Action) : Piece s (s.carry a) := by
  unfold State.carry
  split
  · exact .aside (.carryApply s _)
  · exact .aside (.setOutfeed s ⟨id, id, id, id, id⟩)
  · exact .carryClear s _

theorem Piece.makeAction (s : State) (a : Action) : Piece s (s.makeAction a) := by
  unfold State.makeAction
  split
  · exact .carry s a
  · exact .aside (.setOutfeed s ⟨id, id, id, id, id⟩)

theorem Piece.clearIn (s : State) (a : Action) (rest : List (Nat × Count)) :
    Piece s ((s.setOutfeed { s.outfeed with pendingClear := rest }).makeAction a) :=
  .after (.makeAction _ _) (.aside (.setOutfeed s ⟨id, id, id, id, id⟩))

theorem Piece.fillClears (n : Nat) (s : State) : Piece s (State.fillClears n s) := by
  induction n generalizing s with
  | zero => rfl
  | succ n ih =>
    unfold State.fillClears
    split
    · split
      · exact .after (ih _) (.clearIn s _ _)
      · rfl
    · rfl

theorem Piece.closeShort (s : State) (p : Parcel) : Piece s (s.closeShort p) := by
  refine .after (.rejectOnBelt _ _ _) (.aside (.setOutfeed s ?_))
  split <;> exact ⟨id, id, id, id, id⟩

theorem Piece.orphanBreak (s : State) : Piece s s.orphanBreak := by
  unfold State.orphanBreak
  split
  · rfl
  · extract_lets _ s1
    have h1 : Piece s s1 := .aside (.setOutfeed s ⟨id, id, fun _ => satAdd_le _ _ _, id, id⟩)
    split
    · exact .after (.closeShort s1 _) h1
    · exact h1

theorem Aside.enterApply (s : State) (tag : Nat) (p0 : Count) : Aside s (s.enterApply tag p0) := by
  unfold State.enterApply
  dsimp only
  split
  · exact .updateParcel s _ _
  · exact .setOutfeed s ⟨id, id, id, id, id⟩

theorem Piece.matchBreak (s : State) (p : Parcel) (e : Edge) : Piece s (s.matchBreak p e) := by
  unfold State.matchBreak
  extract_lets s1 _ s2 s3 s4
  have h2 : Aside s s2 := .after (.setOutfeed s1 ⟨id, id, id, id, id⟩) (.updateParcel s _ _)
  have h3 : Aside s2 s3 := by
    unfold s3
    split
    · exact .updateParcel s2 _ _
    · rfl
  exact .after (.makeAction s4 _) (.aside ((h2.trans h3).trans (.enterApply s3 _ _)))

theorem Aside.unmatchedBreak (s : State) (e : Edge) : Aside s (s.unmatchedBreak e) := by
  unfold State.unmatchedBreak
  extract_lets _ s1
  have h1 : Aside s s1 := .setOutfeed s ⟨id, id, id, fun _ => satAdd_le _ _ _, id⟩
  split
  · split
    · split
      · exact h1.trans (.markAndDivert s1 _ _)
      · exact h1
    · exact h1
  · exact h1

theorem Piece.breakTaken (s : State) (e : Edge) : Piece s (s.breakTaken e) := by
  unfold State.breakTaken
  dsimp only
  split
  · exact .after (.matchBreak _ _ e) (.orphanBreak s)
  · exact .thenAside (.unmatchedBreak _ e) (.orphanBreak s)

theorem Piece.measureBelt (s : State) (p : Parcel) (p0 p1 : Count) : Piece s (s.measureBelt p p0 p1) := by
  unfold State.measureBelt
  extract_lets len s1 s2 pos
  have h1 : Aside s s1 := .updateParcel s _ _
  have h2 : Aside s1 s2 := by
    unfold s2
    split
    · exact .markAndDivert s1 _ _
    · rfl
  split
  · exact .after (.fillClears _ _) (.after (.makeAction s2 _) (.aside (h1.trans h2)))
  · exact .aside (.after (.setOutfeed s2 ⟨id, id, id, id, id⟩) (h1.trans h2))

theorem Piece.makeTaken (s : State) (e : Edge) : Piece s (s.makeTaken e) := by
  unfold State.makeTaken
  split
  · exact .aside (.setOutfeed s ⟨id, id, fun _ => satAdd_le _ _ _, id, id⟩)
  · refine .thenAside (.setOutfeed _ ⟨id, id, id, id, id⟩) ?_
    split
    · exact .measureBelt s _ _ _
    · rfl

theorem Aside.printerToFault (s : State) : Aside s s.printerToFault := by
  unfold State.printerToFault
  dsimp only
  split
  · exact .setLabel s id
  · exact .after (.quiet (.rise _ _)) (.setLabel s id)

theorem Aside.printFailed (s : State) : Aside s s.printFailed := by
  unfold State.printFailed
  split
  · refine .after (.printerToFault _) (.setLabel s fun _ => ?_)
    exact satAdd_le 65535 s.label.wasted 1
  · rfl

end Belt

/-! ### Records and starts -/

section Records
variable {s : State}

theorem Piece.voided (s : State) (p : Parcel) : Piece s (s.voidEffect p) := by
  unfold State.voidEffect
  split
  · exact .aside (.setPlate s ⟨id, id, id⟩)
  · refine .thenAside (.quotesDue _ _) (.after (.serveFor _ _) (.aside (.after (.setDispatch _ ⟨rfl, id, id, id, id⟩) (.closeAsk s))))
  · split
    · exact .release s p
    · exact .aside (.setDispatch s ⟨rfl, id, id, id, id⟩)
  · exact .thenAside (.quiet (.discardLabel _ _)) (.release s p)
  all_goals rfl

theorem Piece.measurementHandOver (s : State) (p : Parcel) (d : Dims) : Piece s (s.measurementHandOver p d) := by
  unfold State.measurementHandOver
  extract_lets r p' s1
  have h1 : Aside s s1 := .after (.setSummary _ _) (.updateParcel s _ _)
  split
  · exact .aside (h1.trans (.endParcel s1 _ _ _))
  · exact .thenAside (.quotesDue _ _) (.after (.serveFor _ _) (.aside (h1.trans (.setDispatch s1 ⟨rfl, id, id, id, id⟩))))

theorem Piece.releaseAll (ps : List Parcel) (s : State) : Piece s (s.setDispatch (releaseAll s.dispatch ps)) := by
  induction ps generalizing s with
  | nil => exact .aside (.setDispatch s (.refl _))
  | cons p ps ih => exact .after (ih (s.release p)) (.release s p)

theorem Piece.emptied (s : State) : Piece s s.emptied := by
  have hcleared : Aside s (s.setDispatch { s.dispatch with line := [], current := none }) :=
    .setDispatch s ⟨rfl, id, id, id, id⟩
  have hreleased := Piece.releaseAll s.queue.parcels (s.setDispatch { s.dispatch with line := [], current := none })
  refine .thenAside (.after (.setPeers _ fun _ _ h => nomatch h) (.setShare _ ⟨fun _ _ h => (nomatch h), id⟩)) ?_
  exact .after (.emptyQueue _) (.thenAside (.setQueue _ _) (.after hreleased (.aside hcleared)))

theorem Aside.restartValues (s : State) : Aside s s.restartValues := by
  have hplate : PlateQuiet s.plate (s.plate.restarted s.loader) :=
    ⟨fun _ => Nat.zero_le _, fun _ => Nat.zero_le _, fun _ => Nat.zero_le _⟩
  have hstore : StoreQuiet s.store s.store.restarted := ⟨id, rfl, fun _ h => (nomatch h), fun _ => Nat.zero_le _⟩
  have hlabel : s.label.wasted ≤ 65535 → s.label.restarted.wasted ≤ 65535 := by
    intro h
    unfold LabelUnit.restarted
    dsimp only
    split
    · exact satAdd_le _ _ _
    · exact h
  refine .after (.setBus _ ⟨rfl, id, id, id, id, fun _ => Nat.zero_le _⟩) (.after (.setLabel _ hlabel)
    (.after (.setOutfeed _ ⟨fun _ => Nat.zero_le _, id, id, id, id⟩) (.after (.setStore _ hstore) ?_)))
  exact .after (.setSummary _ _) (.setPlate s hplate)

theorem Aside.started (s : State) : Aside s s.startScanner.startBus := by
  have hscan : Aside s s.startScanner := by
    unfold State.startScanner
    split
    · exact .setPlate s ⟨id, id, id⟩
    · rfl
  refine .after ?_ hscan
  unfold State.startBus
  split
  · exact .enterBus _ _
  · exact .changeBus _ _

theorem LinkQuiet.restarted (k : Link) (l : Loader) : LinkQuiet k (k.restarted l) := by
  unfold Link.restarted Link.startSettings
  split <;> exact ⟨fun _ => Nat.zero_le _, id⟩

theorem Piece.restart (s : State) (n : Nat) : Piece s (s.restart n) := by
  rw [State.restart_eq, State.cleared]
  refine .thenAside (.after (.quiet (.restartCell _)) (.after (.started _) (.quiet (.printerSettle _)))) ?_
  refine .thenAside (.after (.setLink _ (.restarted _ _)) (.restartValues _)) (.after (.emptied _) ?_)
  exact .aside (.after (.setLoader _ _) (.quiet (.ceaseWrites s)))

end Records

/-- Every move is made of the pieces. -/
theorem Move.piece {s t : State} (h : Move s t) : Piece s t := by
  induction h with
  | quiet h => exact .aside (.quiet h)
  | trans _ _ ih ih' => exact ih.trans ih'
  | powerOn =>
    rw [State.powerOn_eq]
    exact .thenAside (.after (.started _) (.quiet (.printerSettle _))) (.loaded _ _ _ _ _ _ _)
  | restart => exact .restart _ _
  | accept => exact .aside (.setQueue _ _)
  | confirm => exact .aside (.after (.setLabel _ id) (.updateParcel _ _ _))
  | void => exact .after (.voided _ _) (.aside (.endParcel _ _ _ _))
  | plateTimeout => exact .aside (.endParcel _ _ _ _)
  | placeOwed => exact .aside (.placeOwed _)
  | firstClock hclock hnew => exact .firstClock hclock hnew
  | forward d _ hnew => exact .stepForward _ _ d hnew
  | cutOff hdue =>
    obtain ⟨r, hr, rfl, he⟩ := DispatchTable.ring_of_dueHead hdue
    exact .thenAside (.quotesDue _ _) (.after (.bookings _) (.closeHead hr he))
  | imageStored hs => exact .imageStored hs
  | changeBus => exact .aside (.changeBus _ _)
  | plateCleared => exact .aside (.setQueue _ _)
  | settle => exact .aside (.after (.setPlate _ ⟨id, id, id⟩) (.updateParcel _ _ _))
  | handOver d _ => exact .measurementHandOver _ _ d
  | failAttempt => exact .failAttempt _ _
  | endFrame => exact .endFrame _ _ _
  | meet => exact .aside (.meet ⟨Nat.zero_le _, Nat.zero_le _⟩)
  | takeAsk => exact .takeAsk _ _ _ _ _ _ _
  | applyUnits => exact .applyUnits _ _ _ _ _
  | endAsk => exact .endAskSince _ _
  | enterFailed => exact .enterFailed _ _
  | breakTaken => exact .breakTaken _ _
  | makeTaken => exact .makeTaken _ _
  | carryOut => exact .after (.carry _ _) (.aside (.setOutfeed _ ⟨id, id, id, id, id⟩))
  | clearIn => exact .clearIn _ _ _
  | jam =>
    exact .after (.rejectOnBelt _ _ _) (.aside (.setOutfeed _ ⟨id, id, id, id, fun _ => satAdd_le _ _ _⟩))
  | printFailed => exact .aside (.printFailed _)

end Sys2Proof.Machine
end

section
/-! Every step keeps the lists within their sizes and the counters at or below their maxima (O58). -/

namespace Sys2Proof.Machine

/-! ### The bounds of each block -/

/-- The report queue and the lost count (R188). -/
def Link.Within (k : Link) : Prop := k.reports.length ≤ 16 ∧ k.lost ≤ 255

/-- The history and the counts of the plate (R10, R13). -/
def Plate.Within (p : Plate) : Prop := p.history.length ≤ 64 ∧ p.quiet ≤ 255 ∧ p.clear ≤ 255

/-- The deferred counts of the rings (R90). -/
def DeferredWithin (rs : List Ring) : Prop := ∀ r ∈ rs, r.deferred ≤ 65535

/-- The unit counters of the dispatch table (R105). -/
def DispatchTable.Within (d : DispatchTable) : Prop := d.expired ≤ 65535 ∧ d.stranded ≤ 65535 ∧ DeferredWithin d.rings

/-- The late gives and the units received by an ask (R143, R152). -/
def ShareAgent.Within (a : ShareAgent) : Prop := (∀ x, a.openAsk = some x → x.received ≤ 65535) ∧ a.late ≤ 255

/-- The pending GIVEs and the counters of the bus (R117, R119, R122, R125, R137). -/
structure BusController.Within (b : BusController) : Prop where
  gives : b.gives.length ≤ 4
  failedAttempts : b.failedAttempts ≤ 255
  quietEntries : b.quietEntries ≤ 255
  unheardPresence : b.unheardPresence ≤ 255
  unknownSender : b.unknownSender ≤ 255
  quietHistory : b.quietHistory ≤ 2

/-- The edges and the counters of the outfeed (R161, R163, R164, R172). -/
structure Outfeed.Within (o : Outfeed) : Prop where
  edges : o.edges.length ≤ 8
  dropped : o.dropped ≤ 255
  orphans : o.orphans ≤ 255
  unmatched : o.unmatched ≤ 65535
  jams : o.jams ≤ 255

/-- The lists and counters that no other invariant bounds. -/
structure State.Within (s : State) : Prop where
  link : s.link.Within
  staged : s.store.staged.length ≤ 4559
  plate : s.plate.Within
  dispatch : s.dispatch.Within
  share : s.share.Within
  bus : s.bus.Within
  peers : s.peers.UnitsWithin
  outfeed : s.outfeed.Within
  wasted : s.label.wasted ≤ 65535

section Within
variable {s t : State}

theorem BusController.Within.aside {b b' : BusController} (h : b.Within) (ha : BusAside b b') : b'.Within := by
  refine ⟨?_, ha.failedAttempts h.failedAttempts, ha.quietEntries h.quietEntries, ha.unheardPresence h.unheardPresence,
    ha.unknownSender h.unknownSender, ha.quietHistory h.quietHistory⟩
  have hlen := congrArg List.length ha.gives
  simp only [List.length_map] at hlen
  exact hlen ▸ h.gives

theorem State.Within.aside (h : s.Within) (ha : Aside s t) : t.Within :=
  ⟨⟨ha.link.reports h.link.1, ha.link.lost h.link.2⟩, ha.store.staged h.staged,
   ⟨ha.plate.history h.plate.1, ha.plate.quiet h.plate.2.1, ha.plate.clear h.plate.2.2⟩,
   ⟨ha.dispatch.expired h.dispatch.1, ha.dispatch.stranded h.dispatch.2.1, ha.dispatch.rings ▸ h.dispatch.2.2⟩,
   ⟨ha.share.openAsk h.share.1, ha.share.late h.share.2⟩, h.bus.aside ha.bus, ha.peers h.peers,
   ⟨ha.outfeed.edges h.outfeed.edges, ha.outfeed.dropped h.outfeed.dropped, ha.outfeed.orphans h.outfeed.orphans,
    ha.outfeed.unmatched h.outfeed.unmatched, ha.outfeed.jams h.outfeed.jams⟩, ha.wasted h.wasted⟩

/-- The dispatch table alone changes. -/
theorem State.Within.setDispatch (h : s.Within) {d : DispatchTable} (hd : d.Within) : (s.setDispatch d).Within :=
  ⟨h.link, h.staged, h.plate, hd, h.share, h.bus, h.peers, h.outfeed, h.wasted⟩

theorem State.Within.setBus (h : s.Within) {b : BusController} (hb : b.Within) : (s.setBus b).Within :=
  ⟨h.link, h.staged, h.plate, h.dispatch, h.share, hb, h.peers, h.outfeed, h.wasted⟩

theorem DeferredWithin.map {rs : List Ring} (h : DeferredWithin rs) {f : Ring → Ring}
    (hf : ∀ r, r.deferred ≤ 65535 → (f r).deferred ≤ 65535) : DeferredWithin (rs.map f) := by
  intro r hr
  obtain ⟨q, hq, rfl⟩ := List.mem_map.1 hr
  exact hf q (h q hq)

theorem DispatchTable.Within.updateRing {d : DispatchTable} (h : d.Within) (route : Nat) {f : Ring → Ring}
    (hf : ∀ r, (f r).deferred = r.deferred) : (d.updateRing route f).Within := by
  obtain ⟨hexpired, hstranded, hdeferred⟩ := h
  refine ⟨hexpired, hstranded, hdeferred.map fun r hr => ?_⟩
  split
  · exact (hf r).trans_le hr
  · exact hr

theorem DispatchTable.Within.updateEntry {d : DispatchTable} (h : d.Within) (route day slot : Nat) (f : Entry → Entry) :
    (d.updateEntry route day slot f).Within := h.updateRing route fun _ => rfl

theorem DispatchTable.Within.expire {d : DispatchTable} (h : d.Within) (m : Nat) : (d.expire m).Within :=
  ⟨satAdd_le _ _ _, h.2⟩

theorem DispatchTable.Within.giveEnds {d : DispatchTable} (h : d.Within) (g : TxGive) (e : Ending) :
    (d.giveEnds g e).Within := by
  cases e with
  | acknowledged => exact h.updateEntry _ _ _ _
  | abandoned =>
    obtain ⟨hexpired, -, hdeferred⟩ := h.updateEntry g.route g.day g.slot
      (fun e => { e with reserved := e.reserved - g.units, held := e.held - g.units })
    exact ⟨hexpired, satAdd_le _ _ _, hdeferred⟩
  | dropped => exact h.updateEntry _ _ _ _
  | unheard => exact h
  | withdrawn => exact h

theorem State.Within.giveEnding (h : s.Within) (g : TxGive) (e : Ending) : (s.giveEnding g e).Within := by
  have hends : (if g.live then s.setDispatch (s.dispatch.giveEnds g e) else s).Within := by
    split
    · exact h.setDispatch (h.dispatch.giveEnds g e)
    · exact h
  unfold State.giveEnding
  dsimp only
  split
  · refine hends.aside (.setPeers _ fun hp p hp' => ?_)
    obtain ⟨q, hq, rfl⟩ := List.mem_map.1 hp'
    split
    · exact ⟨satAdd_le _ _ _, (hp q hq).2⟩
    · exact hp q hq
  · exact hends

theorem State.Within.dropGives (gs : List TxGive) (h : s.Within) : (State.dropGives gs s).Within := by
  induction gs generalizing s with
  | nil => exact h
  | cons g gs ih => exact ih (h.giveEnding g _)

/-- A change of the bus that adds no GIVE. -/
theorem BusController.Within.gives_le {b : BusController} (h : b.Within) {gives : List TxGive} (hg : gives.length ≤ 4)
    {ask : Option TxAsk} {presence : Option TxPresence} {sending : Option TxKind} {wait : Option Nat} :
    BusController.Within { b with gives := gives, ask := ask, presence := presence, sending := sending, waitFrom := wait } :=
  ⟨hg, h.failedAttempts, h.quietEntries, h.unheardPresence, h.unknownSender, h.quietHistory⟩

theorem fillRings_deferred (t : ImageStore) (day ms : Nat) : DeferredWithin (fillRings t day ms) := by
  unfold fillRings
  split
  · intro r hr
    obtain ⟨route, -, rfl⟩ := List.mem_map.1 hr
    exact Nat.zero_le _
  · exact fun _ h => nomatch h

theorem Ring.refill_deferred (t : ImageStore) (r : Ring) : (r.refill t).deferred = r.deferred := by
  unfold Ring.refill
  split <;> rfl

theorem BusController.Within.withdrawGives {b : BusController} (h : b.Within) (test : TxGive → Bool) :
    (b.withdrawGives test).Within := by
  refine ⟨?_, h.failedAttempts, h.quietEntries, h.unheardPresence, h.unknownSender, h.quietHistory⟩
  refine le_trans ?_ h.gives
  simpa [BusController.withdrawGives] using List.length_filter_le _ _

theorem BusController.Within.queueGive {b : BusController} (h : b.Within) (g : TxGive) : (b.queueGive g).Within := by
  unfold BusController.queueGive
  split
  next hroom =>
    have hlt : b.gives.length < 4 := hroom
    exact ⟨by simpa using hlt, h.failedAttempts, h.quietEntries, h.unheardPresence, h.unknownSender, h.quietHistory⟩
  next => exact h

theorem State.Within.takeAsk (h : s.Within) (p : Peer) (askNo route day slot units : Nat) :
    (s.takeAsk p askNo route day slot units).Within := by
  unfold State.takeAsk
  split
  · exact h
  · split
    · unfold State.answerAsk
      extract_lets s1 _ s2
      have h1 : s1.Within := h.setDispatch (h.dispatch.updateEntry _ _ _ _)
      have h2 : s2.Within := h1.aside (.setShare s1 ⟨id, id⟩)
      exact h2.setBus (BusController.Within.aside (h2.bus.queueGive _) ⟨rfl, id, id, id, id, id⟩)
    · exact h

theorem Aside.recomputePeers (s : State) : Aside s s.recomputePeers := by
  have hset : Aside s (s.setPeers { s.peers with peers := s.peers.peers.map (Peer.recompute s.store.edition) }) := by
    refine .setPeers s fun h p hp => ?_
    obtain ⟨q, hq, rfl⟩ := List.mem_map.1 hp
    unfold Peer.recompute
    split <;> exact h q hq
  unfold State.recomputePeers
  dsimp only
  split
  · exact hset
  · exact .after (.quiet (.raisePeer _)) hset

theorem DispatchTable.Within.rebuild {d : DispatchTable} (h : d.Within) (t : ImageStore) : (d.rebuild t).Within := by
  unfold DispatchTable.rebuild
  split
  · exact h
  · exact ⟨satAdd_le _ _ _, h.2.1, fillRings_deferred _ _ _⟩

theorem State.Within.setStore (h : s.Within) {u : ImageStore} (hu : u.staged.length ≤ 4559) : (s.setStore u).Within :=
  ⟨h.link, hu, h.plate, h.dispatch, h.share, h.bus, h.peers, h.outfeed, h.wasted⟩

theorem State.Within.withdraw (h : s.Within) (test : TxGive → Bool) : (s.putBus (s.bus.withdrawGives test)).Within :=
  h.setBus (BusController.Within.aside (h.bus.withdrawGives test) ⟨rfl, id, id, id, id, id⟩)

theorem State.Within.editionChange (h : s.Within) (g : Image) : (s.editionChange g).Within := by
  unfold State.editionChange
  extract_lets _ s1 s2
  have h1 : s1.Within := h.setStore h.staged
  have h2 : s2.Within := by
    unfold s2
    split
    · exact h1
    · exact h1.withdraw _
  exact (h2.setDispatch (h2.dispatch.rebuild _)).aside (.recomputePeers _)

theorem State.Within.imageStored (h : s.Within) : (s.imageStored true).Within := by
  unfold State.imageStored
  simp only [if_true]
  refine State.Within.aside (State.Within.editionChange ?_ _) (.quiet (.answerHeld _ _ _ _))
  exact h.setStore (Nat.zero_le _)

theorem State.loaded_within (s : State) (n : Nat) (a b r : Bool) (beam : Beam) (line : Bool) :
    (s.loaded n a b r beam line).Within := by
  have hlink : ∀ l : Loader, (Link.powerOn.startSettings l).Within := by
    intro l
    unfold Link.startSettings
    split <;> exact ⟨Nat.zero_le _, Nat.zero_le _⟩
  have hstaged : ∀ t : ImageStore, t.staged = [] → (t.load r).staged.length ≤ 4559 := by
    intro t ht
    rw [(t.load_staging r).2, ht]
    exact Nat.zero_le _
  rw [State.loaded_eq]
  refine ⟨hlink (s.recordRead n), hstaged { State.reset.store with mem := s.store.mem } rfl, ⟨?_, ?_, ?_⟩, ⟨?_, ?_, fun _ h => nomatch h⟩,
    ⟨fun _ h => (nomatch h), ?_⟩, ⟨?_, ?_, ?_, ?_, ?_, ?_⟩, fun _ h => (nomatch h), ⟨?_, ?_, ?_, ?_, ?_⟩, ?_⟩
  all_goals simp only [State.reset, Plate.powerOn, BusController.powerOn, Outfeed.powerOn, LabelUnit.powerOn, Nat.zero_le,
    List.length_nil]

/-- Every piece keeps lists and counters within their bounds. -/
theorem Piece.keeps_within (h : Piece s t) (hs : s.Within) : t.Within := by
  induction h with
  | aside h => exact hs.aside h
  | trans _ _ ih ih' => exact ih' (ih hs)
  | ease h => exact hs.setDispatch ⟨hs.dispatch.1, hs.dispatch.2.1, hs.dispatch.2.2.map fun r => (h r).deferred⟩
  | book => exact hs.setDispatch (hs.dispatch.updateEntry _ _ _ _)
  | takeAsk => exact hs.takeAsk _ _ _ _ _ _
  | @giveEnds s g rest hg e =>
    have hleft : (s.putBus (s.bus.offeredLeaves .give)).Within := by
      refine hs.setBus (hs.bus.gives_le ?_)
      exact ((List.drop_sublist 1 _).length_le).trans hs.bus.gives
    exact hleft.giveEnding g e
  | emptyQueue s => exact (hs.setBus (hs.bus.gives_le (Nat.zero_le _))).dropGives _
  | withdraw s test => exact hs.withdraw test
  | refill => exact hs.setDispatch (hs.dispatch.updateRing _ fun r => r.refill_deferred _)
  | imageStored => exact hs.imageStored
  | loaded => exact State.loaded_within _ _ _ _ _ _ _
  | firstClock => exact hs.setDispatch ⟨hs.dispatch.1, hs.dispatch.2.1, fillRings_deferred _ _ _⟩
  | @applyUnits s route day slot units =>
    refine hs.setDispatch ?_
    unfold DispatchTable.applyUnits
    split
    · exact (hs.dispatch.updateEntry _ _ _ _).expire _
    · exact hs.dispatch.expire _

end Within

end Sys2Proof.Machine
end

section
/-! The consecutive-abandoned count, the action table, and the lists that their records and stations bound: O58. -/

namespace Sys2Proof.Machine

/-! ### The consecutive-abandoned count -/

section Consecutive
variable {s : State}

theorem AsksFrame.consecutive {b b' : BusController} (h : AsksFrame b b') : b'.consecutive = b.consecutive := by
  obtain ⟨ask, wait, rfl⟩ := h
  rfl

theorem State.raiseBus_consecutive (s : State) : s.raiseBus.bus.consecutive = s.bus.consecutive := by
  unfold State.raiseBus
  split <;> rfl

theorem State.enterBus_consecutive (s : State) (st : BusState) : (s.enterBus st).bus.consecutive = s.bus.consecutive := by
  obtain ⟨_, _, _, _, _, _, h⟩ := s.bus.enter_frame s.loader s.timer.ms st
  unfold State.enterBus
  rw [h]
  rfl

theorem State.changeBus_consecutive (s : State) (st : BusState) : (s.changeBus st).bus.consecutive = s.bus.consecutive :=
  (State.raiseBus_consecutive _).trans (s.enterBus_consecutive st)

theorem State.emptyQueue_consecutive (s : State) : s.emptyQueue.bus.consecutive = s.bus.consecutive := by
  rw [State.emptyQueue_bus]

theorem State.endAskSince_consecutive (s was : State) : (s.endAskSince was).bus.consecutive = s.bus.consecutive :=
  (s.endAskSince_asks was).consecutive

theorem State.enterFailed_consecutive (s was : State) : (s.enterFailed was).bus.consecutive = s.bus.consecutive := by
  rw [State.enterFailed, State.raiseBus_consecutive, State.endAskSince_consecutive, State.emptyQueue_consecutive,
    State.enterBus_consecutive]

/-- The QUIET trigger starts the count afresh (R122). -/
theorem State.quietTrigger_consecutive (s was : State) : (s.quietTrigger was).bus.consecutive = 0 := by
  unfold State.quietTrigger
  dsimp only
  split
  · rw [State.endAskSince_consecutive, State.emptyQueue_consecutive, State.changeBus_consecutive]
    rfl
  · rw [State.enterFailed_consecutive]
    rfl

theorem State.handBack_consecutive (s : State) (was : BusController) (k : TxKind) (e : Ending) :
    (s.handBack was k e).bus.consecutive = s.bus.consecutive := by
  unfold State.handBack
  split
  · split
    · rw [State.giveEnding_bus]
    · rfl
  · exact (s.askEnding_asks e).consecutive
  · split
    · split
      · split
        · exact s.changeBus_consecutive _
        · exact s.changeBus_consecutive _
        · obtain ⟨_, h⟩ := s.bus.queuePresence_frame true
          rw [h]
          rfl
        · rfl
        · rfl
      · rfl
    · rfl

theorem State.endFrame_consecutive (s : State) (k : TxKind) (e : Ending) :
    (s.endFrame k e).bus.consecutive = s.bus.consecutive := by
  rw [State.endFrame, State.quotesDue_bus, State.handBack_consecutive]
  rfl

theorem State.abandon_consecutive (s : State) (k : TxKind) : (s.abandon k).bus.consecutive ≤ 3 := by
  obtain ⟨hlt, h⟩ | ⟨-, s2, s3, -, -, h⟩ := s.abandon_cases k
  · rw [h, State.endFrame_consecutive]
    exact Nat.le_of_lt_succ hlt
  · rw [h, State.quietTrigger_consecutive]
    exact Nat.zero_le _

theorem State.failAttempt_consecutive (h : s.bus.consecutive ≤ 3) (k : TxKind) : (s.failAttempt k).bus.consecutive ≤ 3 := by
  unfold State.failAttempt
  dsimp only
  split
  · exact h
  · exact State.abandon_consecutive _ k

theorem State.closeHead_consecutive (s : State) (route : Nat) (e : Entry) :
    (s.closeHead route e).bus.consecutive = s.bus.consecutive := (s.closeHead_bus route e).consecutive

theorem State.closeSpan_consecutive (n : Nat) (s : State) (c : ClockTime) (d : Nat) :
    (State.closeSpan n s c d).bus.consecutive = s.bus.consecutive := by
  induction n generalizing s with
  | zero => rfl
  | succ n ih =>
    unfold State.closeSpan
    split
    · rw [ih, State.closeHead_consecutive]
    · rfl

theorem State.bookings_consecutive (s was : State) : (s.bookings.quotesDue was).bus.consecutive = s.bus.consecutive :=
  (s.bookings_asks.trans (State.quotesDue_asks _ _)).consecutive

theorem State.editionChange_consecutive (s : State) (g : Image) :
    (s.editionChange g).bus.consecutive = s.bus.consecutive := by
  rw [State.editionChange_eq]
  dsimp only
  unfold State.editionBus
  split <;> rfl

theorem State.started_consecutive (s : State) : s.startScanner.startBus.bus.consecutive = s.bus.consecutive := by
  obtain ⟨-, -, -, -, changed, hbus⟩ := s.started_keeps
  rw [hbus]
  exact s.enterBus_consecutive _

theorem State.cleared_consecutive (s : State) (n : Nat) : (s.cleared n).bus.consecutive = s.ceaseWrites.bus.consecutive := by
  rw [State.cleared, (State.printerSettle_prints _).bus]
  simp [State.restartValues, State.emptied, State.emptyQueue_bus, BusController.restarted, BusController.leave]

theorem BeltFrame.consecutive {t : State} (h : BeltFrame s t) : t.bus.consecutive = s.bus.consecutive := by rw [h.bus]

theorem Move.keeps_consecutive {s t : State} (h : Move s t) (hs : s.bus.consecutive ≤ 3) : t.bus.consecutive ≤ 3 := by
  induction h with
  | quiet h => exact h.bus.consecutive hs
  | trans _ _ ih ih' => exact ih' (ih hs)
  | powerOn =>
    rw [State.powerOn_eq, State.started_consecutive, (State.printerSettle_prints _).bus]
    exact Nat.zero_le _
  | restart s n =>
    rw [State.restart_eq]
    refine (Quiet.restartCell _).bus.consecutive ?_
    rw [State.started_consecutive, State.cleared_consecutive]
    exact (Quiet.ceaseWrites s).bus.consecutive hs
  | accept => exact hs
  | confirm => exact hs
  | void =>
    obtain ⟨hb, -⟩ := State.voidEffect_hall (State.endParcel _ _ .void (some .command)) _
    exact (hb.consecutive.trans (State.endParcel_belts _ _ _ _).consecutive).trans_le hs
  | plateTimeout => exact (State.endParcel_belts _ _ _ _).consecutive.trans_le hs
  | placeOwed s =>
    obtain ⟨q, rs, h⟩ := s.placeOwed_frame
    exact h ▸ hs
  | firstClock => exact hs
  | @forward s c new d _ _ =>
    obtain ⟨s2, hs2, h⟩ : ∃ s2 : State, s2.bus.consecutive ≤ 3 ∧ s.stepForward c new d = s2.bookings.quotesDue s := by
      refine ⟨_, ?_, rfl⟩
      have hspan := (State.closeSpan_consecutive closingLimit s c d).trans_le hs
      dsimp only [State.setDispatch_bus]
      split
      · exact hspan
      · exact (Quiet.labelDay _ _).bus.consecutive hspan
    rw [h, State.bookings_consecutive]
    exact hs2
  | cutOff =>
    rw [State.bookings_consecutive, State.closeHead_consecutive]
    exact hs
  | @imageStored s _ =>
    refine (Quiet.answerHeld _ _ _ _).bus.consecutive ?_
    rw [State.editionChange_consecutive]
    exact hs
  | changeBus => exact (State.changeBus_consecutive _ _).trans_le hs
  | plateCleared => exact hs
  | settle => exact hs
  | handOver d _ =>
    unfold State.measurementHandOver
    dsimp only
    split
    · exact (State.endParcel_belts _ _ _ _).consecutive.trans_le hs
    · exact ((State.serveLine_asks _).trans (State.quotesDue_asks _ _)).consecutive.trans_le hs
  | failAttempt => exact State.failAttempt_consecutive hs _
  | endFrame => exact (State.endFrame_consecutive _ _ _).trans_le hs
  | meet => exact hs
  | takeAsk =>
    unfold State.takeAsk
    split
    · exact hs
    · split
      · unfold State.answerAsk BusController.queueGive
        dsimp only
        split <;> exact hs
      · exact hs
  | applyUnits => exact hs
  | endAsk => exact (State.endAskSince_consecutive _ _).trans_le hs
  | enterFailed => exact (State.enterFailed_consecutive _ _).trans_le hs
  | breakTaken => exact (State.breakTaken_belts _ _).consecutive.trans_le hs
  | makeTaken => exact (State.makeTaken_belts _ _).consecutive.trans_le hs
  | carryOut => exact (State.carry_belts _ _).consecutive.trans_le hs
  | clearIn => exact (State.makeAction_belts _ _).consecutive.trans_le hs
  | jam => exact (State.rejectOnBelt_belts _ _ _).consecutive.trans_le hs
  | printFailed => exact (State.printFailed_prints _).belt.consecutive.trans_le hs

end Consecutive

/-! ### The action table -/

section Table
variable {s : State}

theorem State.actionMarks_length (s : State) : s.actionMarks.length = s.outfeed.actions.length := List.length_map _

theorem State.actionMarks_of_outfeed {t : State} (h : t.outfeed = s.outfeed) : t.actionMarks = s.actionMarks := by
  rw [State.actionMarks, h]
  rfl

theorem State.markAndDivert_actions (s : State) (tag : Nat) (f : Marks → Marks) :
    (s.markAndDivert tag f).actionMarks = s.actionMarks := ((s.mark tag f).outfeed.divert_marks tag).1

/-- What is carried out adds nothing to the table. -/
theorem State.carry_actions (s : State) (a : Action) : (s.carry a).actionMarks.length ≤ s.actionMarks.length := by
  unfold State.carry
  split
  · have hlate : ((s.markAndDivert a.tag (fun m => { m with labelLate := true })).leavePrintOrder a.tag).actionMarks =
        s.actionMarks := s.markAndDivert_actions _ _
    unfold State.carryApply
    split
    · split
      · exact (congrArg List.length (State.actionMarks_of_outfeed (State.slotEmptied_prints _).outfeed)).le
      · exact (congrArg List.length hlate).le
    · exact (congrArg List.length hlate).le
  · exact Nat.le_refl _
  · unfold State.carryClear
    extract_lets s1 s2 s3
    have h1 : s1.actionMarks = s.actionMarks := by
      simp only [s1, State.actionMarks, State.setOutfeed_outfeed, Outfeed.carryClear]
      split <;> rfl
    have h2 : s2.actionMarks = s1.actionMarks := by
      unfold s2
      split <;> rfl
    have h3 : s3.actionMarks.length ≤ s.actionMarks.length := by
      rw [← h1, ← h2]
      exact (List.filter_sublist.map _).length_le
    split
    · rw [State.actionMarks_of_outfeed (State.endOnBelt_outfeed _ _)]
      exact h3
    · exact h3

theorem State.makeAction_actions (s : State) (a : Action) :
    (s.makeAction a).actionMarks.length ≤ s.actionMarks.length + 1 := by
  unfold State.makeAction
  split
  · exact (s.carry_actions a).trans (Nat.le_succ _)
  · simp [State.actionMarks]

theorem State.fillClears_actions (n : Nat) (h : s.actionMarks.length ≤ 8) :
    (State.fillClears n s).actionMarks.length ≤ 8 := by
  induction n generalizing s with
  | zero => exact h
  | succ n ih =>
    unfold State.fillClears
    split
    · split
      next hroom =>
        have hlt : s.actionMarks.length < 8 := s.actionMarks_length.trans_lt hroom
        exact ih ((State.makeAction_actions _ _).trans hlt)
      next => exact h
    · exact h

theorem State.closeShort_actions (s : State) (p : Parcel) : (s.closeShort p).actionMarks.length ≤ s.actionMarks.length := by
  unfold State.closeShort
  dsimp only
  rw [State.actionMarks_of_outfeed (State.rejectOnBelt_outfeed _ _ _)]
  simp only [State.actionMarks, State.setOutfeed_outfeed]
  split <;> exact (List.filter_sublist.map _).length_le

theorem State.orphanBreak_actions (s : State) : s.orphanBreak.actionMarks.length ≤ s.actionMarks.length := by
  unfold State.orphanBreak
  split
  · exact Nat.le_refl _
  · dsimp only
    split
    · exact State.closeShort_actions _ _
    · exact Nat.le_refl _

theorem State.matchBreak_actions (s : State) (p : Parcel) (e : Edge) :
    (s.matchBreak p e).actionMarks.length ≤ s.actionMarks.length + 2 := by
  unfold State.matchBreak
  extract_lets s1 _ s2 s3 s4
  have h3 : s3.actionMarks = s.actionMarks := by
    unfold s3
    split <;> rfl
  have h4 : s4.actionMarks.length ≤ s.actionMarks.length + 1 := by
    unfold s4 State.enterApply
    rw [← h3]
    dsimp only
    split
    · exact Nat.le_succ _
    · simp [State.actionMarks]
  exact (s4.makeAction_actions _).trans (Nat.succ_le_succ h4)

theorem State.unmatchedBreak_actions (s : State) (e : Edge) : (s.unmatchedBreak e).actionMarks = s.actionMarks := by
  unfold State.unmatchedBreak
  extract_lets _ s1
  split
  · split
    · split
      · exact s1.markAndDivert_actions _ _
      · rfl
    · rfl
  · rfl

/-- A BREAK taken makes two entries at most (R162, R165). -/
theorem State.breakTaken_actions (s : State) (e : Edge) :
    (s.breakTaken e).actionMarks.length ≤ s.actionMarks.length + 2 := by
  unfold State.breakTaken
  dsimp only
  split
  · exact (State.matchBreak_actions _ _ e).trans (Nat.add_le_add_right s.orphanBreak_actions 2)
  · rw [State.unmatchedBreak_actions]
    exact s.orphanBreak_actions.trans (Nat.le_add_right _ 2)

theorem State.measureBelt_actions (h : s.actionMarks.length ≤ 8) (p : Parcel) (p0 p1 : Count) :
    (s.measureBelt p p0 p1).actionMarks.length ≤ 8 := by
  unfold State.measureBelt
  extract_lets len s1 s2 pos
  have h2 : s2.actionMarks = s.actionMarks := by
    unfold s2
    split
    · exact s1.markAndDivert_actions _ _
    · rfl
  split
  next hroom =>
    have hlt : s2.actionMarks.length < 8 := s2.actionMarks_length.trans_lt hroom.1
    exact State.fillClears_actions _ ((s2.makeAction_actions _).trans hlt)
  next =>
    have hwaits : (s2.setOutfeed { s2.outfeed with
        pendingClear := s2.outfeed.pendingClear ++ [(p.tag, pos)] }).actionMarks = s2.actionMarks := rfl
    rw [hwaits, h2]
    exact h

theorem State.makeTaken_actions (h : s.actionMarks.length ≤ 8) (e : Edge) : (s.makeTaken e).actionMarks.length ≤ 8 := by
  unfold State.makeTaken
  split
  · exact h
  · dsimp only
    split
    · exact State.measureBelt_actions h _ _ _
    · exact h

theorem State.started_outfeed (s : State) : s.startScanner.startBus.outfeed = s.outfeed := by
  obtain ⟨p, h⟩ := s.started_halls
  exact h.outfeed

theorem Move.keeps_actions {s t : State} (h : Move s t) (hs : s.actionMarks.length ≤ 8) : t.actionMarks.length ≤ 8 := by
  have hkept : ∀ {s t : State}, t.outfeed = s.outfeed → s.actionMarks.length ≤ 8 → t.actionMarks.length ≤ 8 :=
    fun ho hs => State.actionMarks_of_outfeed ho ▸ hs
  induction h with
  | @quiet s t h =>
    rw [State.actionMarks_length, h.outfeed.actions, ← State.actionMarks_length]
    exact hs
  | trans _ _ ih ih' => exact ih' (ih hs)
  | powerOn =>
    rw [State.powerOn_eq, State.actionMarks_length, State.started_outfeed, (State.printerSettle_prints _).outfeed]
    exact Nat.zero_le _
  | restart s n =>
    rw [State.restart_eq, State.actionMarks_length, (Quiet.restartCell _).outfeed.actions, State.started_outfeed,
      State.cleared, (State.printerSettle_prints _).outfeed]
    simp [State.restartValues, Outfeed.restarted]
  | accept => exact hs
  | confirm => exact hs
  | void => exact hkept (State.voided_outfeed _ _ _ _) hs
  | plateTimeout => exact hkept (State.endParcel_outfeed _ _ _ _) hs
  | placeOwed s =>
    obtain ⟨q, rs, h⟩ := s.placeOwed_frame
    exact h ▸ hs
  | firstClock => exact hs
  | @forward s c new d _ _ =>
    obtain ⟨s1, s2, hbooks, hquiet, -, h⟩ := s.stepForward_keeps c new d
    rw [h, State.actionMarks_of_outfeed ((State.bookings_books _).trans (State.quotesDue_books _ s)).outfeed]
    rw [State.actionMarks_length, State.setDispatch_outfeed, hquiet.outfeed.actions, hbooks.outfeed, ← State.actionMarks_length]
    exact hs
  | cutOff =>
    exact hkept (((State.closeHead_books _ _ _).trans (State.bookings_books _)).trans (State.quotesDue_books _ _)).outfeed hs
  | imageStored => exact hkept (State.imageStored_outfeed _) hs
  | changeBus => exact hkept (State.changeBus_halls _ _).outfeed hs
  | plateCleared => exact hs
  | settle => exact hs
  | handOver => exact hkept (State.measurementHandOver_outfeed _ _ _) hs
  | failAttempt => exact hkept (State.failAttempt_halls _ _).outfeed hs
  | endFrame => exact hkept (State.endFrame_halls _ _ _).outfeed hs
  | meet => exact hs
  | takeAsk =>
    unfold State.takeAsk
    split
    · exact hs
    · split <;> exact hs
  | applyUnits => exact hs
  | endAsk => exact hkept (State.endAskSince_books _ _).outfeed hs
  | enterFailed => exact hkept (State.enterFailed_halls _ _).outfeed hs
  | @breakTaken s e h =>
    have hroom : s.actionMarks.length + 2 ≤ 8 := by
      rw [State.actionMarks_length]
      exact of_decide_eq_true (Bool.and_eq_true_iff.1 h).2
    exact (s.breakTaken_actions e).trans hroom
  | makeTaken => exact State.makeTaken_actions hs _
  | carryOut =>
    refine (State.carry_actions _ _).trans (le_trans ?_ hs)
    exact (List.erase_sublist.map _).length_le
  | @clearIn s _ _ _ _ hroom =>
    have hlt : s.actionMarks.length < 8 := s.actionMarks_length.trans_lt hroom
    exact (State.makeAction_actions _ _).trans hlt
  | jam =>
    rw [State.actionMarks_of_outfeed (State.rejectOnBelt_outfeed _ _ _)]
    exact ((List.filter_sublist.map _).length_le).trans hs
  | printFailed => exact hkept (State.printFailed_prints _).outfeed hs

end Table

/-! ### Lists bounded by their records and stations -/

/-- Tags of records, none twice, are six at most. -/
theorem State.TagsOk.length_le {s : State} (h : s.TagsOk) {tags : List Nat} (hn : tags.Nodup)
    (hm : ∀ t ∈ tags, ∃ p ∈ s.queue.parcels, p.tag = t) : tags.length ≤ 6 := by
  have hsub : tags ⊆ s.queue.parcels.map Parcel.tag := fun t ht => by
    obtain ⟨p, hp, rfl⟩ := hm t ht
    exact List.mem_map_of_mem hp
  have hlen := (hn.subperm hsub).length_le
  rw [List.length_map] at hlen
  exact hlen.trans h.2.2.2.2

/-- Other stations of the hall are 31 at most (R134). -/
theorem State.HallOk.peers_length_le {s : State} (h : s.HallOk) : s.peers.peers.length ≤ 31 := by
  obtain ⟨-, hown, hoff, hasc, hrange⟩ := h
  by_cases hst : s.bus.state = .off
  · rw [hoff hst]
    exact Nat.zero_le _
  · have hnodup : (s.peers.peers.map Peer.station).Nodup :=
      (List.pairwise_map.2 hasc).imp fun h => h.ne
    have hsub : (s.peers.peers.map Peer.station).toFinset ⊆ (Finset.Icc 1 32).erase s.loader.stationNo := by
      intro n hn
      obtain ⟨p, hp, rfl⟩ := List.mem_map.1 (List.mem_toFinset.1 hn)
      obtain ⟨hlow, hhigh, hne⟩ := hrange p hp
      exact Finset.mem_erase.2 ⟨hne, Finset.mem_Icc.2 ⟨hlow, hhigh⟩⟩
    have hcard := Finset.card_le_card hsub
    rw [List.toFinset_card_of_nodup hnodup, List.length_map, Finset.card_erase_of_mem (Finset.mem_Icc.2 (hown hst)),
      Nat.card_Icc] at hcard
    exact hcard

/-- The lists of the records' parts are six long at most (R93, R167, R180). -/
theorem State.TagsOk.lists_le {s : State} (h : s.TagsOk) (hplate : s.PlateOk) (hbelt : s.BeltOk) :
    s.dispatch.line.length ≤ 6 ∧ s.label.printOrder.length ≤ 6 ∧ s.outfeed.pendingClear.length ≤ 6 := by
  obtain ⟨-, hline, hwaits, -, -⟩ := hplate
  obtain ⟨-, hclears, hclear, -, -, hlabels, hlabel⟩ := hbelt
  have hline6 := h.length_le hline fun t ht => by
    obtain ⟨r, hr, rfl⟩ := List.mem_map.1 ht
    obtain ⟨-, p, hp, htag, -⟩ := hwaits r hr
    exact ⟨p, hp, htag⟩
  have hclear6 := h.length_le hclears fun t ht => by
    obtain ⟨p, hp, htag, -⟩ := hclear t ht
    exact ⟨p, hp, htag⟩
  have hlabel6 := h.length_le hlabels fun t ht => by
    obtain ⟨l, hl, rfl⟩ := List.mem_map.1 ht
    obtain ⟨p, hp, htag, -⟩ | ⟨p, hp, htag, -⟩ := hlabel l hl
    · exact ⟨p, hp, htag⟩
    · exact ⟨p, hp, htag⟩
  rw [List.length_map] at hline6 hclear6 hlabel6
  exact ⟨hline6, hlabel6, hclear6⟩

/-- What is left of the bounds once records, bookings and hall are in order. -/
theorem State.bounds_iff {s : State} (htags : s.TagsOk) (hplate : s.PlateOk) (hbelt : s.BeltOk) (hhall : s.HallOk) :
    s.Bounded ∧ s.CountersOk ↔ s.Within ∧ s.bus.consecutive ≤ 3 ∧ s.actionMarks.length ≤ 8 := by
  rw [State.actionMarks_length]
  constructor
  · rintro ⟨⟨-, hreports, hedges, hactions, hgives, hstaged, hhistory, -, -, -, -⟩, hquiet, hclear, hexpired, hstranded,
      hlate, hfailed, hentries, hunheard, hunknown, hquietHistory, hconsecutive, hdropped, horphans, hunmatched, hjams,
      hwasted, hlost, hdeferred, hunits, hasked⟩
    exact ⟨⟨⟨hreports, hlost⟩, hstaged, ⟨hhistory, hquiet, hclear⟩, ⟨hexpired, hstranded, hdeferred⟩, ⟨hasked, hlate⟩,
      ⟨hgives, hfailed, hentries, hunheard, hunknown, hquietHistory⟩, hunits,
      ⟨hedges, hdropped, horphans, hunmatched, hjams⟩, hwasted⟩, hconsecutive, hactions⟩
  · rintro ⟨⟨⟨hreports, hlost⟩, hstaged, ⟨hhistory, hquiet, hclear⟩, ⟨hexpired, hstranded, hdeferred⟩, ⟨hasked, hlate⟩,
      ⟨hgives, hfailed, hentries, hunheard, hunknown, hquietHistory⟩, hunits,
      ⟨hedges, hdropped, horphans, hunmatched, hjams⟩, hwasted⟩, hconsecutive, hactions⟩
    obtain ⟨hline, hlabels, hclears⟩ := htags.lists_le hplate hbelt
    exact ⟨⟨htags.2.2.2.2, hreports, hedges, hactions, hgives, hstaged, hhistory, hhall.peers_length_le, hline, hlabels,
      hclears⟩, hquiet, hclear, hexpired, hstranded, hlate, hfailed, hentries, hunheard, hunknown, hquietHistory,
      hconsecutive, hdropped, horphans, hunmatched, hjams, hwasted, hlost, hdeferred, hunits, hasked⟩

/-- Settles O58: the lists that records and stations bound, and the rest piece by piece. -/
theorem stepKeepsBounds : Obligations.StepKeepsBounds := by
  intro s t htags hplate hbelt hhall hbounded hcounters h
  have hmove := step_moves h
  obtain ⟨hwithin, hcons, hactions⟩ := (State.bounds_iff htags hplate hbelt hhall).1 ⟨hbounded, hcounters⟩
  obtain ⟨htags', horder⟩ := stepKeepsRecords s t h
  obtain ⟨hplate', hbelt'⟩ := horder htags hplate hbelt
  exact (State.bounds_iff (htags' htags) hplate' hbelt' (hmove.keeps_hall hhall)).2
    ⟨hmove.piece.keeps_within hwithin, hmove.keeps_consecutive hcons, hmove.keeps_actions hactions⟩

end Sys2Proof.Machine
end

section
/-! The units of the hall: the rings of an image, and the reservations of the GIVEs on their entries (R90 to R92, R100,
R148). -/

namespace Sys2Proof.Machine

/-! ### The units that GIVEs reserve -/

/-- The units of the GIVEs reserved on an entry's dispatch (R100, R148). -/
def reservedBy (gs : List TxGive) (route day slot : Nat) : Nat :=
  ((gs.filter (fun g => g.names route day slot)).map TxGive.units).sum

section Reserved
variable {gs : List TxGive} {route day slot : Nat}

theorem reservedBy_cons (g : TxGive) (gs : List TxGive) (route day slot : Nat) :
    reservedBy (g :: gs) route day slot = (if g.names route day slot then g.units else 0) + reservedBy gs route day slot := by
  unfold reservedBy
  rw [List.filter_cons]
  split
  · simp
  · simp

theorem reservedBy_append (gs gs' : List TxGive) (route day slot : Nat) :
    reservedBy (gs ++ gs') route day slot = reservedBy gs route day slot + reservedBy gs' route day slot := by
  simp [reservedBy]

theorem reservedBy_tail_le (g : TxGive) (gs : List TxGive) (route day slot : Nat) :
    reservedBy gs route day slot ≤ reservedBy (g :: gs) route day slot := by
  rw [reservedBy_cons]
  exact Nat.le_add_left _ _

theorem reservedBy_eq_zero (h : ∀ g ∈ gs, g.names route day slot = false) : reservedBy gs route day slot = 0 := by
  have hnil : gs.filter (fun g => g.names route day slot) = [] := List.filter_eq_nil_iff.2 fun g hg => by simp [h g hg]
  rw [reservedBy, hnil]
  rfl

theorem TxGive.names_iff {g : TxGive} :
    g.names route day slot = true ↔ g.live = true ∧ g.route = route ∧ g.day = day ∧ g.slot = slot := by
  simp [TxGive.names, and_assoc]

theorem TxGive.names_eq_of_reservation {g g' : TxGive} (h : g'.reservation = g.reservation) :
    g'.names route day slot = g.names route day slot ∧ g'.units = g.units := by
  simp only [TxGive.reservation, Prod.mk.injEq] at h
  obtain ⟨hlive, hroute, hday, hslot, hunits⟩ := h
  exact ⟨by rw [TxGive.names, hlive, hroute, hday, hslot, TxGive.names], hunits⟩

theorem reservedBy_of_reservations {gs gs' : List TxGive}
    (h : gs'.map TxGive.reservation = gs.map TxGive.reservation) (route day slot : Nat) :
    reservedBy gs' route day slot = reservedBy gs route day slot := by
  induction gs' generalizing gs with
  | nil =>
    obtain rfl : gs = [] := by simpa using h.symm
    rfl
  | cons g' gs' ih =>
    obtain ⟨g, rest, rfl⟩ : ∃ g rest, gs = g :: rest := by
      cases gs with
      | nil => simp at h
      | cons g rest => exact ⟨g, rest, rfl⟩
    rw [List.map_cons, List.map_cons, List.cons.injEq] at h
    obtain ⟨hnames, hunits⟩ := TxGive.names_eq_of_reservation (route := route) (day := day) (slot := slot) h.1
    rw [reservedBy_cons, reservedBy_cons, hnames, hunits, ih h.2]

/-- The GIVEs that a withdrawal leaves, those that meet the test reserving nothing. -/
def withdrawnGives (gs : List TxGive) (test : TxGive → Bool) : List TxGive :=
  (gs.filter (fun g => g.begun || !test g)).map (fun g => if test g then { g with live := false } else g)

theorem BusController.withdrawGives_gives (b : BusController) (test : TxGive → Bool) :
    (b.withdrawGives test).gives = withdrawnGives b.gives test := rfl

theorem reservedBy_withdrawn_le (gs : List TxGive) (test : TxGive → Bool) (route day slot : Nat) :
    reservedBy (withdrawnGives gs test) route day slot ≤ reservedBy gs route day slot := by
  induction gs with
  | nil => exact Nat.le_refl _
  | cons g gs ih =>
    unfold withdrawnGives at ih ⊢
    rw [List.filter_cons]
    split
    · rw [List.map_cons, reservedBy_cons, reservedBy_cons]
      refine Nat.add_le_add ?_ ih
      by_cases ht : test g = true
      · simp [ht, TxGive.names]
      · simp [ht]
    · exact ih.trans (reservedBy_tail_le g gs route day slot)

theorem of_mem_withdrawnGives {test : TxGive → Bool} {x : TxGive} (hx : x ∈ withdrawnGives gs test)
    (hlive : x.live = true) : x ∈ gs ∧ test x = false := by
  obtain ⟨g, hg, rfl⟩ := List.mem_map.1 hx
  split at hlive
  next => exact absurd hlive Bool.false_ne_true
  next ht =>
    rw [if_neg ht]
    exact ⟨(List.mem_filter.1 hg).1, by simpa using ht⟩

end Reserved

/-! ### Rings in order -/

/-- An open entry changed in its units alone, they in order, and enough of them reserved for the GIVEs' (R90, R92). -/
def Entry.Turns (e e' : Entry) (given : Nat) : Prop :=
  e'.day = e.day ∧ e'.slot = e.slot ∧ e'.held ≤ 65535 ∧ e'.booked + e'.reserved ≤ e'.held ∧ given ≤ e'.reserved

/-- The rings of an image, one to a route at most, each in order, and the reservations of the GIVEs on their entries. -/
structure RingsOk (image : Option Image) (rings : List Ring) (gs : List TxGive) : Prop where
  nodup : (rings.map Ring.route).Nodup
  ring : ∀ r ∈ rings, ∃ g, image = some g ∧ r.Ok g
  reserved : ∀ r ∈ rings, ∀ e ∈ r.entries, reservedBy gs r.route e.day e.slot ≤ e.reserved
  named : ∀ x ∈ gs, x.live = true → ∃ r ∈ rings, r.route = x.route ∧ ∃ e ∈ r.entries, e.names x.day x.slot = true

theorem nextDay_nextDay_ne (d : Nat) : nextDay (nextDay d) ≠ d := by
  rw [nextDay_eq, nextDay_eq]
  split <;> split <;> omega

/-- The slot after one is another, and so is the one after that. -/
theorem slotAfter_ne {g : Image} {route d1 s1 d2 s2 d3 s3 : Nat} (h12 : (d2, s2) = slotAfter g route d1 s1)
    (h23 : (d3, s3) = slotAfter g route d2 s2) : ¬(d2 = d1 ∧ s2 = s1) ∧ ¬(d3 = d1 ∧ s3 = s1) := by
  have hnext := nextDay_ne d1
  have hnext2 := nextDay_nextDay_ne d1
  unfold slotAfter at h12 h23
  split at h12
  · obtain ⟨rfl, rfl⟩ := Prod.mk.inj h12
    split at h23
    · obtain ⟨rfl, rfl⟩ := Prod.mk.inj h23
      omega
    · obtain ⟨rfl, rfl⟩ := Prod.mk.inj h23
      exact ⟨by omega, fun h => hnext h.1⟩
  · obtain ⟨rfl, rfl⟩ := Prod.mk.inj h12
    split at h23
    · obtain ⟨rfl, rfl⟩ := Prod.mk.inj h23
      exact ⟨fun h => hnext h.1, fun h => hnext h.1⟩
    · obtain ⟨rfl, rfl⟩ := Prod.mk.inj h23
      exact ⟨fun h => hnext h.1, fun h => hnext2 h.1⟩

section Ok
variable {g : Image} {r r' : Ring}

theorem Ring.Ok.slots (h : r.Ok g) : 1 ≤ routeSlots g r.route ∧ routeSlots g r.route ≤ 4 := by
  have hused := h.1.1
  rwa [usedRoute, within_iff] at hused

/-- An entry of a ring is known by its day and its slot. -/
theorem Ring.Ok.entry_eq (h : r.Ok g) {e e' : Entry} (he : e ∈ r.entries) (he' : e' ∈ r.entries) (hday : e'.day = e.day)
    (hslot : e'.slot = e.slot) : e' = e := by
  obtain ⟨-, e1, e2, e3, hentries, h12, h23⟩ := h.1
  obtain ⟨hne12, hne13⟩ := slotAfter_ne h12 h23
  obtain ⟨hne23, -⟩ := slotAfter_ne h23 (d3 := _) (s3 := _) rfl
  rw [hentries] at he he'
  simp only [List.mem_cons, List.not_mem_nil, or_false] at he he'
  obtain rfl | rfl | rfl := he
  · obtain rfl | rfl | rfl := he'
    · rfl
    · exact absurd ⟨hday, hslot⟩ hne12
    · exact absurd ⟨hday, hslot⟩ hne13
  · obtain rfl | rfl | rfl := he'
    · exact absurd ⟨hday.symm, hslot.symm⟩ hne12
    · rfl
    · exact absurd ⟨hday, hslot⟩ hne23
  · obtain rfl | rfl | rfl := he'
    · exact absurd ⟨hday.symm, hslot.symm⟩ hne13
    · exact absurd ⟨hday.symm, hslot.symm⟩ hne23
    · rfl

/-- A ring whose entries change in their units alone. -/
theorem Ring.Ok.map (h : r.Ok g) {f : Entry → Entry} (hroute : r'.route = r.route) (hentries : r'.entries = r.entries.map f)
    (hf : ∀ e ∈ r.entries, ∃ n, e.Turns (f e) n) : r'.Ok g := by
  obtain ⟨⟨hused, e1, e2, e3, hlist, h12, h23⟩, hall⟩ := h
  rw [hlist] at hentries hf hall
  obtain ⟨n1, hd1, hs1, -⟩ := hf e1 (by simp)
  obtain ⟨n2, hd2, hs2, -⟩ := hf e2 (by simp)
  obtain ⟨n3, hd3, hs3, -⟩ := hf e3 (by simp)
  refine ⟨⟨hroute ▸ hused, f e1, f e2, f e3, hentries, ?_, ?_⟩, fun e he => ?_⟩
  · rw [hroute, hd1, hs1, hd2, hs2]
    exact h12
  · rw [hroute, hd2, hs2, hd3, hs3]
    exact h23
  · rw [hentries] at he
    obtain ⟨e, hmem, rfl⟩ := List.mem_map.1 he
    obtain ⟨n, hd, hs, hheld, hsum, -⟩ := hf e hmem
    obtain ⟨hday, hday', hslot, hslot', -⟩ := hall e hmem
    rw [hroute, hd, hs]
    exact ⟨hday, hday', hslot, hslot', hheld, hsum⟩

end Ok

section RingsOk
variable {image : Option Image} {rings : List Ring} {gs gs' : List TxGive} {d : DispatchTable} {route day slot : Nat}

theorem RingsOk.ring_eq (h : RingsOk image rings gs) {r r' : Ring} (hr : r ∈ rings) (hr' : r' ∈ rings)
    (hroute : r'.route = r.route) : r' = r := List.inj_on_of_nodup_map h.nodup hr' hr hroute

/-- What holds of the units of an open entry. -/
theorem RingsOk.units (h : RingsOk image rings gs) {r : Ring} {e : Entry} (hr : r ∈ rings) (he : e ∈ r.entries) :
    e.Turns e (reservedBy gs r.route e.day e.slot) := by
  obtain ⟨g, -, -, hall⟩ := h.ring r hr
  obtain ⟨-, -, -, -, hheld, hsum⟩ := hall e he
  exact ⟨rfl, rfl, hheld, hsum, h.reserved r hr e he⟩

theorem DispatchTable.entry_mem {e : Entry} (h : d.entry route day slot = some e) :
    ∃ r ∈ d.rings, r.route = route ∧ e ∈ r.entries := by
  unfold DispatchTable.entry at h
  split at h
  next r hr =>
    exact ⟨r, List.mem_of_find?_eq_some hr, by simpa using List.find?_some hr, List.mem_of_find?_eq_some h⟩
  next => exact nomatch h

/-- The open entry of a dispatch is the only one of its names. -/
theorem RingsOk.entry_eq (h : RingsOk image d.rings gs) {e e' : Entry} {r : Ring} (he : d.entry route day slot = some e)
    (hr : r ∈ d.rings) (hroute : r.route = route) (he' : e' ∈ r.entries) (hday : e'.day = day) (hslot : e'.slot = slot) :
    e' = e := by
  obtain ⟨r', hr', hroute', hmem⟩ := DispatchTable.entry_mem he
  obtain rfl := h.ring_eq hr hr' (hroute'.trans hroute.symm)
  obtain ⟨hd, hs⟩ := DispatchTable.names_of_entry he
  obtain ⟨g, -, hok⟩ := h.ring r' hr
  exact hok.entry_eq hmem he' (hday.trans hd.symm) (hslot.trans hs.symm)

/-- The entries change in their units alone, and GIVEs go or come. -/
theorem RingsOk.map (h : RingsOk image rings gs) {f : Ring → Ring} {φ : Ring → Entry → Entry}
    (hf : ∀ r, (f r).route = r.route ∧ (f r).entries = r.entries.map (φ r))
    (hφ : ∀ r ∈ rings, ∀ e ∈ r.entries, e.Turns (φ r e) (reservedBy gs' r.route e.day e.slot))
    (hnamed : ∀ x ∈ gs', x.live = true → ∃ r ∈ rings, r.route = x.route ∧ ∃ e ∈ r.entries, e.names x.day x.slot = true) :
    RingsOk image (rings.map f) gs' := by
  refine ⟨?_, fun r hr => ?_, fun r hr e he => ?_, fun x hx hlive => ?_⟩
  · have hroutes : (rings.map f).map Ring.route = rings.map Ring.route := by
      rw [List.map_map]
      exact List.map_congr_left fun r _ => (hf r).1
    rw [hroutes]
    exact h.nodup
  · obtain ⟨r, hmem, rfl⟩ := List.mem_map.1 hr
    obtain ⟨g, hg, hok⟩ := h.ring r hmem
    exact ⟨g, hg, hok.map (hf r).1 (hf r).2 fun e he => ⟨_, hφ r hmem e he⟩⟩
  · obtain ⟨r, hmem, rfl⟩ := List.mem_map.1 hr
    rw [(hf r).2] at he
    obtain ⟨e, hin, rfl⟩ := List.mem_map.1 he
    obtain ⟨hd, hs, -, -, hgiven⟩ := hφ r hmem e hin
    rw [(hf r).1, hd, hs]
    exact hgiven
  · obtain ⟨r, hr, hroute, e, he, hnames⟩ := hnamed x hx hlive
    obtain ⟨hd, hs, -⟩ := hφ r hr e he
    refine ⟨f r, List.mem_map_of_mem hr, (hf r).1.trans hroute, φ r e, ?_, ?_⟩
    · rw [(hf r).2]
      exact List.mem_map_of_mem he
    · rw [Entry.names, hd, hs]
      exact hnames

/-- GIVEs that reserve no more, each on an open entry. -/
theorem RingsOk.gives (h : RingsOk image rings gs)
    (hle : ∀ route day slot, reservedBy gs' route day slot ≤ reservedBy gs route day slot)
    (hnamed : ∀ x ∈ gs', x.live = true → x ∈ gs) : RingsOk image rings gs' :=
  ⟨h.nodup, h.ring, fun r hr e he => (hle _ _ _).trans (h.reserved r hr e he), fun x hx hlive => h.named x (hnamed x hx hlive) hlive⟩

/-- The units of one dispatch change, with the GIVEs reserved on it. -/
theorem RingsOk.updateEntry (h : RingsOk image d.rings gs) {f : Entry → Entry}
    (hf : ∀ r ∈ d.rings, r.route = route → ∀ e ∈ r.entries, e.day = day → e.slot = slot →
      e.Turns (f e) (reservedBy gs' route day slot))
    (hle : ∀ route' day' slot', ¬(route' = route ∧ day' = day ∧ slot' = slot) →
      reservedBy gs' route' day' slot' ≤ reservedBy gs route' day' slot')
    (hnamed : ∀ x ∈ gs', x.live = true → ∃ r ∈ d.rings, r.route = x.route ∧ ∃ e ∈ r.entries, e.names x.day x.slot = true) :
    RingsOk image (d.updateEntry route day slot f).rings gs' := by
  refine h.map (φ := fun r e => if r.route = route ∧ e.day = day ∧ e.slot = slot then f e else e) (fun r => ?_)
    (fun r hr e he => ?_) hnamed
  · by_cases hroute : r.route = route
    · rw [if_pos hroute]
      refine ⟨rfl, List.map_congr_left fun e _ => ?_⟩
      simp [Entry.names, hroute]
    · rw [if_neg hroute]
      simp [hroute]
  · split
    next hall =>
      obtain ⟨rfl, rfl, rfl⟩ := hall
      exact hf r hr rfl e he rfl rfl
    next hother =>
      obtain ⟨hd, hs, hheld, hsum, hgiven⟩ := h.units hr he
      exact ⟨hd, hs, hheld, hsum, (hle _ _ _ hother).trans hgiven⟩

end RingsOk

end Sys2Proof.Machine
end

section
/-! The movements of units, the refill of a ring and its filling keep the rings in order (R91, R99 to R102). -/

namespace Sys2Proof.Machine

/-! ### Movements -/

section Movements
variable {image : Option Image} {gs : List TxGive} {d : DispatchTable} {route day slot : Nat}

theorem reservedBy_append_of_other {g : TxGive} (h : g.names route day slot = false) (gs : List TxGive) :
    reservedBy (gs ++ [g]) route day slot = reservedBy gs route day slot := by
  rw [reservedBy_append, reservedBy_cons, if_neg (by simp [h])]
  rfl

/-- Bookings lowered, or moved from ring to ring (R97, R99). -/
theorem RingsOk.ease {rings : List Ring} (h : RingsOk image rings gs) {f : Ring → Ring} (hf : ∀ r : Ring, r.Eases (f r)) :
    RingsOk image (rings.map f) gs := by
  choose φ hφ using fun r => (hf r).entries
  refine h.map (φ := φ) (fun r => ⟨(hf r).route, (hφ r).1⟩) (fun r hr e he => ?_) h.named
  obtain ⟨hd, hs, hheld, hreserved, hbooked⟩ := (hφ r).2 e
  obtain ⟨-, -, hheld', hsum', hgiven⟩ := h.units hr he
  exact ⟨hd, hs, hheld ▸ hheld', by omega, hreserved ▸ hgiven⟩

/-- A booking on an entry with room (R94). -/
theorem RingsOk.book (h : RingsOk image d.rings gs) {load : Nat} {e : Entry} (he : d.entry route day slot = some e)
    (hload : load ≤ e.free) :
    RingsOk image (d.updateEntry route day slot (fun e => { e with booked := e.booked + load })).rings gs := by
  refine h.updateEntry (fun r hr hroute e' he' hday hslot => ?_) (fun _ _ _ _ => Nat.le_refl _) h.named
  obtain rfl := h.entry_eq he hr hroute he' hday hslot
  obtain ⟨-, -, hheld, hsum, hgiven⟩ := h.units hr he'
  rw [hroute, hday, hslot] at hgiven
  rw [Entry.free] at hload
  exact ⟨rfl, rfl, hheld, by dsimp only; omega, hgiven⟩

/-- Units reserved on an entry that has them free, for a GIVE of its own (R100, R148). -/
theorem RingsOk.reserve (h : RingsOk image d.rings gs) {g : TxGive} {e : Entry}
    (he : d.entry g.route g.day g.slot = some e) (hfree : g.units ≤ e.free) :
    RingsOk image (d.reserve g.route g.day g.slot g.units).rings (gs ++ [g]) := by
  refine h.updateEntry (fun r hr hroute e' he' hday hslot => ?_) (fun route' day' slot' hother => ?_) fun x hx hlive => ?_
  · obtain rfl := h.entry_eq he hr hroute he' hday hslot
    obtain ⟨-, -, hheld, hsum, hgiven⟩ := h.units hr he'
    rw [hroute, hday, hslot] at hgiven
    rw [Entry.free] at hfree
    refine ⟨rfl, rfl, hheld, by dsimp only; omega, ?_⟩
    rw [reservedBy_append, reservedBy_cons]
    refine Nat.add_le_add hgiven ?_
    split
    · exact Nat.le_refl _
    · exact Nat.zero_le _
  · refine (reservedBy_append_of_other (Bool.eq_false_iff.2 fun hnames => hother ?_) gs).le
    obtain ⟨-, hroute, hday, hslot⟩ := TxGive.names_iff.1 hnames
    exact ⟨hroute.symm, hday.symm, hslot.symm⟩
  · obtain hx | hx := List.mem_append.1 hx
    · exact h.named x hx hlive
    · obtain rfl := List.mem_singleton.1 hx
      obtain ⟨r, hr, hroute, hmem⟩ := DispatchTable.entry_mem he
      obtain ⟨hd, hs⟩ := DispatchTable.names_of_entry he
      exact ⟨r, hr, hroute, e, hmem, by simp [Entry.names, hd, hs]⟩

/-- The oldest GIVE leaves. -/
theorem RingsOk.tail {rings : List Ring} {g : TxGive} (h : RingsOk image rings (g :: gs)) : RingsOk image rings gs :=
  h.gives (reservedBy_tail_le g gs) fun _ hx _ => List.mem_cons_of_mem _ hx

/-- The oldest GIVE leaves with its units, returned, transferred or written off (R100, R101). -/
theorem RingsOk.leave {g : TxGive} (h : RingsOk image d.rings (g :: gs)) (hlive : g.live = true) {held : Nat → Nat}
    (hheld : ∀ n, held n ≤ n) (hroom : ∀ n, n ≤ held n + g.units) :
    RingsOk image (d.updateEntry g.route g.day g.slot
      (fun e => { e with reserved := e.reserved - g.units, held := held e.held })).rings gs := by
  refine h.updateEntry (fun r hr hroute e he hday hslot => ?_) (fun _ _ _ _ => reservedBy_tail_le g gs _ _ _) h.tail.named
  obtain ⟨-, -, hheld65535, hsum, hgiven⟩ := h.units hr he
  rw [hroute, hday, hslot, reservedBy_cons, if_pos (TxGive.names_iff.2 ⟨hlive, rfl, rfl, rfl⟩)] at hgiven
  have hle := hheld e.held
  have hge := hroom e.held
  refine ⟨rfl, rfl, ?_, ?_, ?_⟩
  all_goals dsimp only; omega

theorem RingsOk.giveEnds {g : TxGive} (h : RingsOk image d.rings (g :: gs)) (hlive : g.live = true) (e : Ending) :
    RingsOk image (d.giveEnds g e).rings gs := by
  cases e with
  | acknowledged => exact h.leave hlive (fun n => Nat.sub_le n _) fun n => by omega
  | abandoned => exact h.leave hlive (fun n => Nat.sub_le n _) fun n => by omega
  | dropped => exact h.leave hlive (held := id) (fun n => Nat.le_refl n) fun n => Nat.le_add_right n _
  | unheard => exact h.tail
  | withdrawn => exact h.tail

theorem RingsOk.applyUnits (h : RingsOk image d.rings gs) (route day slot m : Nat) :
    RingsOk image (d.applyUnits route day slot m).rings gs := by
  have happlied : RingsOk image (d.updateEntry route day slot (fun e => { e with held := satAdd 65535 e.held m })).rings gs := by
    refine h.updateEntry (f := fun e => { e with held := satAdd 65535 e.held m }) (fun r hr hroute e he hday hslot => ?_)
      (fun _ _ _ _ => Nat.le_refl _) h.named
    obtain ⟨-, -, hheld, hsum, hgiven⟩ := h.units hr he
    rw [hroute, hday, hslot] at hgiven
    have hsat := satAdd_eq_min 65535 e.held m
    refine ⟨rfl, rfl, ?_, ?_, hgiven⟩
    all_goals dsimp only; omega
  unfold DispatchTable.applyUnits
  split
  · exact happlied
  · exact h

theorem RingsOk.withdraw {rings : List Ring} (h : RingsOk image rings gs) (test : TxGive → Bool) :
    RingsOk image rings (withdrawnGives gs test) :=
  h.gives (reservedBy_withdrawn_le gs test) fun _ hx hlive => (of_mem_withdrawnGives hx hlive).1

end Movements

/-! ### The refill and the filling -/

section Filling
variable {g : Image} {r : Ring} {gs : List TxGive}

theorem byteAt_le (bs : List Byte) (off : Nat) : byteAt bs off ≤ 255 := by
  unfold byteAt
  omega

theorem slotShare_le (g : Image) (route slot : Nat) : slotShare g route slot ≤ 65535 := by
  have hhigh := byteAt_le g (routeBase route + 4 + 4 * (slot - 1) + 2)
  have hlow := byteAt_le g (routeBase route + 4 + 4 * (slot - 1) + 2 + 1)
  rw [slotShare, u16At]
  omega

theorem nextDay_range {day : Nat} (h : 1 ≤ day ∧ day ≤ 366) : 1 ≤ nextDay day ∧ nextDay day ≤ 366 := by
  rw [nextDay_eq]
  split <;> omega

theorem slotAfter_range {route d s d' s' : Nat} (h : (d', s') = slotAfter g route d s) (hd : 1 ≤ d ∧ d ≤ 366)
    (hslots : 1 ≤ routeSlots g route) : (1 ≤ d' ∧ d' ≤ 366) ∧ 1 ≤ s' ∧ s' ≤ routeSlots g route := by
  unfold slotAfter at h
  split at h
  · obtain ⟨rfl, rfl⟩ := Prod.mk.inj h
    exact ⟨hd, by omega, by omega⟩
  · obtain ⟨rfl, rfl⟩ := Prod.mk.inj h
    exact ⟨nextDay_range hd, Nat.le_refl 1, hslots⟩

/-- A refilled ring: the second and the third entry move up, and a new one follows (R91). -/
theorem Ring.Ok.refill_eq {t : ImageStore} (h : r.Ok g) (hg : t.image = some g) {e : Entry} (he : r.entries.head? = some e) :
    ∃ e2 e3, r.entries = [e, e2, e3] ∧
      let n := slotAfter g r.route e3.day e3.slot
      (r.refill t).entries = [e2, e3, newEntry g r.route n.1 n.2] := by
  obtain ⟨-, e1, e2, e3, hentries, -, -⟩ := h.1
  rw [hentries] at he
  obtain rfl := Option.some.inj he
  refine ⟨e2, e3, hentries, ?_⟩
  rw [Ring.refill_of_image hg (by rw [hentries]; rfl), hentries]
  rfl

theorem Ring.Ok.refill {t : ImageStore} (h : r.Ok g) (hg : t.image = some g) : (r.refill t).Ok g := by
  have hslots := h.slots
  obtain ⟨⟨hused, e1, e2, e3, hentries, h12, h23⟩, hall⟩ := h
  obtain ⟨e2', e3', hentries', hrefill⟩ := Ring.Ok.refill_eq ⟨⟨hused, e1, e2, e3, hentries, h12, h23⟩, hall⟩ hg
    (by rw [hentries]; rfl)
  rw [hentries] at hentries' hall
  simp only [List.cons.injEq, true_and, and_true] at hentries'
  obtain ⟨rfl, rfl⟩ := hentries'
  obtain ⟨hday, hday', -⟩ := hall e3 (by simp)
  obtain ⟨hnday, hnslot⟩ := slotAfter_range (g := g) (route := r.route) (d := e3.day) (s := e3.slot) rfl ⟨hday, hday'⟩ hslots.1
  refine ⟨⟨?_, e2, e3, _, hrefill, ?_, ?_⟩, fun e he => ?_⟩
  · rw [Ring.refill_route]
    exact hused
  · rw [Ring.refill_route]
    exact h23
  · rw [Ring.refill_route]
    rfl
  · rw [hrefill] at he
    rw [Ring.refill_route]
    simp only [List.mem_cons, List.not_mem_nil, or_false] at he
    obtain rfl | rfl | rfl := he
    · exact hall e (by simp)
    · exact hall e (by simp)
    · exact ⟨hnday.1, hnday.2, hnslot.1, hnslot.2, slotShare_le _ _ _, Nat.zero_le _⟩

/-- The slot after the tail's is of neither of the last two entries. -/
theorem Ring.Ok.tail_ne (h : r.Ok g) {e e2 e3 : Entry} (hentries : r.entries = [e, e2, e3]) :
    ¬((slotAfter g r.route e3.day e3.slot).1 = e3.day ∧ (slotAfter g r.route e3.day e3.slot).2 = e3.slot) ∧
      ¬((slotAfter g r.route e3.day e3.slot).1 = e2.day ∧ (slotAfter g r.route e3.day e3.slot).2 = e2.slot) := by
  obtain ⟨-, x1, x2, x3, hlist, -, h23⟩ := h.1
  rw [hentries] at hlist
  simp only [List.cons.injEq, and_true] at hlist
  obtain ⟨-, rfl, rfl⟩ := hlist
  exact ⟨(slotAfter_ne (g := g) (route := r.route) (d1 := e3.day) (s1 := e3.slot) rfl rfl).1, (slotAfter_ne h23 rfl).2⟩

/-- A head closes that no GIVE is reserved on (R103). -/
theorem RingsOk.refill {t : ImageStore} {d : DispatchTable} (h : RingsOk t.image d.rings gs) (hr : r ∈ d.rings) {e : Entry}
    (he : r.entries.head? = some e) (hgives : ∀ x ∈ gs, x.names r.route e.day e.slot = false) :
    RingsOk t.image (d.updateRing r.route (fun r => r.refill t)).rings gs := by
  obtain ⟨g, hg, hok⟩ := h.ring r hr
  obtain ⟨e2, e3, hentries, hrefill⟩ := hok.refill_eq hg he
  have hnew := hok.tail_ne hentries
  have hroutes : ∀ q : Ring, (if q.route = r.route then q.refill t else q).route = q.route := fun q => by
    split
    · exact q.refill_route t
    · rfl
  have hmem : ∀ q ∈ (d.updateRing r.route (fun r => r.refill t)).rings, q = r.refill t ∨ q ∈ d.rings ∧ q.route ≠ r.route := by
    intro q hq
    obtain ⟨p, hp, rfl⟩ := List.mem_map.1 hq
    split
    next hroute => exact .inl (by rw [h.ring_eq hr hp hroute])
    next hroute => exact .inr ⟨hp, hroute⟩
  have hin : r.refill t ∈ (d.updateRing r.route (fun r => r.refill t)).rings :=
    List.mem_map.2 ⟨r, hr, if_pos rfl⟩
  -- A GIVE reserved on an entry of the ring is on the second or the third.
  have hon : ∀ x ∈ gs, x.live = true → x.route = r.route → ∃ y ∈ [e2, e3], y.names x.day x.slot = true := by
    intro x hx hlive hroute
    obtain ⟨q, hq, hqroute, y, hy, hnames⟩ := h.named x hx hlive
    obtain rfl := h.ring_eq hr hq (hqroute.trans hroute)
    rw [hentries] at hy
    obtain rfl | hy := List.mem_cons.1 hy
    · have hno := hgives x hx
      simp only [Entry.names, Bool.and_eq_true, beq_iff_eq] at hnames
      rw [hnames.1, hnames.2, TxGive.names_iff.2 ⟨hlive, hroute, rfl, rfl⟩] at hno
      exact absurd hno.symm Bool.false_ne_true
    · exact ⟨y, hy, hnames⟩
  refine ⟨?_, fun q hq => ?_, fun q hq y hy => ?_, fun x hx hlive => ?_⟩
  · have hsame : (d.updateRing r.route (fun r => r.refill t)).rings.map Ring.route = d.rings.map Ring.route := by
      rw [DispatchTable.updateRing, List.map_map]
      exact List.map_congr_left fun q _ => hroutes q
    rw [hsame]
    exact h.nodup
  · obtain rfl | ⟨hq, -⟩ := hmem q hq
    · exact ⟨g, hg, hok.refill hg⟩
    · exact h.ring q hq
  · obtain rfl | ⟨hq, -⟩ := hmem q hq
    · rw [hrefill] at hy
      rw [Ring.refill_route]
      simp only [List.mem_cons, List.not_mem_nil, or_false] at hy
      obtain rfl | rfl | rfl := hy
      · exact h.reserved r hr y (by simp [hentries])
      · exact h.reserved r hr y (by simp [hentries])
      · have hzero : reservedBy gs r.route (slotAfter g r.route e3.day e3.slot).1 (slotAfter g r.route e3.day e3.slot).2 = 0 := by
          refine reservedBy_eq_zero fun x hx => Bool.eq_false_iff.2 fun hnames => ?_
          obtain ⟨hlive, hroute, hday, hslot⟩ := TxGive.names_iff.1 hnames
          obtain ⟨y, hy, hnamed⟩ := hon x hx hlive hroute
          simp only [Entry.names, Bool.and_eq_true, beq_iff_eq] at hnamed
          rw [hday, hslot] at hnamed
          simp only [List.mem_cons, List.not_mem_nil, or_false] at hy
          obtain rfl | rfl := hy
          · exact hnew.2 ⟨hnamed.1.symm, hnamed.2.symm⟩
          · exact hnew.1 ⟨hnamed.1.symm, hnamed.2.symm⟩
        exact hzero.le
    · exact h.reserved q hq y hy
  · by_cases hroute : x.route = r.route
    · obtain ⟨y, hy, hnames⟩ := hon x hx hlive hroute
      refine ⟨r.refill t, hin, (r.refill_route t).trans hroute.symm, y, ?_, hnames⟩
      rw [hrefill]
      simp only [List.mem_cons, List.not_mem_nil, or_false] at hy ⊢
      exact hy.imp id .inl
    · obtain ⟨q, hq, hqroute, y, hy, hnames⟩ := h.named x hx hlive
      refine ⟨q, List.mem_map.2 ⟨q, hq, if_neg ?_⟩, hqroute, y, hy, hnames⟩
      rw [hqroute]
      exact hroute

end Filling

end Sys2Proof.Machine
end

section
/-! Every step keeps the units of the hall in order (O59). -/

namespace Sys2Proof.Machine

/-! ### The rings of a valid image -/

section Valid
variable {g : Image} {gs : List TxGive} {route : Nat}

theorem firstClass_eq_none_iff (classes : List (ImgClass × List (Nat × Bool))) :
    firstClass classes = none ↔ ∀ x ∈ classes, ∀ c ∈ x.2, c.2 = true := by
  induction classes with
  | nil => simp [firstClass]
  | cons x rest ih =>
    obtain ⟨c, checks⟩ := x
    unfold firstClass
    rw [List.forall_mem_cons]
    cases hf : firstFail checks with
    | none =>
      have hall := (firstFail_eq_none_iff checks).1 hf
      exact ih.trans (and_iff_right hall).symm
    | some off =>
      have hfails : ¬∀ c ∈ checks, c.2 = true := fun hall => by
        rw [(firstFail_eq_none_iff checks).2 hall] at hf
        exact nomatch hf
      exact ⟨fun h => (nomatch h), fun h => absurd h.1 hfails⟩

/-- A valid image passes the checks of its schedule (R23, R25). -/
theorem scheduleChecks_of_valid (h : imageFault g = none) : ∀ c ∈ scheduleChecks g, c.2 = true := by
  unfold imageFault at h
  split at h
  · exact nomatch h
  · split at h
    · exact nomatch h
    · exact (firstClass_eq_none_iff _).1 h (.schedule, scheduleChecks g) (by simp)

/-- The daily slots of a used route ascend (R23). -/
theorem slotMinute_lt (h : imageFault g = none) (hroute : route < 16) (hused : usedRoute g route = true) :
    ∀ i j, 1 ≤ i → i < j → j ≤ routeSlots g route → slotMinute g route i < slotMinute g route j := by
  have hfour : routeSlots g route ≤ 4 := ((within_iff _ _ _).1 hused).2
  have hnext : ∀ i, 1 ≤ i → i < routeSlots g route → slotMinute g route i < slotMinute g route (i + 1) := by
    intro i hi hlt
    have hcheck := scheduleChecks_of_valid h (routeBase route + 4 + 4 * i, within 0 1439 (slotMinute g route (i + 1)) &&
      (i == 0 || decide (routeSlots g route ≤ i) || decide (slotMinute g route i < slotMinute g route (i + 1)))) (by
        refine List.mem_flatMap.2 ⟨route, List.mem_range.2 hroute, ?_⟩
        dsimp only
        rw [if_pos hused]
        refine List.mem_cons_of_mem _ (List.mem_cons_of_mem _ (List.mem_flatMap.2 ⟨i, List.mem_range.2 (by omega), ?_⟩))
        exact List.mem_cons_self)
    simp only [Bool.and_eq_true, Bool.or_eq_true, beq_iff_eq, decide_eq_true_eq] at hcheck
    omega
  intro i j hi hij
  induction j, hij using Nat.le_induction with
  | base => exact fun hle => hnext i hi hle
  | succ j hj ih => exact fun hle => (ih (by omega)).trans (hnext j (by omega) hle)

theorem mem_usedRoutes : route ∈ usedRoutes g ↔ route < 16 ∧ usedRoute g route = true := by
  simp [usedRoutes]

/-- A ring filled from a time in range is in order (R91). -/
theorem fillRing_ok (h : imageFault g = none) {c : ClockTime} (hc : c.InRange) (hroute : route ∈ usedRoutes g) :
    (fillRing g route c.day c.ms).Ok g := by
  obtain ⟨hlt, hused⟩ := mem_usedRoutes.1 hroute
  obtain ⟨hday, hday', -⟩ := hc
  have hslots : 1 ≤ routeSlots g route := ((within_iff _ _ _).1 hused).1
  obtain ⟨-, e1, e2, e3, hentries, hall, h12, h23, hahead, -, hpast⟩ :=
    ringFillTakesNextThreeSlots g route c.day c.ms hslots hday hday' (slotMinute_lt h hlt hused)
  have h1 : 1 ≤ e1.day ∧ e1.day ≤ 366 := by
    by_cases hreached : ∀ i, 1 ≤ i → i ≤ routeSlots g route → slotMinute g route i ≤ c.ms / 60000
    · rw [(hpast hreached).1]
      exact nextDay_range ⟨hday, hday'⟩
    · push Not at hreached
      obtain ⟨i, hi, hin, hlate⟩ := hreached
      rw [(hahead i hi hin hlate).1]
      exact ⟨hday, hday'⟩
  obtain ⟨h2, -⟩ := slotAfter_range h12 h1 hslots
  obtain ⟨h3, -⟩ := slotAfter_range h23 h2 hslots
  have hdays : ∀ e ∈ [e1, e2, e3], 1 ≤ e.day ∧ e.day ≤ 366 := by
    simp only [List.forall_mem_cons]
    exact ⟨h1, h2, h3, fun _ h => nomatch h⟩
  refine ⟨⟨hused, e1, e2, e3, hentries, h12, h23⟩, fun e he => ?_⟩
  rw [hentries] at he
  obtain ⟨hslot, hslot', -, hheld, hbooked, hreserved⟩ := hall e he
  refine ⟨(hdays e he).1, (hdays e he).2, hslot, hslot', hheld ▸ slotShare_le _ _ _, ?_⟩
  rw [hbooked, hreserved]
  exact Nat.zero_le _

/-- The rings filled from a time, with no GIVE that reserves (R88, R91). -/
theorem RingsOk.fill {t : ImageStore} (hvalid : ∀ g, t.image = some g → imageFault g = none) {c : ClockTime}
    (hc : c.InRange) (hgives : ∀ x ∈ gs, x.live = false) : RingsOk t.image (fillRings t c.day c.ms) gs := by
  have hnamed : ∀ {p : TxGive → Prop}, ∀ x ∈ gs, x.live = true → p x := fun x hx hlive => by
    rw [hgives x hx] at hlive
    exact absurd hlive Bool.false_ne_true
  unfold fillRings
  cases hg : t.image with
  | none => exact ⟨List.nodup_nil, fun _ h => (nomatch h), fun _ h => (nomatch h), hnamed⟩
  | some g =>
    refine ⟨?_, fun r hr => ?_, fun r hr e he => ?_, hnamed⟩
    · have hroutes : ((usedRoutes g).map (fun r => fillRing g r c.day c.ms)).map Ring.route = usedRoutes g := by
        simp [Function.comp_def, fillRing]
      rw [hroutes]
      exact List.nodup_range.filter _
    · obtain ⟨route, hroute, rfl⟩ := List.mem_map.1 hr
      exact ⟨g, rfl, fillRing_ok (hvalid g hg) hc hroute⟩
    · rw [reservedBy_eq_zero fun x hx => by simp [TxGive.names, hgives x hx]]
      exact Nat.zero_le _

end Valid

/-! ### The state -/

/-- The units of the hall in order, for a queue of GIVEs. -/
structure State.Accounts (s : State) (gs : List TxGive) : Prop where
  image : ∀ g, s.store.image = some g → imageFault g = none
  storing : s.store.staging = .storing → imageFault s.store.staged = none
  clock : ∀ c, s.dispatch.clock = some c → c.InRange
  unset : s.dispatch.clock = none → s.dispatch.rings = []
  rings : RingsOk s.store.image s.dispatch.rings gs

section Accounts
variable {s t : State} {gs : List TxGive}

theorem DispatchTable.entry_ne_none_iff {d : DispatchTable} (h : (d.rings.map Ring.route).Nodup) (route day slot : Nat) :
    d.entry route day slot ≠ none ↔ ∃ r ∈ d.rings, r.route = route ∧ ∃ e ∈ r.entries, e.names day slot = true := by
  constructor
  · intro hne
    obtain ⟨e, he⟩ := Option.ne_none_iff_exists'.1 hne
    obtain ⟨r, hr, hroute, hmem⟩ := DispatchTable.entry_mem he
    obtain ⟨hd, hs⟩ := DispatchTable.names_of_entry he
    exact ⟨r, hr, hroute, e, hmem, by simp [Entry.names, hd, hs]⟩
  · rintro ⟨r, hr, rfl, e, he, hnames⟩ hnone
    cases hring : d.ring r.route with
    | none =>
      have hno := List.find?_eq_none.1 hring r hr
      simp at hno
    | some r' =>
      have hroute' : r'.route = r.route := by simpa using List.find?_some hring
      obtain rfl := List.inj_on_of_nodup_map h (List.mem_of_find?_eq_some hring) hr hroute'
      rw [DispatchTable.entry, hring] at hnone
      exact List.find?_eq_none.1 hnone e he hnames

theorem State.unitsOk_iff (s : State) : s.UnitsOk ↔ s.Accounts s.bus.gives := by
  constructor
  · rintro ⟨himage, hstoring, hclock, hunset, hnodup, hrings, hnamed⟩
    refine ⟨himage, hstoring, hclock, hunset, hnodup, fun r hr => (hrings r hr).1, fun r hr => (hrings r hr).2, ?_⟩
    exact fun x hx hlive => (DispatchTable.entry_ne_none_iff hnodup _ _ _).1 (hnamed x hx hlive)
  · rintro ⟨himage, hstoring, hclock, hunset, hrings⟩
    refine ⟨himage, hstoring, hclock, hunset, hrings.nodup, fun r hr => ⟨hrings.ring r hr, hrings.reserved r hr⟩, ?_⟩
    exact fun x hx hlive => (DispatchTable.entry_ne_none_iff hrings.nodup _ _ _).2 (hrings.named x hx hlive)

/-- The dispatch table changes its rings, with the GIVEs reserved on them. -/
theorem State.Accounts.setRings (h : s.Accounts gs) {u : State} {gs' : List TxGive} (hstore : u.store = s.store)
    (hclock : u.dispatch.clock = s.dispatch.clock) (hunset : s.dispatch.rings = [] → u.dispatch.rings = [])
    (hrings : RingsOk s.store.image u.dispatch.rings gs') : u.Accounts gs' := by
  refine ⟨hstore ▸ h.image, hstore ▸ h.storing, hclock ▸ h.clock, fun hc => hunset (h.unset (hclock ▸ hc)), ?_⟩
  rw [hstore]
  exact hrings

theorem RingsOk.reservations {image : Option Image} {rings : List Ring} {gs' : List TxGive} (h : RingsOk image rings gs)
    (hg : gs'.map TxGive.reservation = gs.map TxGive.reservation) : RingsOk image rings gs' := by
  refine ⟨h.nodup, h.ring, fun r hr e he => ?_, fun x hx hlive => ?_⟩
  · rw [reservedBy_of_reservations hg]
    exact h.reserved r hr e he
  · obtain ⟨y, hy, hres⟩ : ∃ y ∈ gs, y.reservation = x.reservation := by
      have hmem := List.mem_map_of_mem (f := TxGive.reservation) hx
      rw [hg] at hmem
      exact List.mem_map.1 hmem
    simp only [TxGive.reservation, Prod.mk.injEq] at hres
    obtain ⟨hylive, hroute, hday, hslot, -⟩ := hres
    have hfound := h.named y hy (hylive.trans hlive)
    rw [hroute, hday, hslot] at hfound
    exact hfound

theorem State.Accounts.aside (h : s.Accounts s.bus.gives) (ha : Aside s t) : t.Accounts t.bus.gives := by
  refine ⟨ha.store.image ▸ h.image, ha.store.storing h.storing, ha.dispatch.clock h.clock,
    fun hc => ha.dispatch.rings.trans (h.unset (ha.dispatch.clockSet hc)), ?_⟩
  rw [ha.store.image, ha.dispatch.rings]
  exact h.rings.reservations ha.bus.gives

theorem DispatchTable.updateRing_rings_nil {d : DispatchTable} (h : d.rings = []) (route : Nat) (f : Ring → Ring) :
    (d.updateRing route f).rings = [] := by
  rw [DispatchTable.updateRing, h]
  rfl

/-- A GIVE's ending is handed back (R149). -/
theorem State.Accounts.giveEnding {g : TxGive} (h : s.Accounts (g :: gs)) (e : Ending) : (s.giveEnding g e).Accounts gs := by
  have hends : (if g.live then s.setDispatch (s.dispatch.giveEnds g e) else s).Accounts gs := by
    split
    next hlive =>
      refine h.setRings rfl ?_ (fun hnil => ?_) (h.rings.giveEnds hlive e)
      · cases e <;> rfl
      · cases e with
        | acknowledged => exact DispatchTable.updateRing_rings_nil hnil _ _
        | abandoned => exact DispatchTable.updateRing_rings_nil hnil _ _
        | dropped => exact DispatchTable.updateRing_rings_nil hnil _ _
        | unheard => exact hnil
        | withdrawn => exact hnil
    next => exact h.setRings rfl rfl id h.rings.tail
  unfold State.giveEnding
  dsimp only
  split
  · exact hends.setRings rfl rfl id hends.rings
  · exact hends

theorem State.Accounts.dropGives (h : s.Accounts gs) : (State.dropGives gs s).Accounts [] := by
  induction gs generalizing s with
  | nil => exact h
  | cons g gs ih => exact ih (h.giveEnding _)

/-- An ASK answered from free units (R147, R148). -/
theorem State.Accounts.takeAsk (h : s.Accounts s.bus.gives) (p : Peer) (askNo route day slot units : Nat) :
    (s.takeAsk p askNo route day slot units).Accounts (s.takeAsk p askNo route day slot units).bus.gives := by
  unfold State.takeAsk
  split
  · exact h
  next e he =>
    split
    next hask =>
      obtain ⟨-, -, hroom, -⟩ := hask
      let m := min units (s.spare route e)
      let g : TxGive :=
        { target := p.station, askNo := askNo, giveNo := s.share.nextGive, route := route, day := day, slot := slot, units := m,
          begun := false, fails := 0, live := true }
      have hgives : (s.answerAsk p.station askNo route day slot m).bus.gives = s.bus.gives ++ [g] := by
        show (s.bus.queueGive g).gives = _
        rw [BusController.queueGive, if_pos hroom]
      have hfree : g.units ≤ e.free := (Nat.min_le_right _ _).trans (Nat.sub_le _ _)
      have hrings := h.rings.reserve (g := g) he hfree
      rw [hgives]
      exact h.setRings rfl rfl (fun hnil => DispatchTable.updateRing_rings_nil hnil _ _) hrings
    next => exact h

/-- A staged image that is valid becomes active: every reservation ends, and the rings are filled from it (R32, R33). -/
theorem State.Accounts.editionChange (h : s.Accounts s.bus.gives) {g : Image} (hg : imageFault g = none) :
    (s.editionChange g).Accounts (s.editionChange g).bus.gives := by
  have hvalid : ∀ x, (some g : Option Image) = some x → imageFault x = none := fun x hx => Option.some.inj hx ▸ hg
  rw [State.editionChange_eq]
  refine ⟨hvalid, h.storing, ?_, ?_, ?_⟩
  · rw [DispatchTable.rebuild_clock]
    exact h.clock
  · dsimp only
    rw [DispatchTable.rebuild_clock]
    intro hc
    rw [DispatchTable.rebuild_of_unset hc]
    exact h.unset hc
  · dsimp only
    cases hc : s.dispatch.clock with
    | none =>
      have hnil := h.unset hc
      have hrings := h.rings
      rw [hnil] at hrings
      rw [DispatchTable.rebuild_of_unset hc, State.editionBus, if_pos hc, hnil]
      exact ⟨List.nodup_nil, fun _ h => (nomatch h), fun _ h => (nomatch h), hrings.named⟩
    | some c =>
      rw [DispatchTable.rebuild_of_set hc, State.editionBus, if_neg (by simp [hc])]
      refine RingsOk.fill (t := { s.store with image := some g }) hvalid (h.clock c hc) fun x hx => ?_
      obtain ⟨y, -, rfl⟩ := List.mem_map.1 hx
      exact Bool.and_not_self y.live

theorem State.loaded_accounts (s : State) (n : Nat) (a b r : Bool) (beam : Beam) (line : Bool) :
    (s.loaded n a b r beam line).Accounts (s.loaded n a b r beam line).bus.gives := by
  have hload : ∀ t : ImageStore, ∀ g, (t.load r).image = some g → imageFault g = none := by
    intro t g hg
    unfold ImageStore.load at hg
    dsimp only at hg
    split at hg
    · split at hg
      next hf => exact Option.some.inj hg ▸ hf
      next => exact nomatch hg
    · exact nomatch hg
  have hstaging : ∀ t : ImageStore, t.staging = .idle → (t.load r).staging ≠ .storing := by
    intro t ht
    rw [(t.load_staging r).1, ht]
    exact fun h => nomatch h
  rw [State.loaded_eq]
  refine ⟨hload { State.reset.store with mem := s.store.mem }, fun h => ?_, fun _ h => (nomatch h), fun _ => rfl, ?_⟩
  · exact absurd h (hstaging { State.reset.store with mem := s.store.mem } rfl)
  · exact ⟨List.nodup_nil, fun _ h => (nomatch h), fun _ h => (nomatch h), fun _ h => (nomatch h)⟩

/-- Every piece keeps the units of the hall in order. -/
theorem Piece.keeps_units (h : Piece s t) (hs : s.Accounts s.bus.gives) : t.Accounts t.bus.gives := by
  induction h with
  | aside h => exact hs.aside h
  | trans _ _ ih ih' => exact ih' (ih hs)
  | ease h => exact hs.setRings rfl rfl (fun hnil => by rw [State.setDispatch_dispatch, hnil]; rfl) (hs.rings.ease h)
  | book he hload =>
    exact hs.setRings rfl rfl (fun hnil => DispatchTable.updateRing_rings_nil hnil _ _) (hs.rings.book he hload)
  | takeAsk => exact hs.takeAsk _ _ _ _ _ _
  | @giveEnds s g rest hg e =>
    have hleft : (s.putBus (s.bus.offeredLeaves .give)).Accounts (g :: rest) := hg ▸ hs.setRings rfl rfl id hs.rings
    have hgives : ((s.putBus (s.bus.offeredLeaves .give)).giveEnding g e).bus.gives = rest := by
      rw [State.giveEnding_bus]
      show s.bus.gives.drop 1 = rest
      rw [hg]
      rfl
    rw [hgives]
    exact hleft.giveEnding e
  | emptyQueue s =>
    rw [State.emptyQueue_bus]
    exact State.Accounts.dropGives (hs.setRings rfl rfl id hs.rings)
  | withdraw s test => exact hs.setRings rfl rfl id (hs.rings.withdraw test)
  | refill hr he hgives =>
    exact hs.setRings rfl rfl (fun hnil => DispatchTable.updateRing_rings_nil hnil _ _) (hs.rings.refill hr he hgives)
  | @imageStored s hstoring =>
    have hvalid := hs.storing hstoring
    unfold State.imageStored
    simp only [if_true]
    refine State.Accounts.aside (State.Accounts.editionChange ?_ hvalid) (.quiet (.answerHeld _ _ _ _))
    exact ⟨hs.image, fun h => (nomatch h), hs.clock, hs.unset, hs.rings⟩
  | loaded => exact State.loaded_accounts _ _ _ _ _ _ _
  | @firstClock s new hclock hnew =>
    have hrings := hs.rings
    rw [hs.unset hclock] at hrings
    refine ⟨hs.image, hs.storing, fun c hc => Option.some.inj hc ▸ hnew, fun h => (nomatch h), ?_⟩
    refine RingsOk.fill hs.image hnew fun x hx => Bool.eq_false_iff.2 fun hlive => ?_
    obtain ⟨r, hr, -⟩ := hrings.named x hx hlive
    exact nomatch hr
  | @applyUnits s route day slot units =>
    refine hs.setRings rfl ?_ (fun hnil => ?_) (hs.rings.applyUnits route day slot units)
    · rw [State.setDispatch_dispatch, DispatchTable.applyUnits]
      split <;> rfl
    · have happlied := DispatchTable.updateRing_rings_nil hnil route (fun r => { r with
        entries := r.entries.map (fun e => if e.names day slot then { e with held := satAdd 65535 e.held units } else e) })
      rw [State.setDispatch_dispatch, DispatchTable.applyUnits]
      split
      · exact happlied
      · exact hnil

end Accounts

/-- Settles O59: every step is made of pieces, each of which keeps the units in order. -/
theorem stepKeepsUnits : Obligations.StepKeepsUnits := by
  intro s t hs h
  exact t.unitsOk_iff.2 ((step_moves h).piece.keeps_units (s.unitsOk_iff.1 hs))

end Sys2Proof.Machine
end
